-- ==== Sys2Proof/Word.lean ====
section
/-! DEFINITION. Word.lean: the word types, the worlds, and the small records that are both operands of commands and
parts of the state (00_scope.md, R6-R9; the rules of each record are cited at it). -/
namespace Sys2Proof

/-- A 32-bit register or memory word (R9). -/
abbrev Word := BitVec 32
/-- One byte. -/
abbrev Byte := BitVec 8
/-- A fault code: class in the high byte, item in the low byte (R13). -/
abbrev Code := BitVec 16

/-- The two worlds (04_worlds.md). -/
inductive World where
  | S | NS
deriving DecidableEq, Repr, Inhabited

/-- The fabric initiators, IDs 0x0 to 0x8 (Table 4.1). -/
inductive Initiator where
  | secureCore | appCore | safetyMonitor | loopEngine | dma | saveEngine | cabWindow | deckImport | jtag
deriving DecidableEq, Repr, Inhabited

/-- Kinds of fabric access. -/
inductive Access where
  | read | write | fetch
deriving DecidableEq, Repr, Inhabited

/-- A fabric request (R109, R195): who asks, the world it carries where Table 4.1 lets it vary (Loop Engine, DMA, JTAG), the access,
its address, its size in bytes (1, 2, 4, or 4 n for a burst of n words), and the words to write. -/
structure BusReq where
  init : Initiator
  world : World := .S
  kind : Access
  addr : Word
  size : Nat := 4
  data : List Word := []
  /-- An Ethernet DMA transfer: its port and the address of its descriptor (R462). -/
  dma : Option (Fin 2 × Word) := none
deriving DecidableEq, Repr, Inhabited

/-- What a register write names: a fabric address, or a CSR of the application core's interrupt router (R10, R628). -/
inductive RegTarget where
  | addr (a : Word)
  | csr (n : BitVec 12)
deriving DecidableEq, Repr, Inhabited

/-- Who makes a mode request (R46, R51): a core write in a world, or an HSP command on a session of a world. -/
inductive Requester where
  | core (w : World)
  | hsp (w : World)
deriving DecidableEq, Repr, Inhabited

/-- What a phase comparator demands (R255). -/
inductive Demand where
  | none | rise | fall
deriving DecidableEq, Repr, Inhabited

/-- One bridge snapshot, the words of DK_BnSNAP (R268, Table 9.6). -/
structure Snap where
  valid1 : Bool := false
  src1 : BitVec 8 := 0
  t1 : Word := 0
  valid2 : Bool := false
  src2 : BitVec 8 := 0
  t2 : Word := 0
  gates : BitVec 6 := 0
  demand : BitVec 6 := 0
  later : Nat := 0
deriving DecidableEq, Repr, Inhabited

/-- A HYSC update: reference codes, sector, RUN bit and the bank words 0-4 (Table 9.3, R177). -/
structure HyscUpdate where
  bridge : Fin 4
  refU : BitVec 12
  refV : BitVec 12
  refW : BitVec 12
  sector : BitVec 3
  run : Bool
  vsel : Bool
  noW : Bool
  h : Word
  hMin : Word
  hMax : Word
  fTarget : Word
  zeroPref : Word
deriving DecidableEq, Repr, Inhabited

/-- The deck record of Table 9.1. -/
structure DeckRecord where
  range : BitVec 16 := 0
  b3store : Bool := false
  osr8 : Vector Nat 4 := .replicate 4 16
  tdead : Vector Nat 4 := .replicate 4 40
  tmin : Vector Nat 4 := .replicate 4 80
  tblank : Vector Nat 4 := .replicate 4 80
  oc : Vector Nat 4 := .replicate 4 1
  dcOv : Vector Nat 4 := .replicate 4 1
  dcUv : Vector Nat 4 := .replicate 4 0
  ntcTrip : Vector Nat 4 := .replicate 4 0
  ntcWarn : Vector Nat 4 := .replicate 4 0
  ntcR25 : Nat := 100
  ntcB : Nat := 2000
  tstoe : Nat := 100
deriving DecidableEq, Repr, Inhabited

/-- What a group of down-lane command words asks of the deck (Table 1.2, R23, R248, R263, R270). -/
inductive DeckCmd where
  /-- One HYSC update. -/
  | hysc (u : HyscUpdate)
  /-- A value for DECK port 0x000 (false, on-threshold) or 0x001 (true, off-threshold). -/
  | chop (off : Bool) (v : Word)
  /-- The pre-release test request of Procedure 11.1. -/
  | preTest (bridge : Fin 4)
  /-- The deck record, with the faulted bridges and their snapshots that R267 sends with it. -/
  | record (r : DeckRecord) (faults : Vector (Option Snap) 4)
deriving DecidableEq, Repr, Inhabited

/-- The part of a command group that one down-lane frame carries: the group's number, how many frames carry
part of it, and what the whole group asks (R23). -/
structure DownPart where
  group : Nat
  frames : Nat
  cmd : DeckCmd
deriving DecidableEq, Repr, Inhabited

/-- What the safety monitor samples in one 500 microsecond cycle (R285, R286, Procedure 11.1): the levels of SI0-SI15, the
incremental counts and absolute positions it decodes itself, the read-backs of the STOE balls, and for each of the 24
switches whether its forced inhibit stage reads back off. -/
structure SmSample where
  si : BitVec 16 := 0
  inc : Vector Int 4 := .replicate 4 0
  abs : Vector Int 4 := .replicate 4 0
  stoe : BitVec 4 := 0
  inhibitOff : BitVec 24 := 0xFFFFFF
deriving DecidableEq, Repr, Inhabited

/-- A Channel Manager command: its port, WORLD of CMD0 (port 1 only), HANDLE of CMD0, and CMD1 to CMD7 (Table 5.4). -/
structure ChnCall where
  port : Fin 4 := 0
  ns : Bool := false
  handle : BitVec 16 := 0
  w : Vector Word 7 := .replicate 7 0
deriving DecidableEq, Repr, Inhabited

/-- The output under test of R318, R319: a safe output, or the high-side or low-side switch of a brake pair. -/
inductive OutTest where
  | so (k : Fin 4)
  | bk (k : Fin 4) (low : Bool)
deriving DecidableEq, Repr, Inhabited

/-- One CLK_SYS cycle of one Bench arbiter (R203-R207): its number, counted alike for all four arbiters from the power-on of the Loop Engine
domain, the inputs on which a requester that is no lane requests, and the input on which each lane requests. -/
structure BenchCycle where
  cycle : Nat := 0
  others : BitVec 16 := 0
  lanes : Vector (Option (Fin 16)) 4 := .replicate 4 none
deriving DecidableEq, Repr, Inhabited

/-- What Procedure 3.1 reads from a flash: the JEDEC ID (first byte in [23:16]), whether the SFDP signature is good and a Basic Flash
Parameter Table is present, the place of that table, its DWORDs 1, 2 and 15 (none where the table is shorter), the quad-enable bit where
DWORD 15 names one, and status registers 1 and 2. -/
structure FlashId where
  id : BitVec 24
  sfdp : Bool
  dw1 : Word
  dw2 : Word
  dw15 : Option Word
  qe : Bool
  bfpt : BitVec 24 := 0
  sr1 : Byte := 0
  sr2 : Byte := 0
deriving DecidableEq, Repr, Inhabited

/-- One millisecond of the metrology island (R391-R393): the ratio of each bridge input in nV/V, its sense voltage and VCAB in mV, and
the acceleration vector in nm/s^2, none where the accelerometer gave no sample. -/
structure CabSample where
  ratio : Vector Int 4
  sense : Vector Nat 4
  vcab : Nat
  acc : Option (Int × (Int × Int))
deriving DecidableEq, Repr, Inhabited

/-- The legal parameters that a C telegram names (Table 14.2). -/
inductive CabParam where
  | maxE | eG | grav | cells | track
deriving DecidableEq, Repr, Inhabited

/-- The header of a Modbus TCP request: transaction and unit identifiers (R463). -/
structure MbHead where
  tid : BitVec 16
  unit : Byte
deriving DecidableEq, Repr, Inhabited

end Sys2Proof
end

