-- ==== Sys2Proof/Syntax.lean ====
section
/-! DEFINITION. Syntax.lean: the commands, one constructor per row of the command table, with the operands the spec gives
each (readings, frames, levels, addresses, payloads). -/
namespace Sys2Proof

/-- A command. -/
inductive Instr where
  /-- UP_FRAME (R23). The logic island receives one up-lane Trestle frame, checks its CRC and sequence, counts discarded or lost frames, and takes the modulator samples and the deck status. -/
  | upFrame (lane : Fin 4) (frame : BitVec 160)
  /-- DOWN_FRAME (R23). The deck receives one down-lane frame and applies a command group only when every frame carrying part of it has been accepted. -/
  | downFrame (lane : Fin 2) (frame : BitVec 80) (part : Option DownPart)
  /-- DECK_RECORD_RESEND (R248). No acknowledgement has arrived 200 µs after the deck record was sent, so the secure core sends it again. -/
  | deckRecordResend
  /-- DECK_RECORD_ACK (R248). The deck acknowledges the deck record on UP0, and the logic island adopts the deck or refuses to adopt it. -/
  | deckRecordAck
  /-- HBD_TIMEOUT (R26). The deck has seen no HBD edge for 8 µs and treats this as loss of all four carriers. -/
  | hbdTimeout (t : Word)
  /-- DECK_LOST (R26). No HBU edge has arrived from an adopted deck for 8 µs, so DECK_LOST is raised and LOCKOUT is entered or the cause recorded. -/
  | deckLost
  /-- FRAME_RATE_WINDOW (R27). A 1 ms window of CLK_FRAME ends and the up-lane frame count is judged against 980–1 020. -/
  | frameRateWindow (count : Nat)
  /-- DECK_SLEEP (R33). The deck receives the sleep command on DN0, acknowledges it on UP0 and sets its outputs high-impedance. -/
  | deckSleep
  /-- DECK_WAKE (R33). The deck receives the wake command on DN0, links up and drives its outputs with every gate command off. -/
  | deckWake
  /-- DECK_POWER_UP (R499). VDK has been above 13.5 V for 1 ms; the deck starts with its outputs off and sends training frames. -/
  | deckPowerUp
  /-- VDK_FAIL (R499). VDK has been below 13.2 V for 5 µs; the deck turns all gate commands off, drives STOE low and stops HBU. -/
  | vdkFail
  /-- CARRIER_LOSS (R264). The deck has seen no edge on KAn for 2 µs and turns all six gate commands of Bn off, then drives STOEn low. -/
  | carrierLoss (bridge : Fin 4) (t : Word)
  /-- CLK_DK_LOSS (R486). CLK_DK shows no edge for 1 µs; the deck monitor forces all gate commands off and drives STOE low. -/
  | clkDkLoss
  /-- CLK_DK_RETURN (R486). CLK_DK returns and the deck restarts as at its own power-up. -/
  | clkDkReturn
  /-- SELECT_RECIPE (R61). A SELECT_RECIPE request is checked in order and, if accepted, starts a recipe change. -/
  | selectRecipe (by_ : Requester) (rcp : BitVec 4)
  /-- ENTER_WATCH (R53). An ENTER_WATCH request is checked and, if accepted, starts the WATCH entry steps. -/
  | enterWatch (by_ : Requester)
  /-- ENTER_MAINT (R51). An ENTER_MAINT request is checked and, if accepted, moves LOCKOUT.FAULT to LOCKOUT.MAINT. -/
  | enterMaint (by_ : Requester)
  /-- RECIPE_CREATE_CHANNELS (R63). Once every destroyed channel is FREE, the new axis configurations take effect and the secure core creates and arms the new channels. -/
  | recipeCreateChannels
  /-- LKRST_PRESS (R326). A deliberate-reset press ends; every recorded cause is re-tested and the reset is granted or refused. -/
  | lkrstPress (failed : List Code) (fresh : List (Code × (BitVec 8 × Word)))
  /-- MAINT_EN_HIGH (R71). MAINT_EN_N goes high in LOCKOUT.MAINT and flash writing is refused from then on. -/
  | maintEnHigh
  /-- RESET_RELEASE (R75). At PORST_N release the straps are sampled, the clocks are checked and BOOT.POWERUP begins; `otp` says
  whether the OTP key-slot area passes its integrity check at the entry to BOOT.IMAGE (R88). -/
  | resetRelease (bootsel : BitVec 2) (dkpresent : Bool) (testN : Bool) (clocks : Bool) (otp : Bool)
  /-- FLASH_DISCOVERY (R77). Flash discovery on the selected chip select completes and checks steps 1–3. -/
  | flashDiscovery (flash : FlashId)
  /-- IMAGE_HEADER_CHECK (R80). The image header has been read and steps 4–9, including the signature, are checked. -/
  | imageHeaderCheck (header : List Byte)
  /-- BODY_READ (R85). The body read completes and its SHA-256 is compared with BODY_DIGEST. -/
  | bodyRead (body : List Byte)
  /-- IMAGE_COMMIT (R86). Steps 11–15 are checked and, on success, the sections and tables are applied and BOOT.SELFTEST begins. -/
  | imageCommit
  /-- SELFTEST_DONE (R48). The self-tests pass, BOOT.CHARGE begins and the charger starts. -/
  | selftestDone
  /-- SAVE_READY_SET (R523). VSAVE reaches 42.0 V and SAVE_READY is set. -/
  | saveReadySet (v : BitVec 16)
  /-- SAVE_READY_CLEAR (R523). VSAVE falls below 41.5 V and SAVE_READY is cleared. -/
  | saveReadyClear (v : BitVec 16)
  /-- VSAVE_FULL (R92). In BOOT.CHARGE the charger has reached 45 V and the capacitance check starts. -/
  | vsaveFull (v : BitVec 16)
  /-- CAPACITANCE_CHECK_DONE (R526). The 5 ms capacitance check ends; C is computed and judged by Table 19.1. -/
  | capacitanceCheckDone (v1 : BitVec 16) (v2 : BitVec 16)
  /-- CHARGE_TIMEOUT (R92). BOOT.CHARGE has not finished within 5 s, so HOLDUP_LOW is raised. -/
  | chargeTimeout
  /-- TRANSACTION_ISSUE (R195). An initiator issues a fabric transaction and takes a tag from its pool, or waits for one. -/
  | transactionIssue (r : BusReq)
  /-- TRANSACTION_RESPONSE (R197). The target answers a transaction with one response code after the world, rights and decode checks. `struck`
  names words of the ECC memories in which an error has arisen up to here, true for an uncorrectable one (R198). -/
  | transactionResponse (id : Nat) (struck : List (Word × Bool))
  /-- TAG_RETURN (R199). A fabric tag returns to its initiator's pool after its return window. -/
  | tagReturn (id : Nat)
  /-- REGISTER_WRITE (R10). A write to a register that has no row of its own follows its access codes. -/
  | registerWrite (init : Initiator) (w : World) (target : RegTarget) (value : Word)
  /-- LMEM_CORE_WRITE (R164). A core write to LMEM is performed only on inactive bank words or state word 7; otherwise FAULT_DECODE. -/
  | lmemCoreWrite (w : World) (addr : Word) (size : Nat) (value : Word)
  /-- STATUS_WORD_WRITE (R174). A core write to a stage's STATUS word clears SAT and EXP_OVF. -/
  | statusWordWrite (w : World) (record : Fin 2048) (value : Word)
  /-- BOARD_WORD_WRITE (R455). A core or host write to LE_BOARDn is taken if the word is host-writable, else FAULT_DECODE. -/
  | boardWordWrite (w : World) (n : Fin 64) (value : Word)
  /-- FAB_SNAP_TAKE (R200). A write of TAKE captures the free and in-flight counts of all pools in one cycle. -/
  | fabSnapTake (w : World)
  /-- DOMAIN_POWER_DOWN (R201). The PMU decides to power down a domain; new requests to or from it get FAULT_PD. -/
  | domainPowerDown (domain : Fin 4)
  /-- QUIESCE_TIMEOUT (R201). At tQUIESCE, unfinished transactions of the powering-down domain are aborted with FAULT_PD. `written` gives the words that
  each had written by then. -/
  | quiesceTimeout (domain : Fin 4) (written : List (Nat × Nat))
  /-- DOMAIN_ISOLATE (R201). Once no transaction remains and every tag has returned, the domain is isolated. -/
  | domainIsolate (domain : Fin 4)
  /-- CREATE (R151). CREATE is checked in order and, if accepted, allocates a slot and stage records. -/
  | create (c : ChnCall)
  /-- ARM (R168). ARM zeroes the channel's state, selects its bank and makes it ARMED. -/
  | arm (c : ChnCall)
  /-- START (R149). START requests power and, for a drive channel, the safety release; RUNNING follows at a later boundary. -/
  | start (c : ChnCall)
  /-- LIFT_START (R347). START with LIFT set checks the lift profile and admits, slows or refuses the lift. -/
  | liftStart (c : ChnCall)
  /-- HOLD (R147). HOLD moves a RUNNING channel to HELD at its next sample boundary. -/
  | hold (c : ChnCall)
  /-- RELEASE (R229). RELEASE returns a FAULTED channel to HELD. -/
  | release (c : ChnCall)
  /-- SWAP (R185). SWAP makes the inactive coefficient bank active, at once or at the next boundary. -/
  | swap (c : ChnCall)
  /-- INJECT (R234). INJECT checks and starts a test-signal injection on an INJ stage. -/
  | inject (c : ChnCall)
  /-- INJECT_STOP (R234). INJECT with SRC STOP ends a running injection. -/
  | injectStop (c : ChnCall)
  /-- CAPTURE (R237). CAPTURE checks its parameters and arms a capture unit. -/
  | capture (c : ChnCall)
  /-- CAPTURE_STOP (R237). CAPTURE with TRIG 0xF ends an ARMED or TRIGGERED unit of the channel. -/
  | captureStop (c : ChnCall)
  /-- DESTROY (R148). DESTROY frees a channel at once or moves it to DRAINING at its next sample boundary. -/
  | destroy (c : ChnCall)
  /-- QUERY (R140). QUERY reports a channel's state, by handle or by key, and changes nothing. -/
  | query (c : ChnCall)
  /-- FRAME_TICK (R165). A frame tick advances LE_TICKCNT and finds every class and channel sample boundary at that tick. -/
  | frameTick
  /-- STAGE_EVALUATE (R175). A lane evaluates one stage by its rule in Table 6.3 and stores its state; `bench`
  are the cycles of the record's bank that no earlier command has told, up to the lane's last access. -/
  | stageEvaluate (lane : Fin 4) (bench : List BenchCycle)
  /-- SAMPLE_DEADLINE (R211). A started sample reaches its deadline unfinished and escalates to Bench input 13. -/
  | sampleDeadline (slot : Fin 256)
  /-- SAMPLE_COMPLETE (R167). A channel's sample completes; its XFER and HYSC updates are issued and the outcome is classified. -/
  | sampleComplete (lane : Fin 4)
  /-- CAPTURE_GAP (R239). A record not read by the channel's next boundary is discarded and GAPS increments. -/
  | captureGap (unit : Fin 4)
  /-- COMPARATOR_CROSSING (R255). A phase current crosses a band edge and its leg or the switching vector changes. -/
  | comparatorCrossing (bridge : Fin 4) (phase : Fin 3) (code : Int)
  /-- DEAD_TIME_ELAPSED (R259). tDEAD has elapsed after a switch turned off, so the complementary switch turns on. -/
  | deadTimeElapsed (bridge : Fin 4) (leg : Fin 3)
  /-- TMIN_ELAPSED (R260). A deferred change is carried out after TMIN if it is still demanded. -/
  | tminElapsed (bridge : Fin 4) (sw : Fin 6)
  /-- BAND_WINDOW_END (R262). A 1 ms window of band regulation ends and Procedure 9.1 adjusts h. -/
  | bandWindowEnd (bridge : Fin 4)
  /-- NTC_READ (R252). The deck reads a heatsink NTC once per millisecond and converts it to temperature. -/
  | ntcRead (bridge : Fin 4) (ohms : Nat) (t : Word)
  /-- BLANKING_END (R265). A switch's blanking window ends with its fault line still high, so DESAT trips. -/
  | blankingEnd (bridge : Fin 4) (sw : Fin 6) (levels : BitVec 6) (t : Word)
  /-- DESAT (R266). A gate-driver fault line goes high on a released bridge outside blanking and trips the bridge. -/
  | desat (bridge : Fin 4) (levels : BitVec 6) (t : Word)
  /-- OVERCURRENT (R266). A phase current beyond the OC threshold trips the bridge. -/
  | overcurrent (bridge : Fin 4) (phase : Fin 3) (code : BitVec 12) (t : Word)
  /-- DC_LINK_SAMPLE (R251). The deck's OSR-64 DC-link decimator delivers an output for protection and the chopper. -/
  | dcLinkSample (bridge : Fin 4) (value : BitVec 31) (t : Word)
  /-- BRIDGE_TRIP_REPORT (R267). A deck trip report reaches the logic island, which raises the bridge code and enters LOCKOUT. -/
  | bridgeTripReport (bridge : Fin 4)
  /-- STOE_RAISE (R263). KAn has carried for 16 µs without a gap, so the deck raises STOEn. -/
  | stoeRaise (bridge : Fin 4)
  /-- GATE_ENABLE (R263). TSTOE after STOEn rose, the deck enables the gate commands of Bn. -/
  | gateEnable (bridge : Fin 4) (t : Word)
  /-- STO_INHIBIT_TEST (R321). A switch has been off for 200 ns, so its inhibit path is forced for 150 ns and read back. -/
  | stoInhibitTest (bridge : Fin 4) (sw : Fin 6) (readOff : Bool)
  /-- STO_PATH_TEST (R321). A switch left untested for 100 ms while its bridge is released raises STO_PATH_TEST. -/
  | stoPathTest (bridge : Fin 4) (sw : Fin 6)
  /-- SAFETY_CYCLE (R285). The 500 µs safety-monitor cycle forms speeds and positions and applies SS1, SLS, SLP and SDI. -/
  | safetyCycle (m : SmSample)
  /-- CARRIER_GAP_REPORT (R322). The deck reports the test carrier gap, the STOE hold ends and release proceeds or STO_PATH_TEST is raised. -/
  | carrierGapReport (bridge : Fin 4)
  /-- SAFE_INPUT_ACCEPT (R286). A safe-input level has held for tSIF and is accepted. -/
  | safeInputAccept (si : Fin 16)
  /-- SBC (R294). |v| has been at or below SSTILL for SSTILL_T, so the brakes are de-energised and the axis goes BRAKING. -/
  | sbc (axis : Fin 4)
  /-- BRAKE_APPLY_ELAPSED (R294). tBKAPPLY after the brakes were applied, the carriers stop and the axis goes STO. -/
  | brakeApplyElapsed (axis : Fin 4)
  /-- BRAKE_RELEASE_ELAPSED (R291). tBKREL after the bridges were released, the brakes are energised and the axis goes RELEASED. -/
  | brakeReleaseElapsed (axis : Fin 4)
  /-- BRAKE_FEEDBACK (R295). The brake feedback has not followed BRAKES within tBKFB, so BRAKE_FEEDBACK is raised. -/
  | brakeFeedback (axis : Fin 4)
  /-- AXIS_RESET (R300). An RST_IN press ends and the axis reset is granted or ignored. -/
  | axisReset (axis : Fin 4)
  /-- SAF_AXCMD_RESET (R300). A secure write of RESET to SAF_AXCMD counts as a reset press that has just ended. -/
  | safAxcmdReset (axis : Fin 4)
  /-- ENC_CROSSCHECK (R316). An XC_WIN window ends and the position and speed sources are compared. -/
  | encCrosscheck (axis : Fin 4)
  /-- TEST_PULSE_START (R317). A TO test output starts its low test pulse. -/
  | testPulseStart (toOut : Fin 4)
  /-- TEST_PULSE_END (R317). A test pulse ends and the assigned inputs are judged, raising SI_TESTPULSE on failure. -/
  | testPulseEnd (levels : BitVec 16)
  /-- OFF_PULSE_START (R318). An on SO output or BK switch is turned off for OP_WIDTH. -/
  | offPulseStart (out : OutTest)
  /-- OFF_PULSE_END (R318). An off-pulse ends and its read-back is judged, raising OFFPULSE_SO or OFFPULSE_BK on failure. -/
  | offPulseEnd (readLow : Bool)
  /-- ON_PULSE_START (R319). An off output with ONP_EN set is turned on for 150 µs. -/
  | onPulseStart (out : OutTest)
  /-- ON_PULSE_END (R319). An on-pulse ends and its read-back is judged. -/
  | onPulseEnd (readOk : Bool)
  /-- SM_LOCKSTEP (R315). A lockstep mismatch raises SM_LOCKSTEP, or LOCKSTEP_REPEAT after a granted reset. -/
  | smLockstep
  /-- SM_RAM_ECC (R315). A safety-monitor SRAM access is corrected and counted, or raises SM_RAM_ECC. -/
  | smRamEcc (corrected : Bool)
  /-- SM_RAM_SCRUB (R315). The 1 s full scrub of safety-monitor SRAM runs. -/
  | smRamScrub (corrected : Nat) (uncorrectable : Bool)
  /-- SM_ROM_CHECK (R315). The 10 s ROM signature and parameter-copy CRC check runs. -/
  | smRomCheck (romOk : Bool) (crcOk : Bool)
  /-- HISTORY_WRITE (R327). A lockout history entry is written to the Chest ring. -/
  | historyWrite
  /-- SPM_ALLOCATION (R341). Procedure 12.1 re-allocates the budget to P0, P1 and P2 consumers. -/
  | spmAllocation
  /-- POWER_CRITICAL_CLEAR (R344). The P0 minimums have fitted within A for 1 s, so POWER_CRITICAL clears. -/
  | powerCriticalClear
  /-- LOAD_RED_ASSERT (R339). The filtered LOAD_RED_N asserts and the reduce ramp starts. -/
  | loadRedAssert
  /-- LOAD_RED_RELEASE (R339). LOAD_RED_N releases and the limit is removed at the next allocation. -/
  | loadRedRelease
  /-- REDUCE_RAMP_STEP (R339). Each millisecond of the reduce ramp lowers the limit and re-runs the allocation. -/
  | reduceRampStep
  /-- PREF_TRIP (R340). The filtered PREF_TRIP_N asserts and every P2 grant is set to 0. -/
  | prefTrip
  /-- HOSTBUD_TIMEOUT (R337). SPM_HOSTBUD has not been written for HSP_TIMEOUT, so FALLBACK_KW is used. -/
  | hostbudTimeout
  /-- SPM_HOSTBUD_WRITE (R336). A write of SPM_HOSTBUD sets the host budget and re-runs the allocation. -/
  | spmHostbudWrite (w : World) (kw : BitVec 16)
  /-- LIFT_REEVALUATE (R352). Every 10 ms the committed lift is re-forecast and the offered speed updated. -/
  | liftReevaluate
  /-- LIFT_HOLD_SHORT (R353). At standstill for SSTILL_T after STOPPING, a non-safety SS1 holds the load and the lift ends HELD_SHORT. -/
  | liftHoldShort
  /-- HL_FRAME_ORIGIN (R367). The keeper originates a cycle frame every 250 µs with the group budget and targets. -/
  | hlFrameOrigin
  /-- HL_FRAME_PASS (R367). A node forwards the frame, replaces its slot and reads the others. -/
  | hlFramePass (port : Fin 2) (frame : List Byte)
  /-- HL_PASS_END (R376). The frame returns to the keeper, which forms SUM and sets BALANCED. -/
  | hlPassEnd (port : Fin 2) (frame : List Byte)
  /-- HL_LINK_LOST (R370). No good frame for 600 µs; a follower switches to droop sharing. -/
  | hlLinkLost
  /-- DROOP_UPDATE (R370). The droop demand is recomputed every 100 µs. -/
  | droopUpdate
  /-- DROOP_LEAVE (R371). The master has been fresh in 8 frames, so the follower ramps back to the master's demand. -/
  | droopLeave
  /-- HL_PORT_DOWN (R378). A port shows no comma for 16 µs or discards two frames, and the node folds the ring. -/
  | hlPortDown (port : Fin 2)
  /-- HL_TOKEN_TIMEOUT (R379). 100 ms after link loss, the node's holding drops to P0MIN. -/
  | hlTokenTimeout
  /-- HL_BACKUP_ORIGIN (R380). No frame for 1 ms; the lowest live node originates backup frames. -/
  | hlBackupOrigin
  /-- CAB_START (R405). VCAB comes into range and the island runs its start-up checks. -/
  | cabStart (rom : Bool) (params : Bool) (accel : Bool)
  /-- CAB_SAMPLE (R393). The 1 kHz compensated gross is formed and stability is judged. -/
  | cabSample (m : CabSample)
  /-- ZERO (R398). The ZERO command sets the current stable gross to zero. -/
  | zero (w : World) (tag : Byte)
  /-- TARE (R399). The TARE command takes the current stable gross as tare. -/
  | tare (w : World) (tag : Byte)
  /-- TARE_CLEAR (R399). The TARE_CLEAR command sets tare to 0. -/
  | tareClear (w : World) (tag : Byte)
  /-- RECORD (R400). The RECORD command writes and signs a legal record. -/
  | record (w : World) (tag : Byte)
  /-- ALIBI_READ (R411). The ALIBI_READ command returns a REPLAY record of a given SEQ. -/
  | alibiRead (w : World) (tag : Byte)
  /-- CAB_STATUS (R411). The STATUS command returns a STATUS record. -/
  | cabStatus (w : World) (tag : Byte)
  /-- CAB_COMMAND_COMPLETE (R411). A waiting ZERO, TARE or RECORD finds a stable result and completes with its answer. -/
  | cabCommandComplete
  /-- CAB_STABILITY_TIMEOUT (R411). No stable result within 5 s; the command is answered NOT_STABLE. -/
  | cabStabilityTimeout
  /-- CAB_POWER_DOWN (R406). VCAB below 3.0 V; the island finishes any alibi write, stores ITIME and stops. -/
  | cabPowerDown (torn : Bool)
  /-- CALSW_CHANGE (R402). The filtered CALSW changes, setting or clearing the CAL cause. -/
  | calswChange (closed : Bool)
  /-- H_TELEGRAM (R408). An H telegram arrives on LEGAL_RX and is served. -/
  | hTelegram (bytes : List Byte)
  /-- C_TELEGRAM (R402). A C telegram changes a legal parameter while CALSW is closed. -/
  | cTelegram (bytes : List Byte)
  /-- S_TELEGRAM (R402). An S telegram captures zero or span while CALSW is closed. -/
  | sTelegram (bytes : List Byte)
  /-- W_TELEGRAM (R412). A W telegram is sent every 100 ms while the island is legal. -/
  | wTelegram
  /-- DISPLAY_TIMEOUT (R408). No H telegram for 2 s; RECORD is answered NOT_LEGAL with the display flag set. -/
  | displayTimeout
  /-- NOT_LEGAL_CLEAR (R407). A NOT_LEGAL cause clears once its condition has been absent for 10 s. -/
  | notLegalClear (cause : Fin 8)
  /-- XCAB_LOSS (R407). No XCAB edge for 122 µs, or CLK_CAB off by more than 1 %, sets the cause XCAB. -/
  | xcabLoss
  /-- CABW_POP (R409). A write of POP moves the FIFO head into CABW_RECk. -/
  | cabwPop (w : World)
  /-- FO_MEASURE (R427). Each output's current is measured every 1 ms. -/
  | foMeasure (currents : Vector (Option (BitVec 12)) 32)
  /-- FO_SHORT (R428). An output held at its limit for 100 µs, or an overheated switch, turns off and raises FO_SHORT. -/
  | foShort (out : Fin 32) (hot : Bool)
  /-- FO_RETRY (R428). After RETRY_T, an output still commanded on turns on again. -/
  | foRetry (out : Fin 32)
  /-- FO_RETRY_RESET (R428). An output that has run 10 s without a short has its retry count restored. -/
  | foRetryReset (out : Fin 32)
  /-- FO_CLEAR (R429). A write of FIO_FOCLR clears the LATCHED state of the outputs named. -/
  | foClear (w : World) (mask : Word)
  /-- OPEN_LOAD_OBSERVE (R430). An open-load observation is taken by the first applicable method. -/
  | openLoadObserve (out : Fin 32) (opened : Bool)
  /-- TACH_PULSE (R432). A fan tach pulse measures speed and ends spin-up or a kick. -/
  | tachPulse (fan : Fin 8) (width : Nat) (period : Option Nat)
  /-- FAN_SPIN_TIMEOUT (R433). No tach pulse within tSPIN starts a kick, or after the third attempt raises FAN_STALL. -/
  | fanSpinTimeout (fan : Fin 8)
  /-- FAN_KICK_END (R433). A 2 s kick at 100 % ends and the commanded duty returns. -/
  | fanKickEnd (fan : Fin 8)
  /-- FAN_TACH_TIMEOUT (R434). A running fan below MIN_RPM for 2 s raises TACH_LOST or FAN_STALL. -/
  | fanTachTimeout (fan : Fin 8) (rpm : BitVec 16)
  /-- FAN_RECOVER (R435). Speed at or above MIN_RPM for 5 s clears FAN_STALL or TACH_LOST. -/
  | fanRecover (fan : Fin 8) (rpm : BitVec 16)
  /-- AI_SCAN (R436). All 16 analog inputs are converted every 500 µs. -/
  | aiScan (codes : Vector (BitVec 16) 16)
  /-- ENC_COUNT_EDGE (R438). A filtered A/B edge changes the incremental count or sets ILLEGAL or OVERSPEED. -/
  | encCountEdge (port : Fin 4) (back : Bool) (both : Bool) (close : Bool)
  /-- ABS_FRAME (R439). Once per ABS_PER an absolute frame is clocked in and checked. -/
  | absFrame (port : Fin 4) (ready : Bool) (data : Word) (err : Bool) (ended : Bool)
  /-- GPIO_EDGE (R441). An enabled GPIO edge sets its IF flag. -/
  | gpioEdge (pin : Fin 24) (level : Bool)
  /-- SPI_DATA_WRITE (R441). A write of SER_SPIDATA starts an SPI frame. -/
  | spiDataWrite (w : World) (value : Word)
  /-- SPI_FRAME_COMPLETE (R441). An SPI frame completes and its received data is held. -/
  | spiFrameComplete (data : Word)
  /-- UART_DATA_WRITE (R441). A write of SER_UARTDATA queues a byte for transmission. -/
  | uartDataWrite (w : World) (value : Byte)
  /-- UART_BYTE_SENT (R441). The UART finishes sending a byte and frees FIFO room. -/
  | uartByteSent
  /-- UART_BYTE_RECEIVED (R441). The UART receives a byte into its FIFO. -/
  | uartByteReceived (value : Byte)
  /-- I2C_GO (R441). GO in SER_I2CCTL starts an I2C transfer. -/
  | i2cGo (w : World) (ctl : Word)
  /-- I2C_COMPLETE (R441). An I2C transfer completes, with NACK where applicable. -/
  | i2cComplete (ack : Bool) (data : Byte)
  /-- ETH_FRAME_RECEIVE (R452). An Ethernet frame is received and answered, passed on or dropped by the stack. -/
  | ethFrameReceive (port : Fin 2) (frame : List Byte)
  /-- ETH_LINK_CHANGE (R452). A PHY link goes up or down, or the reference clock is lost. -/
  | ethLinkChange (port : Fin 2) (up : Bool) (ref : Bool)
  /-- DMA_DESCRIPTOR_COMPLETE (R462). An Ethernet DMA descriptor completes with the status and byte count of its transfer. -/
  | dmaDescriptorComplete (port : Fin 2)
  /-- HELLO (R457). HELLO opens an HSP session with a derived session key. -/
  | hello (port : Fin 2) (datagram : List Byte)
  /-- CLOSE (R457). CLOSE ends an HSP session. -/
  | close (port : Fin 2) (datagram : List Byte)
  /-- HSP_SESSION_TIMEOUT (R457). A session with no valid request for SESS_TMO closes. -/
  | hspSessionTimeout (sid : Nat)
  /-- READ (R460). HSP READ performs fabric reads in the session's world. -/
  | read (port : Fin 2) (datagram : List Byte)
  /-- WRITE (R460). HSP WRITE performs fabric writes in the session's world. -/
  | write (port : Fin 2) (datagram : List Byte)
  /-- CHN (R460). HSP CHN runs a channel command on port 1. -/
  | chn (port : Fin 2) (datagram : List Byte)
  /-- RECIPE (R460). HSP RECIPE writes SYS_MODEREQ with SELECT_RECIPE. -/
  | recipe (port : Fin 2) (datagram : List Byte)
  /-- WATCH (R460). HSP WATCH writes SYS_MODEREQ with ENTER_WATCH. -/
  | watch (port : Fin 2) (datagram : List Byte)
  /-- MAINT (R51). HSP MAINT requests ENTER_MAINT on an S session. -/
  | maint (port : Fin 2) (datagram : List Byte)
  /-- STATUS (R460). HSP STATUS returns the status page. -/
  | status (port : Fin 2) (datagram : List Byte)
  /-- CAPREAD (R460). HSP CAPREAD reads capture words of a unit. -/
  | capread (port : Fin 2) (datagram : List Byte)
  /-- TAGREAD (R580). HSP TAGREAD reads bytes of the tag area. -/
  | tagread (port : Fin 2) (datagram : List Byte)
  /-- TAGWRITE (R460). HSP TAGWRITE writes one 32-byte tag block through port 0. -/
  | tagwrite (port : Fin 2) (datagram : List Byte)
  /-- FLASH_SEL (R95). FLASH_SEL unlocks the controller and runs discovery on a chip select. -/
  | flashSel (port : Fin 2) (datagram : List Byte)
  /-- FLASH_ERASE (R95). FLASH_ERASE erases a 4 KiB sector or a 64 KiB block. -/
  | flashErase (port : Fin 2) (datagram : List Byte)
  /-- FLASH_PROG (R95). FLASH_PROG programs one 256-byte page. -/
  | flashProg (port : Fin 2) (datagram : List Byte)
  /-- FLASH_READ (R95). FLASH_READ reads flash bytes. -/
  | flashRead (port : Fin 2) (datagram : List Byte)
  /-- FLASH_COMMAND_COMPLETE (R461). The flash reports completion, or 4 s pass, and the flash command is answered. -/
  | flashCommandComplete (done : Bool) (id : Option FlashId) (data : List Byte)
  /-- KEY_WRITE (R126). KEY_WRITE writes a key-store entry in LOCKOUT.MAINT. -/
  | keyWrite (port : Fin 2) (datagram : List Byte)
  /-- OTP_SLOT (R87). OTP_SLOT programs a slot hash or revokes a slot. -/
  | otpSlot (port : Fin 2) (datagram : List Byte)
  /-- SECURE_LOCK (R131). SECURE_LOCK sets the OTP bit that disables secure-core debug. -/
  | secureLock (port : Fin 2) (datagram : List Byte)
  /-- TAG_UNLOCK (R577). TAG_UNLOCK clears the lock of a tag segment. -/
  | tagUnlock (port : Fin 2) (datagram : List Byte)
  /-- RESET (R461). The HSP RESET command is answered and then performs a full reset. -/
  | reset (port : Fin 2) (datagram : List Byte)
  /-- MODBUS_CONNECT (R463). A Modbus TCP connection is accepted or, as a fifth connection, reset. -/
  | modbusConnect (conn : Nat) (port : Fin 2)
  /-- MODBUS_IDLE_TIMEOUT (R463). A Modbus connection idle for 60 s is closed. -/
  | modbusIdleTimeout (conn : Nat)
  /-- READ_HOLDING_REGISTERS (R464). Function 03 reads holding registers. -/
  | readHoldingRegisters (conn : Nat) (head : MbHead) (start count : BitVec 16)
  /-- READ_INPUT_REGISTERS (R464). Function 04 reads input registers. -/
  | readInputRegisters (conn : Nat) (head : MbHead) (start count : BitVec 16)
  /-- WRITE_SINGLE_REGISTER (R464). Function 06 writes one holding register. -/
  | writeSingleRegister (conn : Nat) (head : MbHead) (reg value : BitVec 16)
  /-- WRITE_MULTIPLE_REGISTERS (R464). Function 16 writes several holding registers as one action. -/
  | writeMultipleRegisters (conn : Nat) (head : MbHead) (start count : BitVec 16) (data : List Byte)
  /-- MODBUS_OTHER_FUNCTION (R463). Any other function code is answered with exception 01. -/
  | modbusOtherFunction (conn : Nat) (head : MbHead) (function : Byte)
  /-- CAN_HEARTBEAT (R465). The heartbeat frame is sent every HB_MS. -/
  | canHeartbeat (ctl : Fin 2)
  /-- JOYSTICK_FRAME (R466). A joystick frame writes its three board words. -/
  | joystickFrame (ctl : Fin 2) (data : Vector Byte 8)
  /-- JOYSTICK_TIMEOUT (R466). No joystick frame for JOY_TMO; the words are zeroed and STALE is set. -/
  | joystickTimeout
  /-- TANK_FRAME (R467). A tank frame writes its level board word. -/
  | tankFrame (ctl : Fin 2) (tank : Fin 32) (data : Vector Byte 8)
  /-- TANK_TIMEOUT (R467). No tank frame for TANK_TMO; the word reads 0x8000_0000. -/
  | tankTimeout (tank : Fin 32)
  /-- CAN_BUSOFF_RECOVERY (R465). A bus-off controller recovers after 128 occurrences of 11 recessive bits. -/
  | canBusoffRecovery (ctl : Fin 2)
  /-- XSYS_LOSS (R484). XSYS or PLL lock is lost; the PLL moves to the system RC and CLOCK_FAIL is raised. -/
  | xsysLoss
  /-- XAON_SWITCH (R483). XAON has run 1 024 cycles within tolerance, and CLK_AON switches to it. -/
  | xaonSwitch
  /-- XAON_START_TIMEOUT (R483). XAON has not qualified within 2 s of reset release and is treated as lost. -/
  | xaonStartTimeout
  /-- XAON_LOSS (R485). XAON is lost; CLK_AON falls back to the AON RC and the fallback is counted. -/
  | xaonLoss
  /-- REFCLK_PROBE (R479). In the maintenance configuration ETH0_REFCLK is watched for 100 µs, then used as input or driven. -/
  | refclkProbe (edges : Bool)
  /-- VIN_QUALIFIED (R503). VIN has been at or above 18.0 V for 10 ms; t0 starts the rail bring-up. -/
  | vinQualified
  /-- RAIL_START (R503). A rail starts at its delay-table instant. -/
  | railStart
  /-- BRING_UP_FAIL (R504). A rail misses power-good within 0.8 ms; the rails shut down in reverse order. -/
  | bringUpFail (rail : Fin 4)
  /-- BRING_UP_RETRY (R504). 100 ms after a failure or rail fault, bring-up starts again from a new t0. -/
  | bringUpRetry
  /-- FULL_RESET (R505). PORST_N low for at least 10 µs resets every logic domain. -/
  | fullReset
  /-- RAIL_FAULT (R506). A rail outside its window for 20 µs causes a rail-fault reset. -/
  | railFault (rail : Fin 4)
  /-- VIN_OV (R507). VIN above VIN_OV for 1 ms raises VIN_OV and enters LOCKOUT. -/
  | vinOv (v : BitVec 16)
  /-- VIN_LOW (R508). VIN between 16.0 and 18.0 V sets PMU_STAT.VINLOW. -/
  | vinLow (v : BitVec 16)
  /-- VFO_LOW (R496). VFO below 18 V sets FIO_VFO.LOW and suspends open-load observation. -/
  | vfoLow (v : BitVec 16)
  /-- TEMP_READ (R513). Die sensors are read each millisecond and judged by Table 18.6. -/
  | tempRead (temps : Vector (Option (BitVec 24)) 8)
  /-- SAG_CONFIRM (R528). VIN has been below the sag threshold for tSAGDEB; the PMU gates outputs and starts the save or powers down. -/
  | sagConfirm (v : BitVec 16)
  /-- SAVE_CAPTURE (R530). Accepted Chest stores and running samples complete, and the record captures the state. -/
  | saveCapture
  /-- SAVE_RECORD_WRITE (R534). The save record is written to the target slot, header block last, with read-back. -/
  | saveRecordWrite (ok : Bool)
  /-- SAVE_COMPLETE (R529). The Drawer is filled and the core domains and rails go off. -/
  | saveComplete (v : BitVec 16) (vmin : BitVec 16)
  /-- AON_LOSS (R533). VSAVE falls below 12 V and everything held from it is lost. -/
  | aonLoss (vbat : Bool)
  /-- HOLDUP_LOW (R525). SAVE_READY clear for 1 s in OPERATE or LOCKOUT raises HOLDUP_LOW. -/
  | holdupLow
  /-- SAG_RESUME (R536). VIN has been back for 50 ms with the always-on domain intact; charging and the wake table restart. -/
  | sagResume
  /-- RESUME_HOLDUP_TIMEOUT (R536). SAVE_READY not reached within 5 s of resume; the wake runs into LOCKOUT with HOLDUP_LOW. -/
  | resumeHoldupTimeout
  /-- SAVE_HOME (R541). A secure write of GO to SAVE_HOME requests homing of an axis. -/
  | saveHome (w : World) (axis : Fin 4)
  /-- POSITION_VERIFY_TIMEOUT (R550). No good absolute frame within 100 ms of the comparison; the port is UNVERIFIED. -/
  | positionVerifyTimeout (port : Fin 4)
  /-- WATCH_COMMIT (R551). The WATCH entry steps finish and the core, Loop Engine and network domains are isolated. -/
  | watchCommit
  /-- TOKEN_RETURN_TIMEOUT (R551). The WATCH token return is not accepted within 10 ms, so entry proceeds. -/
  | tokenReturnTimeout
  /-- WATCH_WINDOW_END (R559). The 3-cycle entry window ends; a level wake still present wakes. -/
  | watchWindowEnd
  /-- WATCH_SAMPLE (R555). A watch sample converts and compares the inputs and decides to wake or sleep. -/
  | watchSample (codes : Vector (BitVec 16) 16) (si : BitVec 16) (temps : Vector (BitVec 24) 6)
  /-- WAKE_PIN (R558). A level or edge on WAKEn is recognised as a wake source. -/
  | wakePin (pin : Fin 4) (level : Bool)
  /-- RTC_ALARM (R558). The RTC second equals AON_ALARM.S with the alarm enabled. -/
  | rtcAlarm
  /-- WAKE_START (R560). A wake source starts the wake table, restoring the core domain and the Drawer. -/
  | wakeStart
  /-- WAKE_READY (R560). At the ready point the device enters OPERATE, or LOCKOUT if the deck is not linked. -/
  | wakeReady (pll : Bool)
  /-- RTC_WRITE (R498). A write of AON_RTC sets the RTC and clears RTC_LOST and RTC_INACC. -/
  | rtcWrite (w : World) (value : Word)
  /-- TAG_WRITE (R575). GO on a tag port submits a 32-byte block write, refused if the segment is locked. -/
  | tagWrite (port : Fin 2) (w : World) (block : BitVec 5)
  /-- TAG_WRITE_COMPLETE (R578). A tag block is written, RESULT set, and the metadata updated. -/
  | tagWriteComplete
  /-- TAG_LOCK (R577). A write to CHEST_TAGLOCK locks tag segments. -/
  | tagLock (port : Fin 2) (w : World) (seg : BitVec 8)
  /-- LIFETIME_WRITE (R579). Pending lifetime-counter increments are written to the Chest. -/
  | lifetimeWrite
  /-- HBU_PAUSE (R27). Before adoption, an HBU pause of 8 µs restarts link-up without raising a code. -/
  | hbuPause
  /-- MAINT_EN_LOW (R51). MAINT_EN_N goes low and starts the 100 ms that ENTER_MAINT and the maintenance flash and key commands require. -/
  | maintEnLow
  /-- LKRST_PRESS_BEGIN (R325). The filtered LKRST_N goes low, or first becomes high for 20 ms, and starts timing a deliberate-reset press (SAF_LKSTAT.PRESS). -/
  | lkrstPressBegin (low : Bool)
  /-- PREF_TRIP_RELEASE (R340). The filtered PREF_TRIP_N releases, SPM_STAT.PREFTRIP clears and P2 STARTs are no longer refused. -/
  | prefTripRelease
  /-- VFO_RETURN (R496). VFO returns to 18 V or above, FIO_VFO.LOW clears and open-load observation resumes. -/
  | vfoReturn (v : BitVec 16)
  /-- ENC_Z_EDGE (R438). A filtered Z edge on an encoder port sets ZSEEN and, with ZLATCH, latches the incremental count in ENC_EPnZLAT. -/
  | encZEdge (port : Fin 4)
  /-- BRAKE_DRIVER_WATCHDOG (R324). The brake-driver watchdog expires after a safety-monitor fault and turns the brake drivers off without a command. -/
  | brakeDriverWatchdog
  /-- CAN_BUS_ERROR (R465). A CAN bus error changes TEC or REC and can make a controller error-passive or bus-off. -/
  | canBusError (ctl : Fin 2) (transmit : Bool) (primary : Bool)
  /-- VIN_BELOW_10V (R504). VIN falls below 10 V and releases the lock that keeps the rails off after three failed bring-ups. -/
  | vinBelow10v
  /-- BOOT_SAG_RESTART (R99). After a sag halted BOOT, VIN has been at least 18 V for 100 ms with the always-on domain intact, and BOOT restarts at BOOT.IMAGE, BOOT.SELFTEST or BOOT.CHARGE. -/
  | bootSagRestart
deriving DecidableEq, Repr

end Sys2Proof
end

