-- ==== Sys2Proof/Decode.lean ====
section
/-! DEFINITION. Decode.lean: the command that a word spells by the bits of the command table. No row of
spec/opcode_table.json gives bits, so no word spells one. -/
namespace Sys2Proof

/-- The command of a table word: none, for the table gives no row any bits. -/
def decodeTableWord (_nbits _w : Nat) : Option Instr := none

end Sys2Proof
end

