-- ==== Sys2Proof/Config.lean ====
section
/-! DEFINITION. Config.lean: the values that the spec leaves open. Each is a constant without a body: no proof can see
what it is, so a statement holds whatever it is. -/
namespace Sys2Proof.Config
open Sys2Proof

/-- A fresh free word; applied to State.freeCtr (log entry 4). -/
opaque freeWord : Nat → BitVec 32

/-- Whether a quotient whose rounding no rule states is rounded up (log entry 5). -/
opaque roundUp : Int → Nat → Bool

/-- n / d where the spec states no rounding: exact where d divides n, else one of the two neighbours (log entry 5). -/
def roundFree (n : Int) (d : Nat) : Int :=
  n / (d : Int) + (if n % (d : Int) = 0 then 0 else if roundUp n d then 1 else 0)

/-- The value of a SINE or CHIRP sample for a phase and an amplitude, before it is limited to the tolerance of R232 (log entry 6). -/
opaque sine : Word → Int → Int

/-- What a register field shows of a value that it is too narrow for and for which no rule states a limit (log entry 9). -/
opaque overWord : Nat → BitVec 32

/-- A value as a field of w bits shows it: itself where it fits (log entry 9). -/
def shown (v w : Nat) : Nat := if v < 2 ^ w then v else (overWord v).toNat

/-- The vendor key in boot ROM that signs secure-core patches (R83, log entry 50). -/
opaque vendorKey : List Byte

/-- The checksum of the metrology island's firmware (Tables 14.4, 14.7, log entry 55). -/
opaque cabChecksum : BitVec 16

/-- The group budget in kW that a keeper without section 0x50 puts into its frames (log entry 108). -/
opaque keeperBudget : Nat

end Sys2Proof.Config
end

