-- ==== Sys2Proof/Machine/Bits.lean ====
section
/-! DEFINITION. Machine/Bits.lean: bit fields, byte order, saturation, rounding and the CRCs that every chapter uses
(R7, R8, R22, R169, R171, R328). -/
namespace Sys2Proof.Machine
open Sys2Proof

/-- The field v at bits [lo+w-1:lo] of a word. -/
def fld (v lo w : Nat) : Word := BitVec.ofNat 32 ((v % 2 ^ w) * 2 ^ lo)

/-- One bit at position lo. -/
def bit (b : Bool) (lo : Nat) : Word := if b then BitVec.ofNat 32 (2 ^ lo) else 0

/-- The field [lo+w-1:lo] of a word, as a number. -/
def getf (x : Word) (lo w : Nat) : Nat := x.toNat / 2 ^ lo % 2 ^ w

/-- Bit lo of a word. -/
def getb (x : Word) (lo : Nat) : Bool := x.getLsbD lo

/-- The low w bits of n packed from a list of booleans, first at bit 0. -/
def packBits : List Bool → Nat
  | [] => 0
  | b :: bs => (if b then 1 else 0) + 2 * packBits bs

/-- Minimum with a cap: counters that saturate. -/
def satNat (cap n : Nat) : Nat := if n ≤ cap then n else cap

/-- n+1, saturating at cap. -/
def incSat (cap n : Nat) : Nat := satNat cap (n + 1)

/-- Little-endian number of a list of bytes (R8). -/
def leNat : List Byte → Nat
  | [] => 0
  | b :: bs => b.toNat + 256 * leNat bs

/-- Big-endian number of a list of bytes. -/
def beNat (bs : List Byte) : Nat := bs.foldl (fun a b => a * 256 + b.toNat) 0

/-- The k low bytes of n, least significant first (R8). -/
def leBytes : Nat → Nat → List Byte
  | 0, _ => []
  | k + 1, n => BitVec.ofNat 8 n :: leBytes k (n / 256)

/-- The k low bytes of n, most significant first. -/
def beBytes (k n : Nat) : List Byte := (leBytes k n).reverse

/-- The bytes [off, off+n) of a list, 0 past its end. -/
def slice (bs : List Byte) (off n : Nat) : List Byte :=
  let t := (bs.drop off).take n
  t ++ List.replicate (n - t.length) 0

/-- The little-endian number of the n bytes at off. -/
def leAt (bs : List Byte) (off n : Nat) : Nat := leNat (slice bs off n)

/-- The signed little-endian number of the n bytes at off. -/
def sleAt (bs : List Byte) (off n : Nat) : Int :=
  let v := leAt bs off n
  if v < 2 ^ (8 * n - 1) then (v : Int) else (v : Int) - 2 ^ (8 * n)

/-- Saturation to [-2^31, 2^31 - 1] (R169). -/
def sat32 (x : Int) : Int :=
  if x < -2147483648 then -2147483648 else if x > 2147483647 then 2147483647 else x

/-- A 32-bit word as a two's complement number. -/
def sInt (x : Word) : Int := x.toInt

/-- The low 32 bits of a number, two's complement. -/
def toW (x : Int) : Word := BitVec.ofInt 32 x

/-- n / d rounded to the nearest integer, ties to even (R171). -/
def rne (n : Int) (d : Nat) : Int :=
  let q := n / (d : Int)
  let r := n % (d : Int)
  if 2 * r < d then q else if 2 * r > d then q + 1 else if q % 2 = 0 then q else q + 1

/-- A shift to the right of n by e places with ties to even; a shift to the left when e is negative (R171). -/
def rneShift (n : Int) (e : Int) : Int :=
  if e ≤ 0 then n * 2 ^ (-e).toNat else rne n (2 ^ e.toNat)

/-- Limit x to [lo, hi]. -/
def clampI (lo hi x : Int) : Int := min (max x lo) hi

/-- One bit of CRC-16, polynomial 0x1021, most significant bit first (R22). -/
def crc16Step (c : BitVec 16) (b : Bool) : BitVec 16 :=
  let t := c.msb != b
  let s := c <<< 1
  if t then s ^^^ 0x1021#16 else s

/-- The n bits of x below position hi, most significant first. -/
def bitsMsb (x : Nat) : Nat → List Bool
  | 0 => []
  | n + 1 => x.testBit n :: bitsMsb x n

/-- CRC-16 of R22 over a list of bits, initial value 0xFFFF. -/
def crc16 (bs : List Bool) : BitVec 16 := bs.foldl crc16Step 0xFFFF#16

/-- Eight steps of CRC-32C (Castagnoli, reflected, R328) on one byte. -/
def crc32cByte (c : Word) (b : Byte) : Word :=
  let rec go : Nat → Word → Word
    | 0, c => c
    | n + 1, c => go n (if c.getLsbD 0 then (c >>> 1) ^^^ 0x82F63B78#32 else c >>> 1)
  go 8 (c ^^^ b.setWidth 32)

/-- CRC-32C with initial and final value 0xFFFF_FFFF (R328). -/
def crc32c (bs : List Byte) : Word := bs.foldl crc32cByte 0xFFFFFFFF#32 ^^^ 0xFFFFFFFF#32

/-- Replace element i of a vector by f of it. -/
def vmod {α : Type} {n : Nat} (v : Vector α n) (i : Fin n) (f : α → α) : Vector α n := v.set i (f v[i])

/-- All indices below n. -/
def fins (n : Nat) : List (Fin n) := List.finRange n

/-- The number of true entries of a list. -/
def countTrue (l : List Bool) : Nat := l.countP id

/-- The number of set bits of a 16-bit window. -/
def popcount16 (x : BitVec 16) : Nat := countTrue ((List.range 16).map fun i => x.getLsbD i)

/-- Insert a key and value into a list sorted by strictly rising key, replacing an equal key. -/
def kvSet {α : Type} (k : Nat) (v : α) : List (Nat × α) → List (Nat × α)
  | [] => [(k, v)]
  | (a, b) :: t => if k < a then (k, v) :: (a, b) :: t else if k = a then (k, v) :: t else (a, b) :: kvSet k v t

/-- The value of a key. -/
def kvGet {α : Type} (k : Nat) : List (Nat × α) → Option α
  | [] => none
  | (a, b) :: t => if k = a then some b else kvGet k t

/-- Remove a key. -/
def kvDel {α : Type} (k : Nat) : List (Nat × α) → List (Nat × α)
  | [] => []
  | (a, b) :: t => if k = a then t else (a, b) :: kvDel k t

/-- Insert into a list ordered by le, after its equals. -/
def insBy {α : Type} (le : α → α → Bool) (x : α) : List α → List α
  | [] => [x]
  | a :: t => if le a x then a :: insBy le x t else x :: a :: t

/-- Stable insertion sort. -/
def sortBy {α : Type} (le : α → α → Bool) (l : List α) : List α := l.foldl (fun acc x => insBy le x acc) []

/-- Insert a number into a strictly rising list. -/
def insSorted (k : Nat) : List Nat → List Nat
  | [] => [k]
  | a :: t => if k < a then k :: a :: t else if k = a then a :: t else a :: insSorted k t

end Sys2Proof.Machine
end

