-- ==== Sys2Proof/Machine/Memory.lean ====
section
/-! DEFINITION. Machine/Memory.lean: the bytes of the fabric's memories (core SRAM, LMEM, capture RAM, Chest; Table
24.1) as a list of cells in one canonical form: addresses strictly rising, no cell equal to what an unlisted address
reads as. -/
namespace Sys2Proof.Machine
open Sys2Proof

/-- Byte k of a word, least significant first (R8). -/
def wordByte (w : Word) (k : Nat) : Byte := w.extractLsb' (8 * k) 8

/-- What an unlisted address reads as: 0, but for what the Chest of a shipped unit holds: the factory bytes GRADE (-MW, 0x01) and
STEPPING (B, 0x0B) of Table 21.2, key-store entry 4 as a valid entry (R128), and the CRCs of the factory area, of that
entry, of the tag metadata and of the lifetime counters (Tables 21.2-21.4, R125). DESIGN CHOICE, log entry 3. -/
def memDefault (a : Nat) : Byte :=
  if a < 0x30000010 then 0
  else if a = 0x30000010 then 0x01
  else if a = 0x30000011 then 0x0B
  else if 0x30000FFC ≤ a ∧ a < 0x30001000 then wordByte 0x63A01ABA (a - 0x30000FFC)
  else if a = 0x30001120 then 0x01
  else if 0x30001124 ≤ a ∧ a < 0x30001128 then wordByte 0x27638C6A (a - 0x30001124)
  else if 0x3000240C ≤ a ∧ a < 0x30002410 then wordByte 0x2B60B55D (a - 0x3000240C)
  else if 0x30006040 ≤ a ∧ a < 0x30006044 then wordByte 0x3C8EB67 (a - 0x30006040)
  else 0

/-- The byte at an address. -/
def memByte : List Host.Cell → Nat → Byte
  | [], a => memDefault a
  | (k, b) :: t, a => if a = k then b else if a < k then memDefault a else memByte t a

/-- Put a cell in front unless it reads as unlisted. -/
def memCons (a : Nat) (b : Byte) (t : List Host.Cell) : List Host.Cell :=
  if b = memDefault a then t else (a, b) :: t

/-- Write one byte. -/
def memSet : List Host.Cell → Nat → Byte → List Host.Cell
  | [], a, b => memCons a b []
  | (k, c) :: t, a, b =>
    if a < k then memCons a b ((k, c) :: t)
    else if a = k then memCons a b t
    else (k, c) :: memSet t a b

/-- Write bytes from an address up. -/
def memSetBytes : List Host.Cell → Nat → List Byte → List Host.Cell
  | m, _, [] => m
  | m, a, b :: bs => memSetBytes (memSet m a b) (a + 1) bs

/-- The n bytes from an address up. -/
def memBytes (m : List Host.Cell) (a n : Nat) : List Byte := (List.range n).map fun i => memByte m (a + i)

/-- The little-endian word at an address (R8). -/
def memWord (m : List Host.Cell) (a : Nat) : Word :=
  memByte m (a + 3) ++ memByte m (a + 2) ++ memByte m (a + 1) ++ memByte m a

/-- The four bytes of a word, least significant first (R8). -/
def wordBytes (w : Word) : List Byte :=
  [w.extractLsb' 0 8, w.extractLsb' 8 8, w.extractLsb' 16 8, w.extractLsb' 24 8]

/-- Write a little-endian word. -/
def memSetWord (m : List Host.Cell) (a : Nat) (w : Word) : List Host.Cell := memSetBytes m a (wordBytes w)

/-- Remove every cell in [lo, hi): the range reads as after power-on. -/
def memClear (m : List Host.Cell) (lo hi : Nat) : List Host.Cell := m.filter fun c => c.1 < lo || hi ≤ c.1

/-- The canonical form: addresses strictly rising from above lo, no cell equal to its unlisted value. -/
def memWfFrom : Option Nat → List Host.Cell → Bool
  | _, [] => true
  | lo, (k, b) :: t => (match lo with | none => true | some l => decide (l < k)) && decide (b ≠ memDefault k) && memWfFrom (some k) t

/-- The canonical form of a memory. -/
def Memory.wf (m : List Host.Cell) : Bool := memWfFrom none m

end Sys2Proof.Machine
end

