-- ==== Sys2Proof/Machine/StateCab.lean ====
section
/-! DEFINITION. Machine/StateCab.lean: the metrology island and the CABW proxy (14_metrology_cabinet.md). Defaults are the
reset values; the island's parameter memory ships uncalibrated (log entry 40). -/
namespace Sys2Proof.Machine
open Sys2Proof

/-- A calibration factor, in milligrams per ratio unit, as a fraction (R391, log entry 41). -/
structure Span where
  num : Int := 0
  den : Nat := 1
deriving DecidableEq, Repr, Inhabited

/-- Parameter memory of the island (Table 14.2, R399, R401, R403, R404). -/
structure CabPar where
  /-- The island has been calibrated (R401, R405). -/
  calibrated : Bool := false
  maxE : Nat := 6000
  /-- E_G: the scale interval e in grams. -/
  eG : Nat := 1000
  /-- GRAV in 0.000 01 m/s^2. -/
  grav : Nat := 981000
  cells : BitVec 4 := 1
  span : Vector Span 4 := .replicate 4 {}
  zero : Vector Int 4 := .replicate 4 0
  track : Bool := false
  /-- Audit counter, 16 bits. -/
  audit : Nat := 0
  /-- Tare in e (R399). -/
  tare : Nat := 0
  /-- Serial number, 8 bytes, and the private key seed of R401. -/
  serial : List Byte := List.replicate 8 0
  seed : List Byte := []
  pub : List Byte := List.replicate 32 0
  /-- ITIME as stored at the last loss of VCAB (R404). -/
  itime : Word := 0
  /-- The parameter CRC holds (R405). -/
  ok : Bool := true
deriving DecidableEq, Repr, Inhabited

/-- One compensated sample: gross in mg, D in 0.01 e, |a| in nm/s^2, ACC_LIMIT clear. -/
structure CabPoint where
  g : Int
  d : Nat
  a : Nat
  still : Bool
  /-- D below 0.5 e, exactly (R395). -/
  calm : Bool
deriving DecidableEq, Repr, Inhabited

/-- A command under way on the island (R411). -/
structure CabCmd where
  op : Nat
  tag : Nat
  arg : Word
deriving DecidableEq, Repr, Inhabited

/-- An alibi slot: the 32 bytes (Table 14.1) and whether its CRC holds (R418). -/
structure Alibi where
  bytes : List Byte
  ok : Bool := true
deriving DecidableEq, Repr, Inhabited

/-- The metrology island and its proxy. -/
structure Cab where
  /-- VCAB is in range and the island runs (R405, R406). -/
  run : Bool := false
  par : CabPar := {}
  /-- The causes of Table 14.3, and which of their conditions are present now. -/
  causes : BitVec 8 := 0
  cond : BitVec 8 := 0
  /-- The accelerometer self-test failed at start-up (R405). -/
  accelBad : Bool := false
  /-- Milliseconds without an accelerometer sample, up to 10 (Table 14.3). -/
  accMiss : Nat := 0
  /-- The ratios of the last sample, for the captures of R402. -/
  ratio : Vector Int 4 := .replicate 4 0
  /-- No H telegram for 2 s (R408). -/
  noDisp : Bool := false
  itime : Word := 0
  /-- Milliseconds of ITIME's second, and the island millisecond count MS. -/
  subMs : Nat := 0
  ms : Word := 0
  /-- The averaged gravity vector in nm/s^2 (R393); none before the first sample. -/
  gvec : Option (Int × (Int × Int)) := none
  /-- Gross in mg against the calibration zero, before the zero of R397. -/
  raw : Int := 0
  /-- The zero in force and the initial zero, in mg; none before R397 is met. -/
  zero : Int := 0
  zero0 : Option Int := none
  /-- Samples of the last 2 s, newest first, at most 2 000 (R395). -/
  win : List CabPoint := []
  /-- Vertical acceleration in mm/s^2 (R393). -/
  a : Int := 0
  /-- D in 0.01 e. -/
  d : Nat := 0
  stable : Bool := false
  accLimit : Bool := false
  /-- Zero tracking done in the present second, in mg (R398). -/
  tracked : Nat := 0
  /-- CALSW, filtered: true closed (R402). -/
  calsw : Bool := false
  /-- Alibi memory by slot, and the newest SEQ; 0 none. -/
  alibi : List (Nat × Alibi) := []
  newest : Nat := 0
  /-- WSEQ of the next Window record. -/
  wseq : Word := 0
  /-- The 8-record FIFO and the 4-record hold, oldest first (R409, R410). -/
  fifo : List (List Byte) := []
  hold : List (List Byte) := []
  /-- The command waiting for a stable result (R411). -/
  cmd : Option CabCmd := none
  /-- The last telegram sent on LEGAL_TX (R412). -/
  tx : List Byte := []
  /-- CABW_STAT.PRES. -/
  pres : Nat := 1
  collide : Bool := false
  pend : Bool := false
  ie : Bool := false
  /-- CABW_STAT.STATE. -/
  stShown : Nat := 0
  /-- CABW_FAST, CABW_FASTINFO. -/
  fast : Word := 0
  fastA : Nat := 0
  fastD : Nat := 0
  /-- Fast-latch updates so far (R179). -/
  fastVer : Nat := 0
  /-- CABW_CMD.OP, TAG, CABW_ARG. -/
  regOp : Nat := 0
  regTag : Nat := 0
  regArg : Word := 0
  /-- CABW_ANS. -/
  ansCode : Nat := 0
  ansTag : Nat := 0
  ansOp : Nat := 0
  ansDisp : Bool := false
  ansValid : Bool := false
  /-- CABW_RECk. -/
  rec_ : Vector Word 28 := .replicate 28 0
deriving DecidableEq, Repr, Inhabited

end Sys2Proof.Machine
end

