-- ==== Sys2Proof/Machine/StateChan.lean ====
section
/-! DEFINITION. Machine/StateChan.lean: channel templates and recipes in force, the Channel Manager, the Loop Engine,
the Bench, the capture units and the System Fabric (02, 05, 06, 07, 08). Defaults are the reset values. -/
namespace Sys2Proof.Machine
open Sys2Proof

/-- The major modes with their sub-states (Table 2.1, R44). -/
inductive Mode where
  | bootPowerup | bootImage | bootSelftest | bootCharge
  | operate | watch | lockoutFault | lockoutMaint
deriving DecidableEq, Repr, Inhabited

/-- Stage types of Table 5.8. -/
inductive StageType where
  | hys2 | hys3 | hysi | int | hysc | filt | model | limit | ramp | sum | scale | inj | cap | xfer | imp
deriving DecidableEq, Repr, Inhabited

/-- A stage descriptor (Table 5.8). -/
structure StageDesc where
  type : StageType := .sum
  /-- FMT: block floating point. -/
  blockFp : Bool := false
  in0 : Nat := 0xFF
  in1 : Nat := 0xFF
  link : Nat := 0xFF
  opt : Nat := 0
  /-- PORT[15:12]. -/
  kind : Nat := 0
  /-- PORT[11:0]. -/
  idx : Nat := 0
  hold : Word := 0
  bankA : List Word := []
  bankB : List Word := []
deriving DecidableEq, Repr, Inhabited

/-- The SUP field of a template (Table 8.1). -/
structure Sup where
  plModel : Nat := 0xFF
  plMeas : Nat := 0
  plN : Nat := 1
  plThr : Nat := 1
  feRef : Nat := 0xFF
  feFb : Nat := 0xFF
  feTime : Nat := 0
  feLimit : Nat := 0
deriving DecidableEq, Repr, Inhabited

/-- A channel template (Table 5.7). -/
structure Template where
  type : Nat := 9
  tick : Fin 8 := 0
  div : Nat := 1
  /-- WORLD 0x01: either world may create it. -/
  anyWorld : Bool := false
  /-- PCLASS: 0 P0, 1 P1, 2 P2, 0xFF none. -/
  pclass : Nat := 0xFF
  drive : Bool := false
  axisReq : Bool := false
  bumpless : Bool := false
  reactSs1 : Bool := false
  bridges : BitVec 4 := 0
  encs : BitVec 4 := 0
  fns : BitVec 8 := 0
  ais : BitVec 16 := 0
  fos : BitVec 32 := 0
  pNom : Nat := 0
  pMin : Nat := 0
  sup : Sup := {}
  name : List Byte := []
  stages : List StageDesc := []
deriving DecidableEq, Repr, Inhabited

/-- A parameter binding (R145). -/
structure Binding where
  stage : Nat
  item : Nat
  banks : Nat
  zero : Nat
  value : Word
deriving DecidableEq, Repr, Inhabited

/-- A channel entry of the mode table (Table 2.11). -/
structure ChanEntry where
  template : Nat
  key : Nat
  xferOk : Bool
  autostart : Bool
  bankB : Bool
  axis : Option (Fin 4)
  binds : List Binding
deriving DecidableEq, Repr, Inhabited

/-- A condition entry (Table 2.12). -/
structure CondEntry where
  addr : Word
  lsb : Nat
  width : Nat
  op : Nat
  signed : Bool
  value : Word
deriving DecidableEq, Repr, Inhabited

/-- A recipe entry (Table 2.10). -/
structure Recipe where
  name : List Byte := []
  nsSelect : Bool := false
  watchOk : Bool := false
  chans : List ChanEntry := []
  conds : List CondEntry := []
  /-- AXIS_CFG nibbles; none for 0xF. -/
  axisCfg : Vector (Option Nat) 4 := .replicate 4 none
deriving DecidableEq, Repr, Inhabited

/-- The mode table (Table 2.9). -/
structure ModeTable where
  dflt : Option Nat := none
  restore : Bool := false
  recipes : List Recipe := []
deriving DecidableEq, Repr, Inhabited

/-- Channel states (Table 5.5, RSP1.STATE). -/
inductive ChState where
  | free | created | armed | running | held | faulted | draining
deriving DecidableEq, Repr, Inhabited

/-- A sample of a channel: eligible in the queue or in evaluation (R166, R210). -/
structure Sample where
  /-- LE_TICKCNT at the boundary. -/
  tick : Word := 0
  /-- The channel was RUNNING at the boundary (R167, R222). -/
  run : Bool := false
  /-- The channel was HELD, DRAINING at the boundary: accumulators frozen (R168). -/
  frozen : Bool := false
  /-- The first stage has started. -/
  started : Bool := false
  /-- The next stage. -/
  next : Nat := 0
  /-- The deadline has passed (R210, R211). -/
  late : Bool := false
  /-- An injection started with this sample (R238, TRIG 4). -/
  injected : Bool := false
  /-- What each IMPORT stage latched at the boundary: the source's version and value; none where the source has nothing (R167,
  R179). -/
  lat : List (Nat × Option (Nat × Word)) := []
deriving DecidableEq, Repr, Inhabited

/-- A running or pending injection (R231, R232). -/
structure Inj where
  src : Nat := 0
  amp : Int := 0
  c3 : Word := 0
  c4 : Word := 0
  dur : Nat := 0
  /-- Begins at the next boundary. -/
  pend : Bool := true
  /-- A STOP has been accepted and ends it at the next boundary. -/
  stop : Bool := false
deriving DecidableEq, Repr, Inhabited

/-- One channel slot (05_channels_and_handles.md). -/
structure Slot where
  /-- GEN, 8 bits: 1 after a full reset (R138). -/
  gen : Nat := 1
  st : ChState := .free
  template : Nat := 0
  axis : Option (Fin 4) := none
  /-- KEY in the active recipe; 0 for a channel that no recipe created (R59). -/
  key : Nat := 0
  world : World := .S
  bridges : BitVec 4 := 0
  fos : BitVec 32 := 0
  fns : BitVec 8 := 0
  encs : BitVec 4 := 0
  ais : BitVec 16 := 0
  /-- P_NOM in use (R145, R149). -/
  pNom : Nat := 0
  /-- LMEM records in stage order (R163). -/
  recs : List Nat := []
  /-- Bank B is active (R183). -/
  bankB : Bool := false
  /-- RSP3.PSTAT. -/
  pstat : Nat := 0
  /-- RSP3.GRANT_KW. -/
  grant : Nat := 0
  /-- Shed while RUNNING: no grant until it is started again (R343). -/
  pShed : Bool := false
  /-- Last channel fault code (RSP2.FAULT). -/
  fault : Code := 0
  /-- START accepted, waiting for its boundary and release. -/
  startPend : Bool := false
  /-- HOLD waiting for the next boundary. -/
  holdPend : Bool := false
  /-- DESTROY waiting for the next boundary. -/
  destroyPend : Bool := false
  /-- SWAP waiting for the next boundary, with its MODE. -/
  swapPend : Option Nat := none
  /-- Supervision fault waiting for the next boundary (R229). -/
  faultPend : Option Code := none
  /-- Plausibility counter (R226, R228). -/
  plCnt : Nat := 0
  /-- Following-error timer (R227, R228). -/
  feTimer : Nat := 0
  /-- LATE_COUNT, 16 bits (R213). -/
  lateCnt : Nat := 0
  /-- SKIP_COUNT, 16 bits (R213). -/
  skipCnt : Nat := 0
  /-- The sample waiting in the queue (R166). -/
  wait : Option Sample := none
  /-- The sample in evaluation. -/
  smp : Option Sample := none
  /-- The first evaluation in RUNNING after START is still to come (RAMP INIT). -/
  rampInit : Bool := false
  /-- Version of each IMPORT source at its last latch, by stage (R179). -/
  seen : List (Nat × Nat) := []
  /-- Injections by stage. -/
  inj : List (Nat × Inj) := []
  /-- AUTOSTART waiting for the return to OPERATE (R67). -/
  autoPend : Bool := false
  /-- Order of the latest START among P2 and P1 consumers (R341). -/
  startOrder : Nat := 0
  /-- RUNNING at the entry to WATCH: FLAGS bit 3 of the Drawer (R563). -/
  wasRun : Bool := false
deriving DecidableEq, Repr, Inhabited

/-- One mailbox port (Table 5.2). -/
structure Port where
  cmd : Vector Word 8 := .replicate 8 0
  rsp : Vector Word 4 := .replicate 4 0
  pend : Bool := false
  done : Bool := false
  collide : Bool := false
  ie : Bool := false
  /-- The mode in which the pending command was accepted: it completes under the rules of that mode (R158). -/
  goMode : Mode := .bootPowerup
deriving DecidableEq, Repr, Inhabited

/-- The Channel Manager. -/
structure Chn where
  ports : Vector Port 4 := .replicate 4 {}
  /-- The port served last (R142). -/
  last : Fin 4 := 3
  slots : Vector Slot 256 := .replicate 256 {}
  /-- Commands START taken so far: gives the START order. -/
  starts : Nat := 0
deriving DecidableEq, Repr, Inhabited

/-- The record of an LMEM stage that a slot holds (R163). -/
structure RecOwner where
  slot : Fin 256
  stage : Nat
deriving DecidableEq, Repr, Inhabited

/-- One Loop Engine lane (R161, R166). -/
structure Lane where
  /-- Slots whose samples the lane holds, the present one first, those it has left behind it. -/
  work : List (Fin 256) := []
deriving DecidableEq, Repr, Inhabited

/-- A requester of a Bench arbiter: a lane, or what requests on an input that is no lane's (R203, R204). -/
inductive BenchAsk where
  | lane (l : Fin 4)
  | input (i : Fin 16)
deriving DecidableEq, Repr, Inhabited

/-- One Bench arbiter (R203-R209). -/
structure BenchBank where
  /-- The next CLK_SYS cycle of the arbiter, counted from the power-on of the Loop Engine domain (R206). -/
  cycle : Nat := 0
  /-- The window of 64 cycles whose credits the counters hold; none before the first (R206). -/
  win : Option Nat := none
  /-- The turn hints of the last cycle: each requester that was not granted, and the grants that precede its own, at most 15 (R209). -/
  hints : List (BenchAsk × Nat) := []
  /-- Credits of inputs 0-7 (R206). -/
  credit : Vector Nat 8 := .replicate 8 0
  /-- The lane served last on each input (R207). -/
  lastLane : Vector (Fin 4) 16 := .replicate 16 3
  /-- Accesses granted to each lane towards its present stage (R204). -/
  got : Vector Nat 4 := .replicate 4 0
deriving DecidableEq, Repr, Inhabited

/-- The Loop Engine registers and queues (Tables 6.6, 7.8, 8.2). -/
structure Le where
  /-- LE_STAT.RUN. -/
  run : Bool := false
  /-- LE_TICKCNT. -/
  tick : Word := 0
  /-- Samples waiting, ordered by class and slot (R166). -/
  queue : List (Fin 256) := []
  lanes : Vector Lane 4 := .replicate 4 {}
  /-- Owners of the 2 048 stage records, by record number, rising. -/
  owners : List (Nat × RecOwner) := []
  /-- LE_LOOKUP.SLOT. -/
  lookSlot : Fin 256 := 0
  /-- LE_LOOKUP.STAGE. -/
  lookStage : Nat := 0
  /-- LE_SATTOTAL. -/
  satTotal : Nat := 0
  /-- LE_EXPOVF: slot, stage, VALID. -/
  expSlot : Fin 256 := 0
  expStage : Nat := 0
  expValid : Bool := false
  /-- LE_TMSEL. -/
  tmSel : Fin 256 := 0
  /-- LE_LATETOTAL. -/
  lateTotal : Nat := 0
  /-- LE_SKIPTOTAL. -/
  skipTotal : Nat := 0
  /-- LE_SUPEVT. -/
  supSlot : Fin 256 := 0
  supCode : Code := 0
  supIe : Bool := false
  supValid : Bool := false
  /-- LE_BOARDn. -/
  board : Vector Word 64 := .replicate 64 0
  /-- Writes to each board word so far: tells a fresh value from a held one (R179). -/
  boardVer : Vector Nat 64 := .replicate 64 0
  /-- Live channels that have written each board word, by slot and XFER stage (R180). -/
  boardBy : Vector (List RecOwner) 64 := .replicate 64 []
  bench : Vector BenchBank 4 := .replicate 4 {}
deriving DecidableEq, Repr, Inhabited

/-- A capture record that is being read from LMEM (R238, R239). -/
structure CapRec where
  words : List Word
  /-- y(TSTAGE). -/
  y : Int
  /-- The sample meets TRIG 3, and TRIG 4. -/
  fault : Bool
  inj : Bool
deriving DecidableEq, Repr, Inhabited

/-- One capture unit (Tables 8.6, 8.7). -/
structure CapUnit where
  /-- STATE: 0 IDLE, 1 ARMED, 2 TRIGGERED, 3 DONE, 4 STOPPED. -/
  st : Nat := 0
  /-- END: 0 none, 1 complete, 2 channel, 3 stop command. -/
  fin : Nat := 0
  gap : Bool := false
  ie : Bool := false
  slot : Fin 256 := 0
  /-- The channel served is NS (R240, Table 24.8). -/
  ns : Bool := false
  /-- CAP_UnTRIG.WORD. -/
  trigWord : Nat := 0
  gaps : Nat := 0
  trig : Nat := 0
  dir : Bool := false
  stamp : Bool := false
  tstage : Nat := 0
  dec : Nat := 1
  taps : List Nat := []
  buf : Nat := 0
  len : Nat := 0
  level : Int := 0
  pre : Nat := 0
  /-- Evaluated samples since CAPTURE (DEC). -/
  count : Nat := 0
  /-- Records written so far. -/
  written : Nat := 0
  /-- Records still to write after the trigger. -/
  post : Nat := 0
  /-- y(TSTAGE) in the last recorded sample (TRIG 2). -/
  prevY : Option Int := none
  /-- The last evaluated sample has a record, held or written (R238, R244). -/
  kept : Bool := false
  /-- The record of the last recorded sample, until the channel's next boundary (R239). -/
  rec_ : Option CapRec := none
deriving DecidableEq, Repr, Inhabited

/-- Response codes (Table 7.2). -/
inductive Resp where
  | done | faultWorld | faultDecode | faultPd | faultEcc
deriving DecidableEq, Repr, Inhabited

/-- A fabric transaction (R195). -/
structure Txn where
  id : Nat
  pool : Fin 8
  /-- Initiator ID of Table 4.1. -/
  init : BitVec 4
  world : World
  kind : Access
  addr : Word
  /-- Bytes: 1, 2, 4 or more for a burst. -/
  size : Nat
  /-- The words to write. -/
  data : List Word
  /-- The port and the descriptor of an Ethernet DMA transfer (R462). -/
  dma : Option (Fin 2 × Word) := none
deriving DecidableEq, Repr, Inhabited

/-- A tag pool (R195). -/
structure Pool where
  free : Nat := 0
  /-- Requests waiting for a tag, in issue order (R196). -/
  waiting : List Txn := []
deriving DecidableEq, Repr, Inhabited

/-- State of a power domain (R201, R646). -/
inductive PowerState where
  | on | quiescing | off
deriving DecidableEq, Repr, Inhabited

/-- The System Fabric (Table 7.4). -/
structure Fab where
  pools : Vector Pool 8 := #v[{ free := 12 }, { free := 16 }, { free := 8 }, { free := 40 }, { free := 32 }, { free := 4 }, { free := 4 }, { free := 12 }]
  /-- Transactions in flight, oldest first. -/
  flight : List Txn := []
  /-- Transactions that their targets have answered, whose tags are in return, oldest first (R199). -/
  ret : List Txn := []
  /-- Number of the next transaction. -/
  nextId : Nat := 0
  /-- The responses of the last fabric command: transaction, code and data (R197). -/
  resps : List (Nat × (Resp × List Word)) := []
  /-- The access-fault exceptions that the last fabric command raised: the core and the kind of access (R123, R137, R197). -/
  excs : List (BitVec 4 × Access) := []
  /-- Words of the ECC memories that hold a single-bit error still to be corrected, and words with an uncorrectable error (R198). -/
  soft : List Nat := []
  hard : List Nat := []
  /-- FAB_SNAP.SETTLED. -/
  settled : Bool := true
  snapFree : Vector Nat 8 := #v[12, 16, 8, 40, 32, 4, 4, 12]
  snapFlt : Vector Nat 8 := .replicate 8 0
  /-- FAB_EMPTY.POOL. -/
  empty : BitVec 8 := 0
  /-- FAB_PDABORT.COUNT. -/
  pdAbort : Nat := 0
  /-- FAB_ECC.CORR. -/
  corr : Nat := 0
  /-- FAB_ECC.UNCORR. -/
  uncorr : Nat := 0
  /-- Always-on, core, Loop Engine and network domains (Table 7.9). -/
  dom : Vector PowerState 4 := .replicate 4 .on
deriving DecidableEq, Repr, Inhabited

end Sys2Proof.Machine
end

