-- ==== Sys2Proof/Machine/StateDeck.lean ====
section
/-! DEFINITION. Machine/StateDeck.lean: the state of the Trestle, of the deck island and of its proxy on the logic
island (01_three_islands.md, 09_deck_power_stage.md). Defaults are the reset values. -/
namespace Sys2Proof.Machine
open Sys2Proof

/-- One up-lane as the logic island sees it (R23, R24, R27). -/
structure UpLane where
  /-- Sequence number of the last good frame (R23); none before the first. -/
  last : Option (BitVec 4) := none
  /-- The last 16 frame periods, 1 = discarded or lost (R24). -/
  hist : BitVec 16 := 0
  /-- Frames discarded for their CRC since the last good frame: each is counted once, and not again as lost (R23). -/
  disc : Nat := 0
  /-- DK_LANEERR0.UPn, 8 bits, saturating (Table 9.6). -/
  errs : Nat := 0
  /-- Consecutive good frames towards 64 (R27), held at 64. -/
  good : Nat := 0
deriving DecidableEq, Repr, Inhabited

/-- One sinc3 decimator of the logic island (R249, R250). -/
structure Decim where
  /-- First integrator. -/
  i1 : Word := 0
  /-- Second integrator. -/
  i2 : Word := 0
  /-- Third integrator. -/
  i3 : Word := 0
  /-- First comb delay. -/
  d1 : Word := 0
  /-- Second comb delay. -/
  d2 : Word := 0
  /-- Third comb delay. -/
  d3 : Word := 0
  /-- Samples since the last output. -/
  phase : Nat := 0
  /-- Outputs still discarded after a restart (R250). -/
  skip : Nat := 3
  /-- The newest complete output, scaled (R250). -/
  out : Int := 0
  /-- Outputs delivered so far: tells a fresh value from a held one (R179). -/
  count : Nat := 0
deriving DecidableEq, Repr, Inhabited

/-- The DK proxy's values of one bridge (Table 9.6). -/
structure DkProxyBridge where
  /-- DK_STAT.RELEASED bit n. -/
  released : Bool := false
  /-- DK_STAT.RUN bit n. -/
  run : Bool := false
  /-- DK_STAT.BFAULT bit n: the logic island's copy (R267). -/
  bfault : Bool := false
  /-- DK_STAT.NTCWARN bit n. -/
  ntcWarn : Bool := false
  /-- DK_BnBAND.H, 12 bits. -/
  h : Nat := 0
  /-- The count that DK_BnBAND.N and DKMEAS 0x10 + n show. -/
  n : Nat := 0
  /-- DK_BnNTC.TEMP, 24 bits signed, 1/256 degree C. -/
  temp : Int := 0
  /-- DK_BnNTC.OPEN. -/
  ntcOpen : Bool := false
  /-- DK_BnNTC.SHORT. -/
  ntcShort : Bool := false
  /-- DK_FLTLVL bits 6n+5:6n. -/
  flt : BitVec 6 := 0
  /-- DK_BnSNAP: the logic island's copy (R267, R268). -/
  snap : Snap := {}
deriving DecidableEq, Repr, Inhabited

/-- The logic island's side of the Trestle (R22-R33) and the DK proxy (Table 9.6). -/
structure Trestle where
  /-- UP0-UP3. -/
  up : Vector UpLane 4 := .replicate 4 {}
  /-- DK_LANEERR1.DN0, DN1 as the deck reported them, 8 bits each. -/
  dnErrs : Vector Nat 2 := .replicate 2 0
  /-- The deck's reported windows of DN0 and DN1 (R24). -/
  dnHist : Vector (BitVec 16) 2 := .replicate 2 0
  /-- Link up: 64 good frames on every up-lane while HBU toggles (R27). -/
  linkUp : Bool := false
  /-- The deck is adopted: DK_STAT.LINKED, SYS_MODE.DECK_UP (R27, R29). -/
  adopted : Bool := false
  /-- The deck has been adopted in the present boot (R28, R29). -/
  everAdopted : Bool := false
  /-- BOOT.SELFTEST has ended in the present boot (R28). -/
  selftestOver : Bool := false
  /-- The deck record has been sent and not yet acknowledged (R248). -/
  recSent : Bool := false
  /-- Deck records sent since link-up (R248). -/
  recSends : Nat := 0
  /-- A sleep command has been sent (R33). -/
  sleepSent : Bool := false
  /-- The sleep command is in force: DK_STAT.SLEEP (R33). -/
  sleep : Bool := false
  /-- A wake command has been sent (R33). -/
  wakeSent : Bool := false
  /-- Decimators of modulators 0-15 (R250). -/
  dec : Vector Decim 16 := .replicate 16 {}
  /-- Status reports taken from the deck so far: tells a fresh DKMEAS value from a held one (R179). -/
  statVer : Nat := 0
  /-- The DK proxy's values per bridge. -/
  px : Vector DkProxyBridge 4 := .replicate 4 {}
  /-- DK_STAT.B3STORE as the proxy shows it. -/
  pxB3store : Bool := false
  /-- DK_STAT.CHOP as the proxy shows it. -/
  pxChop : Bool := false
  /-- The newest HYSC update issued per bridge (R167, R177); none before the first. -/
  hysc : Vector (Option HyscUpdate) 4 := .replicate 4 none
  /-- The newest value issued to DECK ports 0x000 and 0x001 (R178). -/
  chopOut : Vector (Option Word) 2 := .replicate 2 none
  /-- Pre-release test requests sent on DN0, per bridge (Procedure 11.1). -/
  preTest : Vector Bool 4 := .replicate 4 false
deriving DecidableEq, Repr, Inhabited

/-- One gate command of the deck (R259, R260, R265). -/
structure GateSwitch where
  /-- The gate command is on. -/
  on : Bool := false
  /-- The switch has held its present state for less than TMIN (R260). -/
  tmin : Bool := false
  /-- The blanking window of the switch runs (R265). -/
  blank : Bool := false
deriving DecidableEq, Repr, Inhabited

/-- One bridge of the deck island (R254-R268). -/
structure DkBridge where
  /-- KAn carries, as the deck sees it (R263, R264). -/
  ka : Bool := false
  /-- STOEn. -/
  stoe : Bool := false
  /-- The gate commands are enabled: the bridge is released (R263). -/
  released : Bool := false
  /-- The deck's bridge-fault latch (R266, R267). -/
  fault : Bool := false
  /-- The deck's snapshot (R268). -/
  snap : Snap := {}
  /-- A pre-release test holds STOEn low (R263). -/
  testHold : Bool := false
  /-- The carrier gap of a pre-release test has been seen (Procedure 11.1). -/
  gapSeen : Bool := false
  /-- RUN bit of the last update (R254). -/
  run : Bool := false
  /-- VSEL of the last update (R257, R258). -/
  vsel : Bool := false
  /-- NO_W of the last update (R256). -/
  noW : Bool := false
  /-- Reference codes U, V, W, 12 bits each (R254). -/
  refs : Vector (BitVec 12) 3 := .replicate 3 2048#12
  /-- Sector in use, 3 bits (R258, R277). -/
  sector : BitVec 3 := 0
  /-- Bank word H of the last update; none before the first (R254). -/
  hWord : Option Word := none
  /-- Bank word H_MIN. -/
  hMin : Word := 0
  /-- Bank word H_MAX. -/
  hMax : Word := 0
  /-- Bank word F_TARGET. -/
  fTarget : Word := 0
  /-- Bank word ZERO_PREF. -/
  zeroPref : Word := 0
  /-- The regulated band h in codes (R254, R262). -/
  h : Nat := 0
  /-- A regulation window runs (R262). -/
  winOn : Bool := false
  /-- HI turn-ons in the window so far (R262). -/
  winN : Nat := 0
  /-- N of the last window (R262). -/
  lastN : Nat := 0
  /-- What each phase demands (R255). -/
  dem : Vector Demand 3 := .replicate 3 .none
  /-- The signs of vector select, true = +1 (R258). -/
  signs : Vector Bool 3 := .replicate 3 false
  /-- HI wanted per leg: the present switching state (R257, R258). -/
  want : Vector Bool 3 := .replicate 3 false
  /-- The six gate commands UH, UL, VH, VL, WH, WL. -/
  sw : Vector GateSwitch 6 := .replicate 6 {}
  /-- Turn-on of each leg's HI (true) or LO (false) waiting for tDEAD (R259). -/
  pend : Vector (Option Bool) 3 := .replicate 3 none
  /-- tDEAD has elapsed for the waiting turn-on, which TMIN still delays. -/
  deadDone : Vector Bool 3 := .replicate 3 false
  /-- The switching state that vector select demands (R258). -/
  vecSel : Vector Bool 3 := .replicate 3 false
  /-- Change of each leg deferred by TMIN (R260). -/
  defer : Vector (Option Bool) 3 := .replicate 3 none
  /-- Consecutive DC-link outputs above DC_OV (Table 9.5). -/
  ovCnt : Nat := 0
  /-- Consecutive DC-link outputs below DC_UV while STOEn is high (Table 9.5). -/
  uvCnt : Nat := 0
  /-- Consecutive bad heatsink readings while released (Table 9.5). -/
  ntcCnt : Nat := 0
  /-- Last NTC reading in 1/256 degree C (R252). -/
  ntcTemp : Int := 0
  /-- The last reading was below -50 degree C. -/
  ntcOpen : Bool := false
  /-- The last reading was above 150 degree C. -/
  ntcShort : Bool := false
  /-- The last reading was above NTC_WARN. -/
  ntcWarn : Bool := false
  /-- Levels of the six driver fault inputs (R265). -/
  flt : BitVec 6 := 0
deriving DecidableEq, Repr, Inhabited

/-- A down-lane group partly carried: its frames accepted so far and what it asks (R23). -/
structure DownGroup where
  got : Nat
  cmd : DeckCmd
deriving DecidableEq, Repr, Inhabited

/-- The deck island (Hutch). -/
structure Deck where
  /-- VDK within its power-good window (R263, R499). -/
  powered : Bool := false
  /-- CLK_DK runs (R486). -/
  clk : Bool := false
  /-- HBU toggles (R26, R499). -/
  hbu : Bool := false
  /-- HBD seen toggling (R26, R263). -/
  hbd : Bool := false
  /-- A sleep command is in force on the deck; its outputs are high-impedance (R33). -/
  asleep : Bool := false
  /-- The deck record has been acknowledged (R248, R263). -/
  acked : Bool := false
  /-- A whole deck record received and not yet acknowledged, with the latches sent with it (R248, R267). -/
  got : Option (DeckRecord × Vector (Option Snap) 4) := none
  /-- The deck record in use (Table 9.1). -/
  cfg : DeckRecord := {}
  /-- Down-lane groups partly carried, by group number (R23). -/
  groups : List (Nat × DownGroup) := []
  /-- Sequence number of the last good frame on DN0 and DN1 (R23). -/
  dnLast : Vector (Option (BitVec 4)) 2 := .replicate 2 none
  /-- Discarded and lost frames on DN0 and DN1, 8 bits, saturating. -/
  dnErrs : Vector Nat 2 := .replicate 2 0
  /-- Frames discarded for their CRC since the last good frame of DN0 and DN1 (R23). -/
  dnDisc : Vector Nat 2 := .replicate 2 0
  /-- The last 16 frame periods of DN0 and DN1 (R24). -/
  dnHist : Vector (BitVec 16) 2 := .replicate 2 0
  /-- Bridges B0-B3. -/
  br : Vector DkBridge 4 := .replicate 4 {}
  /-- Latest value on DECK port 0x000 (R270). -/
  chopOn : Option Word := none
  /-- Latest value on DECK port 0x001 (R270). -/
  chopOff : Option Word := none
  /-- Thresholds in force (R270). -/
  chopPair : Option (Word × Word) := none
  /-- The chopper switch DK_GC_B3WL is on (R270); its gate command is switch 5 of B3. -/
  chop : Bool := false
  /-- The chopper switch has changed less than TMIN ago (R260, R270). -/
  chopTmin : Bool := false
  /-- A chopper change that TMIN defers. -/
  chopDefer : Option Bool := none
  /-- A trip report waiting to be carried up, per bridge (R267). -/
  trip : Vector Bool 4 := .replicate 4 false
deriving DecidableEq, Repr, Inhabited

end Sys2Proof.Machine
end

