-- ==== Sys2Proof/Machine/StateIo.lean ====
section
/-! DEFINITION. Machine/StateIo.lean: ship power and lift admission, HarovLink, field outputs, fans, analog inputs, encoder ports,
GPIO and the serial ports (12_ship_power_and_lift.md, 13_harovlink.md, 15_field_io.md), with the image sections that configure
them. Defaults are the reset values. -/
namespace Sys2Proof.Machine
open Sys2Proof

/-! ### Ship power -/

/-- Section 0x50 (Table 12.2). -/
structure SpmCfg where
  source : Nat := 0
  fullKw : Nat := 0
  fallbackKw : Nat := 0
  reduceKw : Nat := 0
  redRamp : Nat := 40
  hspTimeout : Nat := 100
  regenKw : Nat := 0
  derateFan : Nat := 1000
  derateHot : Nat := 1000
deriving DecidableEq, Repr, Inhabited

/-- Section 0x52 (Table 12.3). -/
structure LiftCfg where
  axis : Fin 4 := 0
  storeAi : Fin 16 := 0
  vFs : Nat := 1
  vMin : Nat := 0
  vMax : Nat := 1
  cDf : Nat := 0
  eRes : Nat := 0
  pStMax : Nat := 0
  chopKw : Nat := 0
  pLoss : Nat := 0
  etaUp : Nat := 1000
  etaDown : Nat := 1000
  etaSt : Nat := 1000
  ratedKg : Nat := 0
  tackleKg : Nat := 0
  nmPerCount : Nat := 0
  vMinLift : Nat := 1
deriving DecidableEq, Repr, Inhabited

/-- A committed lift (R347-R354). -/
structure Lift where
  slot : Fin 256
  axis : Fin 4
  /-- HEIGHT in mm. -/
  height : Nat
  /-- Requested SPEED in mm/s. -/
  speed : Nat
  /-- ACC in mm/s^2. -/
  acc : Nat
  /-- DIR: true lowers. -/
  lower : Bool
  /-- Mass latched at START, kg (R348). -/
  mass : Nat
  /-- Position source 1 when the travel was last formed: at START, then at every evaluation (R352). -/
  p0 : Int
  /-- Travel from START to that point, in counts (R352, R438). -/
  trav : Int := 0
deriving DecidableEq, Repr, Inhabited

/-- The ship-power manager (Table 12.4). -/
structure Spm where
  /-- SPM_STAT.SRC. -/
  src : Nat := 0
  /-- SPM_STAT.LOADRED. -/
  loadRed : Bool := false
  /-- SPM_STAT.PREFTRIP. -/
  prefTrip : Bool := false
  /-- SPM_STAT.CRIT. -/
  crit : Bool := false
  /-- SPM_STAT.DERATE. -/
  derate : Bool := false
  /-- SPM_STAT.LIFT. -/
  liftSt : Nat := 0
  /-- SPM_STAT.STORE_OK. -/
  storeOk : Bool := false
  /-- SPM_STAT.MSRC. -/
  msrc : Nat := 0
  /-- SPM_BUDGET.A. -/
  a : Nat := 0
  /-- SPM_BUDGET.RAW. -/
  raw : Nat := 0
  /-- SPM_GRANT.TOTAL. -/
  total : Nat := 0
  /-- SPM_GRANT.P0MIN. -/
  p0min : Nat := 0
  /-- SPM_HOSTBUD.KW. -/
  hostBud : Nat := 0
  /-- SPM_HOSTBUD has been written and not timed out (R337). -/
  hostOk : Bool := false
  /-- SPM_HOSTMASS.KG. -/
  hostMass : Word := 0
  /-- SPM_STORE.V in 0.1 V. -/
  storeV : Nat := 0
  /-- SPM_STORE.SOC in per mille. -/
  soc : Nat := 0
  /-- SPM_LIFTV.OFFER, REQ. -/
  offer : Nat := 0
  req : Nat := 0
  /-- SPM_LIFTH.REM in mm. -/
  remH : Nat := 0
  /-- SPM_EAVAIL.KJ. -/
  eAvail : Nat := 0
  /-- The reduce ramp: the budget it started from and the whole milliseconds gone (R339). -/
  ramp : Option (Nat × Nat) := none
  lift : Option Lift := none
deriving DecidableEq, Repr, Inhabited

/-! ### HarovLink -/

/-- Section 0x51 (Table 13.3). -/
structure HlCfg where
  node : Fin 8 := 0
  nnodes : Nat := 2
  keeper : Fin 8 := 0
  role : Nat := 0
  group : Nat := 0
  master : Option (Fin 8) := none
  droop : Nat := 0
  ringId : Nat := 1
  tRated : Nat := 1
  vRated : Nat := 1
deriving DecidableEq, Repr, Inhabited

/-- What a node keeps of another beyond the frame (R379). -/
structure HlNode where
  /-- Last TAKEN and P0MIN seen, kW. -/
  taken : Nat := 0
  p0min : Nat := 0
  /-- Consecutive frames in which the slot was not FRESH. -/
  absent : Nat := 0
deriving DecidableEq, Repr, Inhabited

/-- HarovLink (Table 13.4, R366-R383). -/
structure Hl where
  link : Bool := false
  fold0 : Bool := false
  fold1 : Bool := false
  droop : Bool := false
  backup : Bool := false
  cfgErr : Bool := false
  dup : Bool := false
  crit : Bool := false
  nodes : BitVec 8 := 0
  taken : Nat := 0
  target : Nat := 0
  sum : Nat := 0
  settled : Bool := false
  mismatch : Nat := 0
  b : Nat := 0
  freezes : Nat := 0
  crc0 : Nat := 0
  crc1 : Nat := 0
  folds : Nat := 0
  /-- HL_RESERVE.KW. -/
  reserve : Nat := 0
  /-- Values of HL ports 0-3 (R368). -/
  port : Vector Word 4 := .replicate 4 0
  /-- The link has been started, at entry to OPERATE with section 0x51 (R383). -/
  on : Bool := false
  /-- The last frame this node sent, 224 bytes from CYCLE to CRC (Table 13.1). -/
  out : Option (List Byte) := none
  /-- The port it was sent on: 0 forward, 1 turned back or on its way back (R366, R378). -/
  outPort : Fin 2 := 0
  /-- Frames discarded in a row, per port, up to 2 (R378). -/
  badRun : Vector Nat 2 := .replicate 2 0
  /-- The frame of the last passage, 224 bytes from CYCLE to CRC; none before the first. -/
  frame : Option (List Byte) := none
  /-- CYCLE of the next frame this node originates. -/
  cycle : Nat := 0
  /-- This node's unaccepted offer: target node and amount (R373). -/
  offer : Option (Fin 8 × Nat) := none
  /-- Sequence of this node's latest offer, 4 bits. -/
  offerSeq : Nat := 0
  /-- The offer this node last accepted: source and sequence. -/
  accepted : Option (Fin 8 × Nat) := none
  /-- Sequence of the offer already accepted, per source, while that offer stands. -/
  seen : Vector (Option Nat) 8 := .replicate 8 none
  /-- The keeper's free pool (Procedure 13.1). -/
  pool : Nat := 0
  /-- The keeper sets FREEZE in the next frame (R377). -/
  freeze : Bool := false
  /-- The amount of the keeper's own offer accepted in the present pass (R376). -/
  acceptedNow : Nat := 0
  /-- Holdings known of the other nodes (R379). -/
  known : Vector HlNode 8 := .replicate 8 {}
  /-- Droop: T0 and v0 (R370). -/
  t0 : Int := 0
  v0 : Int := 0
  /-- The demand that HLIN field 0 of the master returns in droop. -/
  droopT : Int := 0
  /-- Consecutive fresh frames of the master, up to 8 (R371). -/
  freshRun : Nat := 0
  /-- Cycles left of the return ramp, and the droop demand it starts from (R371). -/
  rampLeft : Nat := 0
  rampFrom : Int := 0
  /-- This node has taken part in a pass (R383). -/
  joined : Bool := false
  /-- For each node the frames in which its slot was FRESH: the number of an HLIN value (R368). -/
  ver : Vector Nat 8 := .replicate 8 0
  /-- WATCH entry: the tokens are being returned (R381). -/
  leaving : Bool := false
  /-- A keeper that restarted found more held than B (R380). -/
  overB : Bool := false
deriving DecidableEq, Repr, Inhabited

/-! ### Field outputs and fans -/

/-- A section 0x40 entry (Table 15.1). -/
structure FoCfg where
  mode : Nat := 0
  offSrc : Bool := false
  noStretch : Bool := false
  faultOn : Bool := false
  idleOn : Bool := false
  pwmHz : Nat := 0
  holdMa : Nat := 0
  retry : Nat := 3
  retryT : Nat := 10
deriving DecidableEq, Repr, Inhabited

/-- One field output (Table 15.8). -/
structure FoOut where
  /-- STATE: 0 off, 1 on, 2 PWM, 3 retry wait, 4 LATCHED. -/
  st : Nat := 0
  /-- LAMP_OPEN present. -/
  opened : Bool := false
  untested : Bool := false
  method : Nat := 0
  /-- Current in mA. -/
  i : Nat := 0
  shorts : Nat := 0
  /-- Duty code applied. -/
  duty : Nat := 0
  /-- The newest value of the owner's XFER stage; none before one. -/
  y : Option Int := none
  /-- Retries left (R428). -/
  retryLeft : Nat := 0
  /-- Consecutive open and good observations (R430). -/
  openCnt : Nat := 0
  goodCnt : Nat := 0
  /-- FO_SHORT is present (Table 15.7). -/
  short : Bool := false
  /-- Instant of the last turn-on, in microseconds: the inrush and peak windows (Table 15.2). -/
  onAt : Nat := 0
  /-- Instant of the last short, until the next turn-on (R443). -/
  shortAt : Option Nat := none
  /-- Instant at which the last stretched pulse is over, 0 before the first, and at which the period after it starts (R430, R446). -/
  strTo : Nat := 0
  strNext : Nat := 0
  /-- A new duty waits for that period (R446). -/
  late : Bool := false
deriving DecidableEq, Repr, Inhabited

/-- The FIO block. -/
structure Fio where
  out : Vector FoOut 32 := .replicate 32 {}
  /-- FIO_VFO.V in 10 mV. -/
  vfo : Nat := 0
  vfoLow : Bool := false
  evIndex : Nat := 0
  evCode : Code := 0
  evIe : Bool := false
  evValid : Bool := false
deriving DecidableEq, Repr, Inhabited

/-- A section 0x41 entry (Table 15.4). -/
structure FanCfg where
  use : Bool := false
  axes : BitVec 4 := 0
  ppr : Nat := 1
  minRpm : Nat := 100
  checkDuty : Nat := 1
  supplyFo : Option (Fin 32) := none
  pair : Option (Fin 8) := none
  iLo : Nat := 0
  iHi : Nat := 1
  faultDuty : Nat := 0
  idleDuty : Nat := 0
deriving DecidableEq, Repr, Inhabited

/-- States of a fan (Table 15.8). -/
inductive FanState where
  | off | spinUp | kick | running | tachLost | stall
deriving DecidableEq, Repr, Inhabited

/-- One fan. -/
structure FanUnit where
  st : FanState := .off
  kicks : Nat := 0
  rpm : Nat := 0
  /-- Duty code applied. -/
  duty : Nat := 0
  /-- Duty code commanded. -/
  cmd : Nat := 0
  /-- The newest value of the owner's XFER stage; none before one. -/
  y : Option Int := none
deriving DecidableEq, Repr, Inhabited

/-! ### Analog inputs, encoders, GPIO, serial ports -/

/-- A section 0x42 entry (Table 15.5). -/
structure AiCfg where
  mode : Nat := 0
  avg : Nat := 0
deriving DecidableEq, Repr, Inhabited

/-- One analog input. -/
structure AiUnit where
  val : Nat := 0
  wb : Bool := false
  ovr : Bool := false
  /-- Scans summed towards the mean of 2^AVG (R436, Table 15.5). -/
  acc : Nat := 0
  n : Nat := 0
  /-- Consecutive results below 3.6 mA and above 3.8 mA (R437). -/
  lowCnt : Nat := 0
  okCnt : Nat := 0
  /-- Results delivered so far (R179). -/
  ver : Nat := 0
deriving DecidableEq, Repr, Inhabited

/-- A section 0x43 entry (Table 15.6). -/
structure EncCfg where
  inc : Bool := false
  abs : Bool := false
  bits : Nat := 10
  gray : Bool := false
  errBit : Bool := false
  errLow : Bool := false
  filt : Nat := 2
  khz : Nat := 100
  per : Nat := 50
  tmono : Nat := 5
  zlatch : Bool := false
  dir : Bool := false
deriving DecidableEq, Repr, Inhabited

/-- One encoder port. -/
structure EncPort where
  count : Word := 0
  pos : Word := 0
  zlat : Word := 0
  err : Bool := false
  frame : Bool := false
  illegal : Bool := false
  overspeed : Bool := false
  zseen : Bool := false
  /-- The source of the movement over the last 1 ms: instants and values, newest first (R440). -/
  trail : List (Nat × Word) := []
  /-- Good absolute frames so far (R179). -/
  ver : Nat := 0
deriving DecidableEq, Repr, Inhabited

/-- The GPIO block. -/
structure Gpio where
  dir : BitVec 24 := 0
  out : BitVec 24 := 0
  inp : BitVec 24 := 0
  rise : BitVec 24 := 0
  fall : BitVec 24 := 0
  flag : BitVec 24 := 0
deriving DecidableEq, Repr, Inhabited

/-- The SER block. -/
structure Ser where
  spiCtl : Word := 0
  /-- The last received SPI frame. -/
  spiData : Word := 0
  /-- The SPI frame being sent. -/
  spiTx : Word := 0
  spiBusy : Bool := false
  uartCtl : Word := 0x0001C200
  utx : List Byte := []
  urx : List Byte := []
  i2cCtl : Word := 0
  i2cData : Byte := 0
  i2cBusy : Bool := false
  nack : Bool := false
deriving DecidableEq, Repr, Inhabited

end Sys2Proof.Machine
end

