-- ==== Sys2Proof/Machine/StateNet.lean ====
section
/-! DEFINITION. Machine/StateNet.lean: the Ethernet ports, HSP sessions, Modbus, CAN, and the flash controller
(16_host_interfaces.md; R90, R95). Defaults are the reset values. -/
namespace Sys2Proof.Machine
open Sys2Proof

/-- Section 0x60 (Table 16.1). -/
structure NetCfg where
  ethEn : BitVec 2 := 1
  mbEn : BitVec 2 := 0
  canEn : BitVec 2 := 0
  node : Nat := 0
  /-- Addresses, masks and gateways, first octet most significant. -/
  ip : Vector Nat 2 := .replicate 2 0
  mask : Vector Nat 2 := .replicate 2 0
  gw : Vector Nat 2 := .replicate 2 0
  phy : Vector Nat 2 := .replicate 2 0
  dataMbps : Nat := 1
  joyTmo : Nat := 1
  hbMs : Nat := 10
  hbBase : Nat := 0
  joyId : Option Nat := none
  tankBase : Nat := 0
  tankN : Nat := 0
  tankWord : Nat := 32
  joyWord : Nat := 32
  tankTmo : Nat := 100
  sessTmo : Nat := 60
  hostWords : BitVec 32 := 0
deriving DecidableEq, Repr, Inhabited

/-- An Ethernet DMA transfer that has ended: its descriptor, whether it read the frame to send, the status of R202, and the bytes it
completed. -/
structure DmaEnd where
  desc : Word
  send : Bool
  status : Nat
  bytes : Nat
deriving DecidableEq, Repr, Inhabited

/-- One Ethernet port (Table 16.7). -/
structure EthPort where
  link : Bool := false
  drop : Nat := 0
  badAuth : Nat := 0
  badReplay : Nat := 0
  dmaStatus : Nat := 0
  dmaBytes : Nat := 0
  /-- The DMA transfer of the port that has ended, until its descriptor is completed (R462). -/
  dma : Option DmaEnd := none
  /-- The last access to the PHY over MDIO: its address and register (R452). -/
  mdio : Option (Nat × Nat) := none
  /-- ARP entries: address and MAC, newest first, at most 16 (R452). -/
  arp : List (Nat × Nat) := []
  /-- The last frame the stack sent, from the destination MAC to the end of the payload. -/
  tx : List Byte := []
  /-- The last UDP or TCP payload handed to HSP or to the Modbus server. -/
  rx : List Byte := []
deriving DecidableEq, Repr, Inhabited

/-- A request of a session that is still running (R459). -/
structure HspWait where
  op : Nat
  rtag : Nat
deriving DecidableEq, Repr, Inhabited

/-- An open HSP session (R457, R458). -/
structure Session where
  sid : Nat
  ns : Bool
  port : Fin 2
  /-- The session key K, 32 bytes. -/
  key : List Byte
  /-- The last request CTR accepted. -/
  ctr : Nat := 0
  /-- The last response number sent. -/
  rctr : Nat := 0
  wait : Option HspWait := none
deriving DecidableEq, Repr, Inhabited

/-- The words that an HSP READ, WRITE or CAPREAD has still to move: one of its transactions waits for a tag (R196, R460). -/
structure HspXfer where
  sid : Nat
  op : Nat
  rtag : Nat
  ns : Bool
  /-- The number of the transaction that waits. -/
  id : Nat
  /-- Address of that transaction, and the words to write from it up. -/
  addr : Nat
  data : List Word := []
  /-- The words behind that transaction. -/
  left : Nat
  /-- Words moved so far. -/
  got : List Word := []
deriving DecidableEq, Repr, Inhabited

/-- Ethernet, HSP and Modbus. -/
structure Net where
  eth : Vector EthPort 2 := .replicate 2 {}
  sess : List Session := []
  /-- HSP commands with a transaction that waits for a tag. -/
  xfers : List HspXfer := []
  /-- The last HSP datagram sent, and its port. -/
  hspTx : Option (Fin 2 × List Byte) := none
  /-- Open Modbus connections: number and port (R463). -/
  mb : List (Nat × Fin 2) := []
  /-- The last Modbus answer, and its connection; none when the connection was reset. -/
  mbTx : Option (Nat × List Byte) := none
deriving DecidableEq, Repr, Inhabited

/-- One CAN controller (Table 16.7). -/
structure CanCtl where
  busOff : Bool := false
  tec : Nat := 0
  rec_ : Nat := 0
  tankStale : BitVec 32 := 0xFFFFFFFF
  joyStale : Bool := true
  joyCnt : Nat := 0
  /-- The counters of the last frames this controller received, of the joystick and of each tank sensor (R465). -/
  joySeen : Option Nat := none
  tankSeen : Vector (Option Nat) 32 := .replicate 32 none
  /-- The last heartbeat sent: identifier and 8 bytes (Table 16.6). -/
  hb : Option (Nat × List Byte) := none
  /-- Its counter. -/
  hbCnt : Nat := 0
deriving DecidableEq, Repr, Inhabited

/-- CAN. -/
structure Can where
  ctl : Vector CanCtl 2 := .replicate 2 {}
  /-- The counters of the last frames taken, of the joystick and of each tank sensor, from either controller (R465). -/
  joyLast : Option Nat := none
  tankLast : Vector (Option Nat) 32 := .replicate 32 none
deriving DecidableEq, Repr, Inhabited

/-- A flash command under way (R461). -/
structure FlashCmd where
  /-- SID of the session that waits. -/
  sid : Nat
  op : Nat
  rtag : Nat
  addr : Nat := 0
  /-- Bytes to read; for FLASH_ERASE its SIZE. -/
  count : Nat := 0
  data : List Byte := []
  /-- Procedure 3.1 runs on this chip select first (R95). -/
  cs : Bool := false
deriving DecidableEq, Repr, Inhabited

/-- The QSPI controller in LOCKOUT.MAINT (R95). -/
structure Flash where
  /-- Unlocked by the first maintenance flash command. -/
  unlocked : Bool := false
  /-- MAINT_EN_N has gone high in this stay in LOCKOUT.MAINT: no flash command is accepted any more (R71). -/
  barred : Bool := false
  /-- The chip select addressed. -/
  cs : Bool := false
  /-- Discovery has passed on that chip select in this session. -/
  found : Bool := false
  addr4 : Bool := false
  density : Nat := 0
  run : Option FlashCmd := none
  /-- The command bytes last issued to the flash, in order. -/
  sent : List (List Byte) := []
deriving DecidableEq, Repr, Inhabited

end Sys2Proof.Machine
end

