-- ==== Sys2Proof/Machine/StatePower.lean ====
section
/-! DEFINITION. Machine/StatePower.lean: clocks, supplies, hold-up and save, WATCH and the always-on domain, and the Chest
registers (17_clocks_and_crossings.md to 21_identity_and_tag.md). Defaults are the reset values. -/
namespace Sys2Proof.Machine
open Sys2Proof

/-! ### Clocks (Table 17.6) -/

/-- Section 0x02 (Table 17.3); its reset values are AON_SRC 0 and nothing driven. -/
structure ClkCfg where
  aonSrc : Nat := 0
  refo : BitVec 2 := 0
  trim : Int := 0
deriving DecidableEq, Repr, Inhabited

/-- The CLK block. -/
structure Clk where
  cfg : ClkCfg := {}
  pllLock : Bool := true
  /-- CLK_STAT.REF: the system RC is the reference. -/
  rc : Bool := false
  /-- CLK_STAT.CLKFAIL: R484 in force. -/
  fail : Bool := false
  aonFb : Bool := true
  rtcInacc : Bool := false
  /-- ETHREF: references present. -/
  ethRef : BitVec 2 := 0
  /-- REFO: references driven. -/
  refo : BitVec 2 := 0
  ppm : Int := 0
  ppmValid : Bool := false
  nXsys : Nat := 0
  nAon : Nat := 0
  nEth : Vector Nat 2 := .replicate 2 0
deriving DecidableEq, Repr, Inhabited

/-! ### Supplies (Table 18.7) -/

/-- Section 0x01 (Table 18.4). -/
structure PmuCfg where
  vinOv : Nat := 3600
  vbatFitted : Bool := false
  v5Ma : Nat := 0
  v33Ma : Nat := 0
  v18Ma : Nat := 0
deriving DecidableEq, Repr, Inhabited

/-- The rails' state (R503-R506). -/
inductive RailState where
  /-- Waiting for VIN to qualify. -/
  | off
  /-- Bring-up under way. -/
  | rising
  /-- All rails up; reset released or waiting for PORST_N. -/
  | up
  /-- A failed bring-up or a rail fault: off, waiting 100 ms. -/
  | retry
  /-- Three failures in a row: off until VIN falls below 10 V. -/
  | held
deriving DecidableEq, Repr, Inhabited

/-- Reset causes of PMU_RSTCAUSE. -/
inductive RstCause where
  | powerOn | porst | rail | hotcut | maint | sagLoss | lkrst
deriving DecidableEq, Repr, Inhabited

/-- The PMU block. -/
structure Pmu where
  cfg : PmuCfg := {}
  vinLow : Bool := false
  vinOv : Bool := false
  hot : Bool := false
  rtcLost : Bool := false
  /-- PMU_VIN.V, MAX in 10 mV. -/
  vin : Nat := 0
  vinMax : Nat := 0
  /-- PMU_RAIL.PG: V5, V33, V18, VCORE. -/
  pg : BitVec 4 := 0xF
  icore : Nat := 0
  temp : Vector (Option Int) 8 := .replicate 8 none
  /-- Consecutive readings above 135 degree C per sensor (Table 18.6). -/
  hotCnt : Vector Nat 8 := .replicate 8 0
  cause : RstCause := .powerOn
  /-- PMU_RSTCAUSE.RAIL_ID. -/
  railId : Nat := 0
  fails : Nat := 0
  failRail : Nat := 0
  rails : RailState := .up
  /-- Rails started so far in this bring-up. -/
  started : Nat := 4
  /-- Failures in a row (R504). -/
  row : Nat := 0
  /-- After a hot cut: bring-up waits for all logic sensors below 115 degree C (Table 18.6). -/
  coolWait : Bool := false
  /-- A rail fault that a running save defers (R516). -/
  railPend : Option Nat := none
  /-- Reset has been released (R75). -/
  released : Bool := false
  /-- PORST_N is high. -/
  porst : Bool := true
deriving DecidableEq, Repr, Inhabited

/-! ### Hold-up and save (Table 19.5) -/

/-- Steps of Sequence 19.1. -/
inductive SagStep where
  | none
  /-- Confirmed; a save follows. -/
  | confirmed
  /-- The record is assembled. -/
  | captured
  /-- The record is written, or the save was abandoned. -/
  | written
  /-- Core domains off. -/
  | done
deriving DecidableEq, Repr, Inhabited

/-- Hold-up, save slots and restore. -/
structure Save where
  ready : Bool := false
  cwarn : Bool := false
  charge : Bool := false
  active : Bool := false
  restore : Nat := 0
  newest : Bool := false
  valid : BitVec 2 := 0
  vsave : Nat := 0
  vmin : Nat := 0
  capC : Nat := 0
  capDrop : Nat := 0
  seq : Word := 0
  dur : Nat := 0
  energy : Nat := 0
  unver : BitVec 4 := 0
  /-- Ports whose absolute position has passed the comparison of R540 since the last start. -/
  absOk : BitVec 4 := 0
  moved : BitVec 4 := 0
  /-- SAVE_HOMEPOS. -/
  homePos : Word := 0
  /-- SAVE_HOMEST.RESULT: 0 none, 1 applied, 2 refused (R541). -/
  homeRes : Nat := 0
  homeAxis : Fin 4 := 0
  step : SagStep := .none
  /-- SAVE_ACT is driven high (R528). -/
  act : Bool := false
  /-- The rails draw from VSAVE (R528). -/
  fromVsave : Bool := false
  /-- A save follows the sag that runs (R528). -/
  saving : Bool := false
  /-- VSAVE at sag confirmation, 10 mV. -/
  vsave0 : Nat := 0
  /-- Instant of sag confirmation. -/
  at_ : Nat := 0
  /-- The record captured, 1 792 bytes but for SAGNUM, SEQ and CRC, which the write fills in. -/
  record : List Byte := []
  /-- A resume waits for SAVE_READY (R536). -/
  resuming : Bool := false
  /-- The core domains are off after a sag with the always-on domain intact (R533, R536). -/
  coreOff : Bool := false
  /-- The wake runs after a resume that did not reach SAVE_READY (R536). -/
  noHoldup : Bool := false
  /-- Absolute ports whose comparison of R540 still waits for a good frame, with the ABS held (R550). -/
  verify : List (Fin 4 × Word) := []
  /-- What the restored slot records for the channels of its recipe: KEY, bank B, destroyed (R539). -/
  restKeys : List (Nat × (Bool × Bool)) := []
  /-- The recipe that the restored slot names (R58). -/
  restRcp : Option Nat := none
deriving DecidableEq, Repr, Inhabited

/-! ### WATCH (Table 20.6) -/

/-- Section 0x70 (Table 20.2). -/
structure WatchCfg where
  period : Nat := 1
  resume : Bool := false
  encKeep : BitVec 4 := 0
  siWake : BitVec 16 := 0
  aiEn : BitVec 16 := 0
  wbWake : BitVec 16 := 0
  wakeCfg : Vector Nat 4 := .replicate 4 0
  fanWatch : BitVec 8 := 0
  foWatch : BitVec 32 := 0
  lower : Vector Nat 16 := .replicate 16 0
  upper : Vector Nat 16 := .replicate 16 0
  hyst : Vector Nat 16 := .replicate 16 0
deriving DecidableEq, Repr, Inhabited

/-- Steps of the WATCH entry (R551). -/
inductive WatchStep where
  | none
  /-- The deck sleep command has been sent. -/
  | deck
  /-- Tokens are being returned. -/
  | tokens
  /-- Everything closed and the Drawer written; domains quiesce. -/
  | closing
  /-- In WATCH, inside the entry window of R559. -/
  | window
  | asleep
  /-- A wake source has been detected. -/
  | waking
  /-- The wake table has restored the Drawer. -/
  | restored
deriving DecidableEq, Repr, Inhabited

/-- The always-on domain. -/
structure Aon where
  /-- The RTC, in units of 10^-7 microseconds (R498): AON_RTC and AON_RTCMS derive from it. -/
  rtcAcc : Nat := 0
  cause : Nat := 0
  index : Nat := 0
  edgeLost : Bool := false
  samples : Word := 0
  entries : Nat := 0
  aiHit : BitVec 16 := 0
  siHit : BitVec 16 := 0
  alarmS : Word := 0
  alarmEn : Bool := false
  wval : Vector Nat 16 := .replicate 16 0
  wout : BitVec 16 := 0
  /-- No sample has been completed since commit. -/
  first : Bool := true
  step : WatchStep := .none
  /-- Accepted SI levels at commit (R557). -/
  siCommit : BitVec 16 := 0
  /-- The 8 KiB Drawer (Table 20.4); empty when it holds nothing. -/
  drawer : List Byte := []
  /-- The wake follows a sag: ENTRY is SAG_RESUME (R560). -/
  fromSag : Bool := false
  /-- WAKEn levels as last sampled (R558). -/
  wake : BitVec 4 := 0
  /-- Outputs shorted in WATCH, off until the retry after wake (R554). -/
  shorted : BitVec 32 := 0
deriving DecidableEq, Repr, Inhabited

/-! ### The Chest (Table 21.5) -/

/-- One tag write port. -/
structure TagPort where
  buf : Vector Word 8 := .replicate 8 0
  /-- TAGCTL.BLOCK. -/
  block : Nat := 0
  /-- The block of the write under way. -/
  target : Nat := 0
  pend : Bool := false
  result : Nat := 0
  collide : Bool := false
  /-- The write is for an HSP session (port 0): SID and RTAG. -/
  hsp : Option (Nat × Nat) := none
  /-- The world the write is recorded under (R578). -/
  ns : Bool := false
  /-- Order of GO among the ports (R576). -/
  order : Nat := 0
deriving DecidableEq, Repr, Inhabited

/-- The CHEST registers. -/
structure Chest where
  factOk : Bool := false
  lifeOk : Bool := false
  port : Vector TagPort 2 := .replicate 2 {}
  /-- GO writes so far. -/
  gos : Nat := 0
deriving DecidableEq, Repr, Inhabited

/-- Lifetime-counter increments not yet written to the Chest (Table 21.4, R579). -/
structure Life where
  /-- Microseconds with VCORE on that are not yet counted as minutes. -/
  opUs : Nat := 0
  sw : Vector Nat 4 := .replicate 4 0
  bk : Vector Nat 4 := .replicate 4 0
  sag : Nat := 0
  boot : Nat := 0
deriving DecidableEq, Repr, Inhabited

end Sys2Proof.Machine
end

