-- ==== Sys2Proof/Machine/StateSafety.lean ====
section
/-! DEFINITION. Machine/StateSafety.lean: the safety parameter block in force and the state of the safety monitor
(10_safety_functions.md, 11_safety_diagnostics_lockout.md). Defaults are the reset values. -/
namespace Sys2Proof.Machine
open Sys2Proof

/-- A speed or position source (Table 10.1): an encoder port, incremental or absolute. -/
structure Src where
  port : Fin 4 := 0
  abs : Bool := false
deriving DecidableEq, Repr, Inhabited

/-- The axis configuration record of Table 10.1 with its cross-check record of Table 11.7. -/
structure AxisCfg where
  spd : Src := {}
  pos1 : Option Src := none
  pos2 : Option Src := none
  bridges : BitVec 4 := 0
  brakes : BitVec 4 := 0
  stopSs1 : Bool := false
  slpReq : Bool := false
  swRst : Bool := false
  stoIn : BitVec 16 := 0
  ss1In : BitVec 16 := 0
  rstIn : Fin 16 := 0
  bkfbIn : Option (Fin 16) := none
  /-- SLS_SEL bytes: 0-15 an input, 0xFE unused, 0xFF always. -/
  slsSel : Vector Nat 4 := .replicate 4 0xFE
  slsLim : Vector Nat 4 := .replicate 4 0
  slsTol : Nat := 1
  tuneIdx : Fin 4 := 0
  tuneEn : Bool := false
  homeIdx : Fin 4 := 0
  homeEn : Bool := false
  sdiDir : Nat := 0
  /-- SDI_SEL: 0-15 an input, 0xFF always. -/
  sdiSel : Nat := 0xFF
  sdiTol : Nat := 1
  dec : Nat := 1
  ss1Dly : Nat := 0
  ss1Tol : Nat := 1
  sstill : Nat := 0
  sstillT : Nat := 1
  bkApply : Nat := 0
  bkRel : Nat := 0
  bkfbT : Nat := 10
  slpTr : Nat := 1
  slpLo : Int := 0
  slpHi : Int := 0
  slpDec : Nat := 1
  slpTol : Nat := 0
  xcRatio : Int := 0
  xcTol : Nat := 1
  xcWin : Nat := 10
  xc2Tol : Nat := 1
  xc2Ratio : Int := 0
deriving DecidableEq, Repr, Inhabited

/-- Kind of a safe output (Table 10.2). -/
inductive SoKind where
  | unused | permit | belowSls
deriving DecidableEq, Repr, Inhabited

/-- The safe I/O record (Table 10.2) and the diagnostic record (Table 11.6). -/
structure SafeIo where
  /-- TYPE: input characteristic per SI. -/
  type3 : BitVec 16 := 0
  /-- TSIF in 0.5 ms units per SI. -/
  tsif : Vector Nat 16 := .replicate 16 4
  soAxis : Vector (Fin 4) 4 := .replicate 4 0
  soKind : Vector SoKind 4 := .replicate 4 .unused
  /-- TP_MAP: the TO of each SI, none for untested. -/
  tpMap : Vector (Option (Fin 4)) 16 := .replicate 16 none
  tpWidth : Nat := 200
  tpInt : Nat := 1000
  opWidth : Nat := 300
  opInt : Nat := 100
  /-- ONP_EN: bits 0-3 SO0-SO3, bits 4-7 BK0-BK3. -/
  onpEn : BitVec 8 := 0
deriving DecidableEq, Repr, Inhabited

/-- Axis states of Table 10.3. -/
inductive AxState where
  | unused | sto | releasing | released | ss1 | braking
deriving DecidableEq, Repr, Inhabited

/-- One safety axis (Table 10.6, R285-R301). -/
structure Axis where
  /-- Index of the configuration record in use; none: the axis is UNUSED (R288). -/
  cfgIdx : Option Nat := none
  /-- SAF_AXnSTAT.STATE. -/
  st : AxState := .unused
  /-- SAF_AXnSTAT.LATCH (R288). -/
  latch : Bool := false
  /-- SAF_AXnSTAT.NONSAFE (R301). -/
  nonsafe : Bool := false
  /-- SAF_AXnSTAT.CAUSE, 4 bits (Table 10.5). -/
  cause : Nat := 0
  /-- SAF_AXnSTAT.CIDX, 4 bits. -/
  cidx : Nat := 0
  /-- SAF_AXnSTAT.UNVER: the position is UNVERIFIED (R297, R540). -/
  unver : Bool := false
  /-- SAF_AXnSPD.SPEED: v in counts/ms (R285). -/
  v : Int := 0
  /-- SAF_AXnPOS: p in counts (R285). -/
  p : Int := 0
  /-- Position speed vp in counts/ms (R285). -/
  vp : Int := 0
  /-- SAF_AXnPRED: p_stop (R297). -/
  pStop : Int := 0
  /-- V0 of the stop (R293). -/
  v0 : Nat := 0
  /-- Safety cycles since the stop demand (R293). -/
  envCyc : Nat := 0
  /-- Consecutive cycles with |v| at or below SSTILL (R293, R298). -/
  stillCyc : Nat := 0
  /-- The falling SLS ceiling in 1/2000 counts/ms (R296); none while it equals the governing limit. -/
  slsCeil : Option Nat := none
  /-- Governing SLS limit of the last cycle (R296). -/
  gov : Option (Fin 4) := none
  /-- SLS limits selected in the last cycle. -/
  slsSelNow : BitVec 4 := 0
  /-- SAF_AXnSTAT.SDI_ACT. -/
  sdiAct : Bool := false
  /-- The counter W of R298. -/
  w : Nat := 0
  /-- A cross-check window has started: the readings below are of its start (R316). -/
  xcOn : Bool := false
  /-- Position source 1 at the start of the cross-check window (R316). -/
  xcP1 : Int := 0
  /-- Position source 2 at the start of the cross-check window. -/
  xcP2 : Int := 0
  /-- Speed source at the start of the cross-check window. -/
  xcV : Int := 0
  /-- RST_IN is high and the instant it went high, in microseconds (R300). -/
  rstHighAt : Option Nat := none
  /-- Ignored reset presses: SAF_RSTCNT.AXn, 8 bits (R300). -/
  rstCnt : Nat := 0
  /-- Bridges of the release in progress or in force (R291). -/
  relBridges : BitVec 4 := 0
  /-- Pre-release test: 0 none, 1 requested, 2 tests passed, 3 gap running, 4 carriers restarted (Procedure 11.1). -/
  relStep : Nat := 0
deriving DecidableEq, Repr, Inhabited

/-- A recorded lockout cause (R68, R331). -/
structure Cause where
  code : Code
  unit : BitVec 8 := 0xFF
  detail : Word := 0
deriving DecidableEq, Repr, Inhabited

/-- A history entry not yet written to the Chest (Table 11.4). -/
structure HistEntry where
  rtcS : Word
  rtcMs : Nat
  code : Code
  kind : Nat
  mode : Byte
  unit : BitVec 8
  safetyId : Word
  hours : Word
  detail : Word
deriving DecidableEq, Repr, Inhabited

/-- The safety monitor. -/
structure Saf where
  /-- SA0-SA3. -/
  ax : Vector Axis 4 := .replicate 4 {}
  /-- SAF_SI.RAW: levels of the last sample. -/
  siRaw : BitVec 16 := 0
  /-- The last sample as the filter takes it: a masked input holds its accepted level (R286, R317). -/
  siFilt : BitVec 16 := 0
  /-- SAF_SI.LVL: accepted levels. -/
  siLvl : BitVec 16 := 0
  /-- Inputs of which a level has been accepted since the safety monitor started (R300). -/
  siSeen : BitVec 16 := 0
  /-- Safe outputs SO0-SO3 as driven. -/
  so : BitVec 4 := 0
  /-- High-side switches of BK0-BK3. -/
  bkH : BitVec 4 := 0
  /-- Low-side switches of BK0-BK3. -/
  bkL : BitVec 4 := 0
  /-- Test outputs TO0-TO3. -/
  toOut : BitVec 4 := 0xF
  /-- Carriers KA0-KA3 as driven (R25, R32). -/
  ka : BitVec 4 := 0
  /-- SAF_CYCLE.COUNT. -/
  cycle : Word := 0
  /-- The test output that pulses low (R317). -/
  toPulse : Option (Fin 4) := none
  /-- The test output that pulsed last, and the instant its pulse ended (R317). -/
  toAfter : Option (Fin 4 × Nat) := none
  /-- Off-pulse in progress (R318). -/
  offPulse : Option OutTest := none
  /-- On-pulse in progress (R319). -/
  onPulse : Option OutTest := none
  /-- Which switch of each brake pair is tested next, bit set: low side (R318). -/
  bkAlt : BitVec 4 := 0
  /-- Recorded causes not cleared, oldest first (SAF_LKSTAT.NCAUSE, R68). -/
  causes : List Cause := []
  /-- SAF_LKCODE.FIRST. -/
  lkFirst : Code := 0
  /-- SAF_LKCODE.LAST. -/
  lkLast : Code := 0
  /-- Filtered LKRST_N level: SAF_LKSTAT.LKRST. -/
  lkrst : Bool := false
  /-- A press counts once LKRST_N has first been high for 20 ms in LOCKOUT.FAULT (R325). -/
  pressArmed : Bool := false
  /-- The press being timed and its start (SAF_LKSTAT.PRESS, R325). -/
  pressAt : Option Nat := none
  /-- SAF_LKPRESS.SHORT, 8 bits. -/
  pressShort : Nat := 0
  /-- SAF_LKPRESS.LONG, 8 bits. -/
  pressLong : Nat := 0
  /-- SAF_LKPRESS.REFUSED, 8 bits. -/
  pressRefused : Nat := 0
  /-- SAF_DIAG.SMECC, 16 bits. -/
  smEcc : Nat := 0
  /-- A lockstep mismatch has been seen since the last power cycle (R315). -/
  lockstepSeen : Bool := false
  /-- The safety monitor has stopped on its own fault (R324). -/
  halted : Bool := false
  /-- History entries waiting to be written (R327). -/
  hist : List HistEntry := []
  /-- Consecutive absolute frames with the error bit, per port (R316). -/
  encErr : Vector Nat 4 := .replicate 4 0
  /-- Samples of the speed source one and two cycles ago per port and kind, incremental (R285). -/
  inc1 : Vector Int 4 := .replicate 4 0
  inc2 : Vector Int 4 := .replicate 4 0
  /-- The same for the absolute positions. -/
  abs1 : Vector Int 4 := .replicate 4 0
  abs2 : Vector Int 4 := .replicate 4 0
  /-- Safety cycles sampled so far, up to 2: speeds are formed from then on. -/
  primed : Nat := 0
  /-- What homing has added to each source of position: incremental count and absolute position of ports 0 to 3 (R541). -/
  srcOfs : Vector Int 8 := .replicate 8 0
  /-- Pending homing request: axis and position (R541). -/
  homing : Option (Fin 4 × Int) := none
  /-- The safety monitor toggles ALIVE wherever Table 22.9 lets the ball toggle: not after a fault of its own (R323, R324). -/
  alive : Bool := true
deriving DecidableEq, Repr, Inhabited

end Sys2Proof.Machine
end

