-- ==== Sys2Proof/Machine/StateImage.lean ====
section
/-! DEFINITION. Machine/StateImage.lean: the configuration in force, as the sections of the verified image gave it
(03_boot_image.md, Table 3.4). A section that is absent is none; its defaults are its chapter's. -/
namespace Sys2Proof.Machine
open Sys2Proof

/-- The image in force. -/
structure Img where
  /-- NS_DEBUG flag (Table 3.2). -/
  nsDebug : Bool := false
  /-- LOAD of section 0x10; none: the application core stays stopped (Table 3.4). -/
  appLoad : Option Word := none
  /-- Section 0x20. -/
  templates : List Template := []
  /-- Section 0x21. -/
  mode : Option ModeTable := none
  /-- Section 0x30: ID. -/
  safetyId : Word := 0
  /-- SHA-256 of section 0x30 (Table 20.4). -/
  safetyHash : List Byte := []
  deck : DeckRecord := {}
  safeIo : SafeIo := {}
  axes : List AxisCfg := []
  /-- Sections 0x01 and 0x02 as applied, byte for byte. -/
  pmuBytes : List Byte := []
  clkBytes : List Byte := []
  /-- Sections 0x40, 0x41, 0x42, 0x43. -/
  fo : Vector FoCfg 32 := .replicate 32 {}
  fan : Vector FanCfg 8 := .replicate 8 {}
  ai : Vector AiCfg 16 := .replicate 16 {}
  enc : Vector EncCfg 4 := .replicate 4 {}
  /-- Field outputs, fans, encoder ports and analog inputs that their sections enable. -/
  foEn : BitVec 32 := 0
  fnEn : BitVec 8 := 0
  encEn : BitVec 4 := 0
  aiEn : BitVec 16 := 0
  /-- Sections 0x50, 0x51, 0x52, 0x60, 0x70. -/
  spm : Option SpmCfg := none
  hl : Option HlCfg := none
  lift : Option LiftCfg := none
  net : Option NetCfg := none
  watch : Option WatchCfg := none
deriving DecidableEq, Repr, Inhabited

end Sys2Proof.Machine
end

