-- ==== Sys2Proof/Machine/StateSys.lean ====
section
/-! DEFINITION. Machine/StateSys.lean: the major modes, the recipe state, the straps and pins, BOOT and the world tables
(02_modes_and_recipes.md, 03_boot_image.md, 04_worlds.md). Defaults are the reset values. -/
namespace Sys2Proof.Machine
open Sys2Proof

/-- A recipe change in progress (R59, R63). -/
structure RcpChange where
  /-- The recipe changed to. -/
  rcp : Nat
  /-- Step reached, 1-3 (R57, R63). -/
  step : Nat := 1
  /-- Slots being destroyed. -/
  destroyed : List (Fin 256) := []
  /-- Kept channels with a step-3 swap still to take effect. -/
  swaps : List (Fin 256) := []
  /-- The change answers a SYS_MODEREQ request (false: the end of BOOT). -/
  asked : Bool := true
deriving DecidableEq, Repr, Inhabited

/-- Modes and mode requests (Tables 2.2-2.4). -/
structure Sys where
  mode : Mode := .bootPowerup
  /-- SYS_MODE.RECIPE. -/
  recipe : Nat := 0
  /-- SYS_MODE.RCP_VALID. -/
  rcpValid : Bool := false
  /-- SYS_MODE.SWITCHING. -/
  switching : Bool := false
  /-- SYS_MODE.ENTRY, Table 2.5. -/
  entry : Nat := 0
  /-- Straps as sampled: BOOTSEL, DKPRESENT, TEST_N (R75). -/
  bootsel : BitVec 2 := 0
  dkpresent : Bool := false
  testN : Bool := true
  /-- SYS_MODERES.RESULT. -/
  resResult : Nat := 0
  resAction : Nat := 0
  resRcp : Nat := 0
  resPend : Bool := false
  resCollide : Bool := false
  resReason : Nat := 0
  resIndex : Nat := 0
  /-- The application core runs (R45). -/
  appRun : Bool := false
  /-- The application core has been started in this boot (R45). -/
  appStarted : Bool := false
  /-- The mode LOCKOUT was entered from (R50). -/
  lkFrom : Mode := .bootPowerup
  change : Option RcpChange := none
  /-- KEY to handle: slot and generation (R59). -/
  keys : List (Nat × (Fin 256 × Nat)) := []
  /-- MAINT_EN_N low since this instant; none while high (R51). -/
  maintLowAt : Option Nat := none
  /-- MIRQEN0, MIRQEN1 of the interrupt router (R628). -/
  mirqEn0 : Word := 0
  mirqEn1 : Word := 0
  /-- BOOT.SELFTEST was entered by a granted deliberate reset: the outputs keep their LOCKOUT states until SELFTEST ends and then
  follow OPERATE (R603). -/
  lkBack : Bool := false
deriving DecidableEq, Repr, Inhabited

/-- Attempt phases of Table 3.10. -/
inductive BootPhase where
  | idle | discovery | header | body | commit | done
deriving DecidableEq, Repr, Inhabited

/-- BOOT.IMAGE (03_boot_image.md). -/
structure Boot where
  phase : BootPhase := .idle
  /-- Chip select under test: false CS0, true CS1 (R89). -/
  cs : Bool := false
  /-- SYS_BOOTSTAT.SRC. -/
  src : Nat := 3
  fallback : Bool := false
  addr4 : Bool := false
  keySlot : Nat := 0
  locked : Bool := false
  cs0Err : Nat := 0x10
  cs1Err : Nat := 0x10
  /-- 4-byte addressing chosen by the present discovery (Procedure 3.1). -/
  dAddr4 : Bool := false
  /-- Flash density in bytes of the present discovery (R79). -/
  density : Nat := 0
  /-- Staged header and body (R86). -/
  header : List Byte := []
  body : List Byte := []
  /-- SYS_IMGID0, SYS_IMGID1, SYS_SAFEID, SYS_IMGTIME0, SYS_IMGTIME1, SYS_CHOXO (Table 3.7). -/
  imgId0 : Word := 0
  imgId1 : Word := 0
  safeId : Word := 0
  imgTime0 : Word := 0
  imgTime1 : Word := 0
  choxo : Word := 0
  /-- An image has been verified and loaded in this boot (Table 2.6a). -/
  loaded : Bool := false
  /-- A sag has halted BOOT (Table 2.8). -/
  halted : Bool := false
  /-- The halted BOOT was in BOOT.CHARGE with SAVE_READY set, and restarts there (Table 2.8). -/
  chargeBack : Bool := false
  /-- QSPI_CS0_N, QSPI_CS1_N driven high (R77, R90). -/
  csDriven : Bool := false
  /-- QSPI_CLK and QSPI_IO driven (R77, R90). -/
  qspiDriven : Bool := false
  /-- The HSP pre-shared keys S and NS (key-store entries 4 and 5) as they stood at the release of reset; none for an empty entry
  (R125, R126, R457). -/
  psk : Vector (Option (List Byte)) 2 := .replicate 2 none
  /-- BOOT.CHARGE: the capacitance check has started (R92, R526). -/
  capCheck : Bool := false
deriving DecidableEq, Repr, Inhabited

/-- One region table entry (Table 4.2): the words as written. -/
structure Region where
  base : Word := 0
  attr : Word := 0
deriving DecidableEq, Repr, Inhabited

/-- The SEC block (04_worlds.md). -/
structure Sec where
  /-- The block world table, 26 bits (R35, R37). -/
  bwt : Word := 0x03803E20
  /-- SEC_LOCK. -/
  lock : Bool := false
  /-- SEC_VIOL_COUNT.COUNT, SAFETY. -/
  violCount : Nat := 0
  violSafety : Nat := 0
  /-- SEC_VIOL_INFO. -/
  violInit : BitVec 4 := 0
  violKind : Nat := 0
  violCause : Nat := 0
  violValid : Bool := false
  /-- SEC_VIOL_ADDR. -/
  violAddr : Word := 0
  rgn : Vector Region 32 := .replicate 32 {}
deriving DecidableEq, Repr, Inhabited

/-- One-time programmable bits (R87, R131). -/
structure Otp where
  /-- Slot hashes, 256 bits each, 0 for none, and revoke bits, as read at the last full reset: in force until the next (R97). -/
  hash : Vector Nat 4 := .replicate 4 0
  revoked : BitVec 4 := 0
  /-- The slot hashes and revoke bits as programmed (R87). -/
  newHash : Vector Nat 4 := .replicate 4 0
  newRevoked : BitVec 4 := 0
  /-- SECURE_LOCK: both grades are shipped with it set (R131). -/
  secureLock : Bool := true
  /-- The integrity of the key-slot area holds (R88). -/
  ok : Bool := true
deriving DecidableEq, Repr, Inhabited

end Sys2Proof.Machine
end

