-- ==== Sys2Proof/Machine/State.lean ====
section
/-! DEFINITION. Machine/State.lean: the state of the whole block as plain data, and the state after reset. -/
namespace Sys2Proof.Machine
open Sys2Proof

/-- The block has no fault that stops it: a device fault code is recorded in the state (R631). The one constructor
stands for a step that the model cannot take at all; no meaning answers it. Safe: it stops. -/
inductive Fault where
  | stuck
deriving DecidableEq, Repr, Inhabited

/-- Why a command has no meaning here. Safe: it stops. -/
inductive Refusal where
  /-- Raised by exec for a command that is not modelled. Safe: it stops. -/
  | notModelled (mnemonic : String)
deriving DecidableEq, Repr, Inhabited

/-- The state of the block. -/
structure State where
  /-- Commands waiting, first in first out (the model's queue). -/
  pending : List Instr := []
  /-- Microseconds since reset, advanced by an idle step (log entry 2). -/
  now : Nat := 0
  /-- Free values taken so far (log entry 4). -/
  freeCtr : Nat := 0
  sys : Sys := {}
  boot : Boot := {}
  img : Img := {}
  sec : Sec := {}
  otp : Otp := {}
  /-- Memory bytes of the fabric space that differ from what an unlisted address reads as. -/
  mem : List Host.Cell := []
  trst : Trestle := {}
  dk : Deck := {}
  saf : Saf := {}
  chn : Chn := {}
  le : Le := {}
  cap : Vector CapUnit 4 := .replicate 4 {}
  fab : Fab := {}
  aon : Aon := {}
  life : Life := {}
  save : Save := {}
  chest : Chest := {}
  clk : Clk := {}
  pmu : Pmu := {}
  spm : Spm := {}
  hl : Hl := {}
  cab : Cab := {}
  fio : Fio := {}
  fan : Vector FanUnit 8 := .replicate 8 {}
  ain : Vector AiUnit 16 := .replicate 16 {}
  enc : Vector EncPort 4 := .replicate 4 {}
  gpio : Gpio := {}
  ser : Ser := {}
  net : Net := {}
  can : Can := {}
  flash : Flash := {}
deriving DecidableEq, Repr, Inhabited

/-- The machine right after reset. -/
def State.reset : State := {}

end Sys2Proof.Machine
end

