-- ==== Sys2Proof/Machine/FieldOut.lean ====
section
/-! DEFINITION. Machine/FieldOut.lean: the mode codes, and what drives each field output and fan in each mode (Table 2.1, R425,
R426, R431-R433, R445, R450, R528, R554, Table 11.2). -/
namespace Sys2Proof.Machine
open Sys2Proof

/-! ### Modes -/

/-- SYS_MODE.MODE (Table 2.1). -/
def Mode.code : Mode → Nat
  | .bootPowerup => 1 | .bootImage => 1 | .bootSelftest => 1 | .bootCharge => 1
  | .operate => 2 | .watch => 3 | .lockoutFault => 4 | .lockoutMaint => 4

/-- SYS_MODE.SUB (Table 2.1). -/
def Mode.sub : Mode → Nat
  | .bootPowerup => 1 | .bootImage => 2 | .bootSelftest => 3 | .bootCharge => 4
  | .operate => 0 | .watch => 0 | .lockoutFault => 1 | .lockoutMaint => 2

/-- BOOT in any sub-state. -/
def Mode.isBoot (m : Mode) : Bool := m.code == 1

/-- LOCKOUT in either sub-state. -/
def Mode.isLockout (m : Mode) : Bool := m.code == 4

/-! ### Owners -/

/-- The slot that owns a field output (R150, R431). -/
def foOwner (s : State) (n : Fin 32) : Option (Fin 256) :=
  (fins 256).find? fun (i : Fin 256) => decide (s.chn.slots[i].st ≠ .free) && s.chn.slots[i].fos.getLsbD n

/-- The slot that owns a fan (R150). -/
def fanOwner (s : State) (n : Fin 8) : Option (Fin 256) :=
  (fins 256).find? fun (i : Fin 256) => decide (s.chn.slots[i].st ≠ .free) && s.chn.slots[i].fns.getLsbD n

/-- The fan that an output supplies (R431). -/
def suppliedFan (s : State) (n : Fin 32) : Option (Fin 8) :=
  (fins 8).find? fun (f : Fin 8) => s.img.fan[f].use && decide (s.img.fan[f].supplyFo = some n)

/-- The outputs that a set of fans claims as supplies (R431). -/
def supplyMask (s : State) (fns : BitVec 8) : BitVec 32 :=
  (fins 8).foldl (fun (m : BitVec 32) (f : Fin 8) =>
    match s.img.fan[f].supplyFo with
    | some o => if fns.getLsbD f && s.img.fan[f].use then m ||| (1#32 <<< o.val) else m
    | none => m) 0

/-! ### Commands -/

/-- The duty code of a signal (R425). -/
def dutyCode (y : Int) : Nat := if y ≤ 0 then 0 else min 1024 (rne (y * 1024) 2147483648).toNat

/-- The mode whose output states apply (Table 22.9): after a granted deliberate reset to BOOT.SELFTEST those of LOCKOUT until
SELFTEST ends, then those of OPERATE (R603). -/
def outMode (s : State) : Mode :=
  if s.sys.lkBack then (match s.sys.mode with | .bootSelftest => .lockoutFault | .bootCharge => .operate | m => m) else s.sys.mode

/-- Everything of the logic island that drives a field output is off: BOOT, and a sag until the ready point (Table 2.1, R528). A sag in
WATCH keeps the WATCH states (Table 22.9, log entry 68). -/
def fieldsOff (s : State) : Bool := (outMode s).isBoot || (decide (outMode s ≠ .watch) && (s.save.active || s.save.coreOff))

/-- A sag sequence runs outside BOOT and WATCH: a fan keeps its last duty until the core domains are off (Table 22.9). -/
def fansHeld (s : State) : Bool := s.save.active && decide (outMode s ≠ .watch) && !(outMode s).isBoot

/-- The duty code that the mode, the owner or the idle state commands of a fan (Table 15.4, R425, R554). -/
def fanCommand (s : State) (n : Fin 8) : Nat :=
  let c := s.img.fan[n]
  if !c.use then 0
  else if fansHeld s then s.fan[n].cmd
  else if fieldsOff s then 0
  else if (outMode s).isLockout then c.faultDuty
  else if outMode s = .watch then (match s.img.watch with | some w => if w.fanWatch.getLsbD n then 1024 else 0 | none => 0)
  else match fanOwner s n, s.fan[n].y with
    | some _, some y => dutyCode y
    | _, _ => c.idleDuty

/-- The duty code commanded of a field output (R425, Table 15.1, R431, R554): 1 024 for an output without PWM that is on. -/
def foCommand (s : State) (n : Fin 32) : Nat :=
  let c := s.img.fo[n]
  if c.mode = 0 || fieldsOff s then 0
  else match suppliedFan s n with
    | some f => if s.fan[f].duty > 0 then 1024 else 0
    | none =>
      if (outMode s).isLockout then (if c.faultOn then 1024 else 0)
      else if outMode s = .watch then
        (match s.img.watch with | some w => if w.foWatch.getLsbD n && !s.aon.shorted.getLsbD n then 1024 else 0 | none => 0)
      else match foOwner s n, s.fio.out[n].y with
        | some _, some y => if c.pwmHz = 0 then (if y > 0 then 1024 else 0) else dutyCode y
        | _, _ => if c.idleOn then 1024 else 0

/-- The on-time of a PWM output is at least us microseconds (R425). -/
def onTimeAtLeast (c : FoCfg) (duty us : Nat) : Bool := decide (us * 1024 * c.pwmHz ≤ duty * 1000000)

/-- The open-load method that applies to an output now (Table 15.3): 1, 2, 3, or 0 for none. -/
def openMethod (c : FoCfg) (o : FoOut) : Nat :=
  let pwm := decide (o.st = 2)
  if o.st = 1 ∨ (pwm ∧ onTimeAtLeast c o.duty 60) then 1
  else if c.offSrc && (!pwm || onTimeAtLeast c (1024 - o.duty) 100) then 2
  else if pwm && decide (0 < o.duty) && !c.offSrc && !c.noStretch then 3
  else 0

/-- UNTESTED of an output in use: no method applies to it (R430). -/
def FoOut.judge (c : FoCfg) (o : FoOut) : FoOut := { o with untested := decide (c.mode ≠ 0) && decide (openMethod c o = 0) }

/-- An output takes its command: off, on or PWM; a LATCHED output and one in its retry wait stay off (R426, R428, R445). -/
def FoOut.drive (c : FoCfg) (now duty : Nat) (o : FoOut) : FoOut :=
  if o.st = 3 ∨ o.st = 4 then { o with duty := 0, late := false }.judge c
  else
    let st := if duty = 0 then 0 else if c.pwmHz ≠ 0 ∧ duty < 1024 then 2 else 1
    let on := decide (o.st = 0 ∧ st ≠ 0)
    { o with
      st := st, duty := duty, late := false, onAt := if on then now else o.onAt, shortAt := if on then none else o.shortAt }.judge c

/-- One output takes its command. -/
def foRefresh (n : Fin 32) (s : State) : State :=
  { s with fio := { s.fio with out := vmod s.fio.out n (FoOut.drive s.img.fo[n] s.now (foCommand s n)) } }

/-- A stretched pulse of the output runs (R446). -/
def FoOut.stretching (now : Nat) (o : FoOut) : Bool := decide (o.st = 2) && decide (now < o.strTo)

/-- A fan takes a command: supervision starts at CHECK_DUTY and stops below it (R432, R433, R448); a kick and FAN_STALL hold it at
100 %. -/
def FanUnit.take (c : FanCfg) (cmd : Nat) (f : FanUnit) : FanUnit :=
  let st : FanState :=
    if !c.use then .off
    else if cmd < c.checkDuty then (match f.st with | .tachLost => .tachLost | .stall => .stall | _ => .off)
    else (match f.st with | .off => .spinUp | x => x)
  { f with
    st := st
    kicks := if st = .off ∨ f.st = .off then 0 else f.kicks
    cmd := cmd
    duty := if !c.use then 0 else if st = .kick ∨ st = .stall then 1024 else cmd }

/-- One fan takes its command, and its supply output follows (R431). -/
def fanRefresh (n : Fin 8) (s : State) : State :=
  let s := { s with fan := vmod s.fan n (FanUnit.take s.img.fan[n] (fanCommand s n)) }
  match s.img.fan[n].supplyFo with
  | some o => if s.img.fan[n].use then foRefresh o s else s
  | none => s

/-- Every field output and fan takes the state of the present mode, owners and values. -/
def fieldsRefresh (s : State) : State :=
  (fins 32).foldl (fun (s : State) (n : Fin 32) => foRefresh n s) ((fins 8).foldl (fun (s : State) (n : Fin 8) => fanRefresh n s) s)

/-- What a free does to an output before it takes its idle state: the retry count restarts and LATCHED clears (R450). -/
def FoOut.release (c : FoCfg) (o : FoOut) : FoOut :=
  { o with y := none, st := (if o.st = 3 ∨ o.st = 4 then 0 else o.st), short := false, retryLeft := c.retry }

/-- The outputs and fans of a slot that goes FREE take their idle states (R147, R450). -/
def fieldsFree (fos : BitVec 32) (fns : BitVec 8) (s : State) : State :=
  let s := (fins 32).foldl (fun (s : State) (n : Fin 32) =>
    if fos.getLsbD n then { s with fio := { s.fio with out := vmod s.fio.out n (FoOut.release s.img.fo[n]) } } else s) s
  let s := (fins 8).foldl (fun (s : State) (n : Fin 8) =>
    if fns.getLsbD n then { s with fan := vmod s.fan n fun f => { f with y := none } } else s) s
  let s := (fins 8).foldl (fun (s : State) (n : Fin 8) => if fns.getLsbD n then fanRefresh n s else s) s
  (fins 32).foldl (fun (s : State) (n : Fin 32) => if fos.getLsbD n then foRefresh n s else s) s

/-- A new value on an FO port (R178): during a stretched pulse it waits for the next period (R446). -/
def foXfer (n : Fin 32) (y : Int) (s : State) : State :=
  let wait := s.fio.out[n].stretching s.now
  let s := { s with fio := { s.fio with out := vmod s.fio.out n fun o => { o with y := some y, late := o.late || wait } } }
  if wait then s else foRefresh n s

/-- The duties that waited for the period after a stretched pulse apply as it starts (R446). -/
def foPeriods (s : State) : State :=
  (fins 32).foldl (fun (s : State) (n : Fin 32) =>
    if s.fio.out[n].late && decide (s.fio.out[n].strNext ≤ s.now) then foRefresh n s else s) s

/-- A new value on a FAN port (R178). -/
def fanXfer (n : Fin 8) (y : Int) (s : State) : State :=
  fanRefresh n { s with fan := vmod s.fan n fun f => { f with y := some y } }

end Sys2Proof.Machine
end

