-- ==== Sys2Proof/Machine/Crypto.lean ====
section
/-! DEFINITION. Machine/Crypto.lean: SHA-256, HMAC-SHA-256 (RFC 2104), SHA-512 and Ed25519 (RFC 8032) as the spec names them (R80,
R83, R85, R401, R456, R457). -/
namespace Sys2Proof.Machine
open Sys2Proof

/-! ### SHA-2 -/

/-- The round constants of SHA-256. -/
def sha256K : List (BitVec 32) :=
  [0x428A2F98, 0x71374491, 0xB5C0FBCF, 0xE9B5DBA5, 0x3956C25B, 0x59F111F1, 0x923F82A4, 0xAB1C5ED5] ++
  [0xD807AA98, 0x12835B01, 0x243185BE, 0x550C7DC3, 0x72BE5D74, 0x80DEB1FE, 0x9BDC06A7, 0xC19BF174] ++
  [0xE49B69C1, 0xEFBE4786, 0x0FC19DC6, 0x240CA1CC, 0x2DE92C6F, 0x4A7484AA, 0x5CB0A9DC, 0x76F988DA] ++
  [0x983E5152, 0xA831C66D, 0xB00327C8, 0xBF597FC7, 0xC6E00BF3, 0xD5A79147, 0x06CA6351, 0x14292967] ++
  [0x27B70A85, 0x2E1B2138, 0x4D2C6DFC, 0x53380D13, 0x650A7354, 0x766A0ABB, 0x81C2C92E, 0x92722C85] ++
  [0xA2BFE8A1, 0xA81A664B, 0xC24B8B70, 0xC76C51A3, 0xD192E819, 0xD6990624, 0xF40E3585, 0x106AA070] ++
  [0x19A4C116, 0x1E376C08, 0x2748774C, 0x34B0BCB5, 0x391C0CB3, 0x4ED8AA4A, 0x5B9CCA4F, 0x682E6FF3] ++
  [0x748F82EE, 0x78A5636F, 0x84C87814, 0x8CC70208, 0x90BEFFFA, 0xA4506CEB, 0xBEF9A3F7, 0xC67178F2]

/-- The round constants of SHA-512. -/
def sha512K : List (BitVec 64) :=
  [0x428A2F98D728AE22, 0x7137449123EF65CD, 0xB5C0FBCFEC4D3B2F, 0xE9B5DBA58189DBBC, 0x3956C25BF348B538, 0x59F111F1B605D019, 0x923F82A4AF194F9B, 0xAB1C5ED5DA6D8118] ++
  [0xD807AA98A3030242, 0x12835B0145706FBE, 0x243185BE4EE4B28C, 0x550C7DC3D5FFB4E2, 0x72BE5D74F27B896F, 0x80DEB1FE3B1696B1, 0x9BDC06A725C71235, 0xC19BF174CF692694] ++
  [0xE49B69C19EF14AD2, 0xEFBE4786384F25E3, 0x0FC19DC68B8CD5B5, 0x240CA1CC77AC9C65, 0x2DE92C6F592B0275, 0x4A7484AA6EA6E483, 0x5CB0A9DCBD41FBD4, 0x76F988DA831153B5] ++
  [0x983E5152EE66DFAB, 0xA831C66D2DB43210, 0xB00327C898FB213F, 0xBF597FC7BEEF0EE4, 0xC6E00BF33DA88FC2, 0xD5A79147930AA725, 0x06CA6351E003826F, 0x142929670A0E6E70] ++
  [0x27B70A8546D22FFC, 0x2E1B21385C26C926, 0x4D2C6DFC5AC42AED, 0x53380D139D95B3DF, 0x650A73548BAF63DE, 0x766A0ABB3C77B2A8, 0x81C2C92E47EDAEE6, 0x92722C851482353B] ++
  [0xA2BFE8A14CF10364, 0xA81A664BBC423001, 0xC24B8B70D0F89791, 0xC76C51A30654BE30, 0xD192E819D6EF5218, 0xD69906245565A910, 0xF40E35855771202A, 0x106AA07032BBD1B8] ++
  [0x19A4C116B8D2D0C8, 0x1E376C085141AB53, 0x2748774CDF8EEB99, 0x34B0BCB5E19B48A8, 0x391C0CB3C5C95A63, 0x4ED8AA4AE3418ACB, 0x5B9CCA4F7763E373, 0x682E6FF3D6B2B8A3] ++
  [0x748F82EE5DEFB2FC, 0x78A5636F43172F60, 0x84C87814A1F0AB72, 0x8CC702081A6439EC, 0x90BEFFFA23631E28, 0xA4506CEBDE82BDE9, 0xBEF9A3F7B2C67915, 0xC67178F2E372532B] ++
  [0xCA273ECEEA26619C, 0xD186B8C721C0C207, 0xEADA7DD6CDE0EB1E, 0xF57D4F7FEE6ED178, 0x06F067AA72176FBA, 0x0A637DC5A2C898A6, 0x113F9804BEF90DAE, 0x1B710B35131C471B] ++
  [0x28DB77F523047D84, 0x32CAAB7B40C72493, 0x3C9EBE0A15C9BEBC, 0x431D67C49C100D4C, 0x4CC5D4BECB3E42B6, 0x597F299CFC657E2A, 0x5FCB6FAB3AD6FAEC, 0x6C44198C4A475817]

/-- Initial hash values. -/
def sha256H : List (BitVec 32) := [0x6A09E667, 0xBB67AE85, 0x3C6EF372, 0xA54FF53A, 0x510E527F, 0x9B05688C, 0x1F83D9AB, 0x5BE0CD19]
def sha512H : List (BitVec 64) :=
  [0x6A09E667F3BCC908, 0xBB67AE8584CAA73B, 0x3C6EF372FE94F82B, 0xA54FF53A5F1D36F1, 0x510E527FADE682D1, 0x9B05688C2B3E6C1F, 0x1F83D9ABFB41BD6B, 0x5BE0CD19137E2179]

/-- The rotation and shift amounts of one SHA-2 member: Sigma0, Sigma1, sigma0, sigma1. -/
structure ShaRot where
  s0 : Nat × Nat × Nat
  s1 : Nat × Nat × Nat
  e0 : Nat × Nat × Nat
  e1 : Nat × Nat × Nat

/-- Three rotations combined. -/
def rot3 {w : Nat} (r : Nat × Nat × Nat) (x : BitVec w) : BitVec w := x.rotateRight r.1 ^^^ x.rotateRight r.2.1 ^^^ x.rotateRight r.2.2
/-- Two rotations and a shift combined. -/
def rot2s {w : Nat} (r : Nat × Nat × Nat) (x : BitVec w) : BitVec w := x.rotateRight r.1 ^^^ x.rotateRight r.2.1 ^^^ (x >>> r.2.2)

/-- The message schedule: n further words, the window of the last 16 oldest first. -/
def shaSched {w : Nat} (r : ShaRot) : Nat → List (BitVec w) → List (BitVec w)
  | 0, win => win
  | n + 1, win =>
    match win with
    | [] => []
    | a :: rest =>
      let x := rot2s r.e1 (win.getD 14 0) + win.getD 9 0 + rot2s r.e0 (win.getD 1 0) + a
      a :: shaSched r n (rest ++ [x])

/-- One round on the eight working variables. -/
def shaRound {w : Nat} (r : ShaRot) (v : Vector (BitVec w) 8) (kw : BitVec w) : Vector (BitVec w) 8 :=
  let e := v[4]
  let a := v[0]
  let t1 := v[7] + rot3 r.s1 e + ((e &&& v[5]) ^^^ (~~~e &&& v[6])) + kw
  let t2 := rot3 r.s0 a + ((a &&& v[1]) ^^^ (a &&& v[2]) ^^^ (v[1] &&& v[2]))
  #v[t1 + t2, a, v[1], v[2], v[3] + t1, e, v[5], v[6]]

/-- One block. -/
def shaBlock {w : Nat} (r : ShaRot) (ks : List (BitVec w)) (h : Vector (BitVec w) 8) (blk : List (BitVec w)) : Vector (BitVec w) 8 :=
  let ws := shaSched r (ks.length - 16) blk
  let v := (ks.zip ws).foldl (fun v x => shaRound r v (x.1 + x.2)) h
  Vector.zipWith (· + ·) h v

/-- The words of w bits, most significant byte first, of a list of bytes; fuel bounds the words. -/
def beWords (w : Nat) : Nat → List Byte → List (BitVec w)
  | 0, _ => []
  | n + 1, bs => match bs with
    | [] => []
    | _ => BitVec.ofNat w (beNat (bs.take (w / 8))) :: beWords w n (bs.drop (w / 8))

/-- The blocks of 16 words; fuel bounds the blocks. -/
def shaBlocks {w : Nat} : Nat → List (BitVec w) → List (List (BitVec w))
  | 0, _ => []
  | n + 1, ws => match ws with
    | [] => []
    | _ => ws.take 16 :: shaBlocks n (ws.drop 16)

/-- Padding: a 1 bit, zeros, and the length in bits in 2 w bits. -/
def shaPad (w : Nat) (bs : List Byte) : List Byte :=
  let b := 2 * w
  let z := (b - (bs.length + 1 + w / 4) % b) % b
  bs ++ 0x80#8 :: List.replicate z 0 ++ beBytes (w / 4) (8 * bs.length)

/-- A SHA-2 digest as bytes. -/
def sha2 {w : Nat} (r : ShaRot) (ks : List (BitVec w)) (h0 : Vector (BitVec w) 8) (bs : List Byte) : List Byte :=
  let p := shaPad w bs
  let ws := beWords w p.length p
  (((shaBlocks ws.length ws).foldl (shaBlock r ks) h0).toList).flatMap fun x => beBytes (w / 8) x.toNat

/-- The eight words of a list. -/
def vec8 {w : Nat} (l : List (BitVec w)) : Vector (BitVec w) 8 := Vector.ofFn fun i => l.getD i.val 0

/-- SHA-256. -/
def sha256 (bs : List Byte) : List Byte :=
  sha2 { s0 := (2, 13, 22), s1 := (6, 11, 25), e0 := (7, 18, 3), e1 := (17, 19, 10) } sha256K (vec8 sha256H) bs

/-- SHA-512. -/
def sha512 (bs : List Byte) : List Byte :=
  sha2 { s0 := (28, 34, 39), s1 := (14, 18, 41), e0 := (1, 8, 7), e1 := (19, 61, 6) } sha512K (vec8 sha512H) bs

/-- HMAC-SHA-256 (R456). -/
def hmac256 (key msg : List Byte) : List Byte :=
  let k0 := if key.length > 64 then sha256 key else key
  let k := k0 ++ List.replicate (64 - k0.length) 0#8
  sha256 (k.map (· ^^^ 0x5C#8) ++ sha256 (k.map (· ^^^ 0x36#8) ++ msg))

/-! ### Ed25519 -/

/-- The field prime 2^255 - 19, the group order L and the curve constant d. -/
def edP : Nat := 2 ^ 255 - 19
def edL : Nat := 2 ^ 252 + 27742317777372353535851937790883648493
def edD : Nat := 37095705934669439343138083508754565189542113879843219016388785533085940283555

/-- Modular power; fuel bounds the bits of e. -/
def powMod (m : Nat) : Nat → Nat → Nat → Nat
  | 0, _, _ => 1 % m
  | n + 1, b, e =>
    let h := powMod m n (b * b % m) (e / 2)
    if e % 2 = 1 then b * h % m else h

/-- Modular inverse in the field. -/
def edInv (x : Nat) : Nat := powMod edP 256 x (edP - 2)

/-- A point in extended coordinates (X, Y, Z, T). -/
structure EdPt where
  x : Nat
  y : Nat
  z : Nat
  t : Nat
deriving DecidableEq, Repr, Inhabited

/-- The neutral element. -/
def edZero : EdPt := { x := 0, y := 1, z := 1, t := 0 }

/-- Subtraction in the field. -/
def edSub (a b : Nat) : Nat := (a + (edP - b % edP)) % edP

/-- Point addition (RFC 8032, 5.1.4). -/
def edAdd (p q : EdPt) : EdPt :=
  let a := edSub p.y p.x * edSub q.y q.x % edP
  let b := (p.y + p.x) * (q.y + q.x) % edP
  let c := 2 * p.t * q.t * edD % edP
  let d := 2 * p.z * q.z % edP
  let e := edSub b a
  let f := edSub d c
  let g := (d + c) % edP
  let h := (b + a) % edP
  { x := e * f % edP, y := g * h % edP, z := f * g % edP, t := e * h % edP }

/-- Scalar multiplication; fuel bounds the bits. -/
def edMul : Nat → Nat → EdPt → EdPt
  | 0, _, _ => edZero
  | n + 1, k, p =>
    let h := edMul n (k / 2) (edAdd p p)
    if k % 2 = 1 then edAdd p h else h

/-- Equality of points. -/
def edEq (p q : EdPt) : Bool := p.x * q.z % edP == q.x * p.z % edP && p.y * q.z % edP == q.y * p.z % edP

/-- The 32-byte encoding of a point. -/
def edEnc (p : EdPt) : List Byte :=
  let zi := edInv p.z
  let x := p.x * zi % edP
  let y := p.y * zi % edP
  leBytes 32 (y + (x % 2) * 2 ^ 255)

/-- Decode a point; none where the encoding is not canonical or names no point (R80). -/
def edDec (bs : List Byte) : Option EdPt :=
  let n := leNat bs
  let y := n % 2 ^ 255
  let sgn := n / 2 ^ 255
  if bs.length ≠ 32 ∨ y ≥ edP then none
  else
    let u := edSub (y * y) 1
    let v := (edD * (y * y) + 1) % edP
    let v3 := v * v * v % edP
    let x0 := u * v3 % edP * powMod edP 256 (u * (v3 * v3 % edP * v % edP) % edP) ((edP - 5) / 8) % edP
    let x1 := if v * x0 * x0 % edP = u % edP then some x0
      else if v * x0 * x0 % edP = edSub 0 u then some (x0 * powMod edP 256 2 ((edP - 1) / 4) % edP) else none
    match x1 with
    | none => none
    | some x =>
      if x = 0 ∧ sgn = 1 then none
      else let x := if x % 2 = sgn then x else edP - x
        some { x := x, y := y, z := 1, t := x * y % edP }

/-- The base point. -/
def edB : EdPt := (edDec (leBytes 32 (4 * edInv 5 % edP))).getD edZero

/-- Verification by the cofactorless equation [S]B = R + [k]A, S below L, R and A canonical (R80). -/
def edVerify (pub msg sig : List Byte) : Bool :=
  let r := sig.take 32
  let s := leNat (sig.drop 32)
  if sig.length ≠ 64 ∨ s ≥ edL then false
  else match edDec r, edDec pub with
    | some rp, some a =>
      let k := leNat (sha512 (r ++ pub ++ msg)) % edL
      edEq (edMul 256 s edB) (edAdd rp (edMul 256 k a))
    | _, _ => false

/-- The secret scalar and prefix of a 32-byte seed. -/
def edScalar (seed : List Byte) : Nat × List Byte :=
  let h := sha512 seed
  (leNat (h.take 32) % 2 ^ 254 / 8 * 8 + 2 ^ 254, h.drop 32)

/-- The public key of a seed. -/
def edPub (seed : List Byte) : List Byte := edEnc (edMul 256 (edScalar seed).1 edB)

/-- The signature of a message under a seed (R401). -/
def edSign (seed msg : List Byte) : List Byte :=
  let a := edScalar seed
  let pub := edEnc (edMul 256 a.1 edB)
  let r := leNat (sha512 (a.2 ++ msg)) % edL
  let rb := edEnc (edMul 256 r edB)
  let k := leNat (sha512 (rb ++ pub ++ msg)) % edL
  rb ++ leBytes 32 ((r + k * a.1) % edL)

end Sys2Proof.Machine
end

