-- ==== Sys2Proof/Machine/HspAnswer.lean ====
section
/-! DEFINITION. Machine/HspAnswer.lean: the answer of an HSP request (R452, R456-R460, R470), and SYS_MODERES, which the answer of a mode
request carries (Table 2.4). -/
namespace Sys2Proof.Machine
open Sys2Proof

/-- The or of the fields of a word. -/
def fields (l : List Word) : Word := l.foldl (· ||| ·) 0

/-- SYS_MODERES (Table 2.4). -/
def sysModeResWord (s : State) : Word := fields [
  fld s.sys.resResult 0 8, fld s.sys.resAction 8 4, fld s.sys.resRcp 12 4, bit s.sys.resPend 16, bit s.sys.resCollide 17,
  fld s.sys.resReason 20 4, fld s.sys.resIndex 24 8]

/-- A response datagram (Table 16.2). -/
def hspDatagram (key : List Byte) (ns : Bool) (sid ctr op result rtag : Nat) (payload : List Byte) : List Byte :=
  let m := [0x48, 0x53, 0x01, if ns then 0x03 else 0x01] ++ leBytes 4 sid ++ leBytes 4 ctr ++
    [BitVec.ofNat 8 op, BitVec.ofNat 8 result] ++ leBytes 2 payload.length ++ leBytes 4 rtag ++ List.replicate 12 0 ++ payload
  m ++ hmac256 key m

/-- Change a port. -/
def State.modEth (s : State) (p : Fin 2) (f : EthPort → EthPort) : State := { s with net := { s.net with eth := vmod s.net.eth p f } }

/-- A packet is dropped and counted. -/
def ethDrop (p : Fin 2) (s : State) : State := s.modEth p fun e => { e with drop := incSat 4294967295 e.drop }

/-- Change the session of a SID. -/
def State.modSess (s : State) (sid : Nat) (f : Session → Session) : State :=
  { s with net := { s.net with sess := s.net.sess.map fun y => if y.sid = sid then f y else y } }

/-- The session of a SID. -/
def sessOf (s : State) (sid : Nat) : Option Session := s.net.sess.find? fun x => decide (x.sid = sid)

/-- A datagram goes out on a port; a port whose link is down sends nothing (R452). -/
def hspOut (p : Fin 2) (d : List Byte) (s : State) : State :=
  if s.net.eth[p].link then { s with net := { s.net with hspTx := some (p, d) } } else s

/-- Send an answer on a session with the next response number; what runs on the session goes on (R458, R459). A session that has closed
gets no answer (R470). -/
def hspSay (sid op result rtag : Nat) (payload : List Byte) (s : State) : State :=
  match sessOf s sid with
  | none => s
  | some x =>
    hspOut x.port (hspDatagram x.key x.ns sid (x.rctr + 1) op result rtag payload) (s.modSess sid fun y => { y with rctr := y.rctr + 1 })

/-- Answer the request that a session runs. -/
def hspReply (sid op result rtag : Nat) (payload : List Byte) (s : State) : State :=
  (hspSay sid op result rtag payload s).modSess sid fun y => { y with wait := none }

/-- The session whose RECIPE, WATCH or MAINT request still runs, with that request (R66: one at a time). -/
def modeWaiter (s : State) : Option (Session × HspWait) :=
  s.net.sess.findSome? fun x => match x.wait with
    | some w => if w.op = 0x21 ∨ w.op = 0x22 ∨ w.op = 0x40 then some (x, w) else none
    | none => none

/-- Answer a session that waits for its mode request, with SYS_MODERES as it stands (R46, R460). -/
def hspModeAnswer (result : Nat) (s : State) : State :=
  match modeWaiter s with
  | some (x, w) => hspReply x.sid w.op result w.rtag (wordBytes (sysModeResWord s)) s
  | none => s

/-- A mode request ends: a session that waits for it is answered with its RESULT and SYS_MODERES (R460). -/
def hspModeDone (s : State) : State := hspModeAnswer s.sys.resResult s

end Sys2Proof.Machine
end

