-- ==== Sys2Proof/Machine/Ops.lean ====
section
/-! DEFINITION. Machine/Ops.lean: operations that several chapters share: mode codes, fault codes, recorded causes and the
history, the safety stops, and the entry to LOCKOUT (R48-R50, R54, R67-R69, R121, R289, R323-R324, R327, R631). -/
namespace Sys2Proof.Machine
open Sys2Proof

/-- The result of a meaning. -/
abbrev Res := Host.Outcome State Fault Refusal

/-! ### Fault codes (Table 24.10) -/

def cSlsExceeded : Code := 0x0110
def cSs1Envelope : Code := 0x0111
def cSlpLimit : Code := 0x0112
def cSdiWrongDir : Code := 0x0113
def cBrakeFeedback : Code := 0x0114
def cOffpulseBk : Code := 0x0201
def cOffpulseSo : Code := 0x0202
def cStoPathTest : Code := 0x0203
def cEncCrosscheck : Code := 0x0204
def cSiTestpulse : Code := 0x0205
def cSmRamEcc : Code := 0x0206
def cSmLockstep : Code := 0x0207
def cClockFail : Code := 0x0208
def cDeckLost : Code := 0x0209
def cTrestleCrc : Code := 0x020A
def cDesatPretest : Code := 0x020B
def cWorldViolation : Code := 0x0210
def cLockstepRepeat : Code := 0x0301
def cOtpCorrupt : Code := 0x0302
def cImageSig : Code := 0x0401
def cSafetyBlockCrc : Code := 0x0402
def cImageFormat : Code := 0x0403
def cHoldupLow : Code := 0x0501
def cVinOv : Code := 0x0502
def cThermal : Code := 0x0503
def cDesat : Code := 0x0601
def cOvercurrent : Code := 0x0602
def cDcOvervolt : Code := 0x0603
def cDcUndervolt : Code := 0x0604
def cHeatsink : Code := 0x0605
def cLampOpen : Code := 0x0701
def cFoShort : Code := 0x0702
def cFanStall : Code := 0x0703
def cTachLost : Code := 0x0704
def cAinBreak : Code := 0x0705
def cPlausibility : Code := 0x0801
def cFollowing : Code := 0x0802

/-- The class byte of a fault code (R13). -/
def codeClass (c : Code) : Nat := c.toNat / 256

/-- Lockout-class codes: classes 0x01 to 0x06 except 0x0210 (Table 2.6a, R49). -/
def lockoutClass (c : Code) : Bool := decide (1 ≤ codeClass c) && decide (codeClass c ≤ 6) && decide (c ≠ cWorldViolation)

/-! ### Result codes (Table 24.9) -/

def rOk : Nat := 0x00
def rCurtailed : Nat := 0x01
def rCapacity : Nat := 0x11
def rWorld : Nat := 0x12
def rResource : Nat := 0x13
def rMode : Nat := 0x14
def rSlots : Nat := 0x15
def rSafety : Nat := 0x16
def rPower : Nat := 0x17
def rEnergy : Nat := 0x18
def rStale : Nat := 0x21
def rBadState : Nat := 0x22
def rBadTemplate : Nat := 0x23
def rBusy : Nat := 0x30

/-! ### Modes -/

/-- SYS_MODE.ENTRY codes (Table 2.5). -/
def enPowerOn : Nat := 0
def enBootDone : Nat := 1
def enWake : Nat := 2
def enWatchReq : Nat := 3
def enFault : Nat := 4
def enStrap : Nat := 5
def enLkReset : Nat := 6
def enSagResume : Nat := 7
def enMaint : Nat := 8

/-! ### Time -/

/-- VCORE is on: the rails are up and the core domain is not off after a sag or in WATCH. -/
def vcoreOn (s : State) : Bool := s.pmu.pg.getLsbD 3 && !s.save.coreOff && decide (s.sys.mode ≠ .watch)

/-- AON_RTC.S: whole seconds of the RTC. -/
def rtcS (s : State) : Word := BitVec.ofNat 32 (s.aon.rtcAcc / 10000000000000)

/-- AON_RTCMS: milliseconds of the RTC second, 0-999. -/
def rtcMs (s : State) : Nat := s.aon.rtcAcc / 10000000000 % 1000

/-- Take a free word: the value of Config.freeWord at the counter, and the counter advanced (log entry 4). -/
def takeFree (s : State) : Word × State := (Config.freeWord s.freeCtr, { s with freeCtr := s.freeCtr + 1 })

/-! ### Channels: small updates -/

/-- Change one slot. -/
def State.modSlot (s : State) (i : Fin 256) (f : Slot → Slot) : State :=
  { s with chn := { s.chn with slots := vmod s.chn.slots i f } }

/-- Change every slot. -/
def State.mapSlots (s : State) (f : Slot → Slot) : State :=
  { s with chn := { s.chn with slots := s.chn.slots.map f } }

/-- The template of a slot. -/
def slotTemplate (s : State) (c : Slot) : Template := (s.img.templates[c.template]?).getD {}

/-- A drive channel: its template names a bridge or binds it to a safety axis (R53). -/
def isDrive (s : State) (c : Slot) : Bool :=
  let t := slotTemplate s c
  t.drive || decide (t.bridges ≠ 0) || c.axis.isSome

/-- What LOCKOUT does to a channel: a RUNNING one goes HELD at its next boundary, a DESTROY that waits for a boundary gives way to that
(log entry 97), and a pending START is cancelled (R54, R158). A channel that leaves with a recipe change is destroyed all the same (R67). -/
def Slot.lockHold (leaves : Bool) (c : Slot) : Slot :=
  { c with
    holdPend := c.holdPend || decide (c.st = .running), destroyPend := leaves && c.destroyPend
    startPend := false, grant := if c.startPend then 0 else c.grant }

/-- The slots that a recipe change under way destroys (R63). -/
def changeLeaves (s : State) (i : Fin 256) : Bool := match s.sys.change with | some c => c.destroyed.contains i | none => false

/-- Every channel under LOCKOUT. -/
def lockHolds (s : State) : State :=
  { s with chn := { s.chn with slots := s.chn.slots.mapFinIdx fun i c h => c.lockHold (changeLeaves s ⟨i, h⟩) } }

/-- What entering STO does to a drive channel of the axis (R289): HELD at the next boundary, pending START cancelled. -/
def Slot.stoHold (n : Fin 4) (c : Slot) : Slot :=
  if c.axis = some n then
    { c with holdPend := c.holdPend || decide (c.st = .running), startPend := false, grant := if c.startPend then 0 else c.grant }
  else c

/-! ### Safety outputs -/

/-- Change one axis. -/
def State.modAxis (s : State) (n : Fin 4) (f : Axis → Axis) : State :=
  { s with saf := { s.saf with ax := vmod s.saf.ax n f } }

/-- The configuration record of an axis; none for an UNUSED axis. -/
def axisCfg (s : State) (n : Fin 4) : Option AxisCfg :=
  match s.saf.ax[n].cfgIdx with
  | some i => s.img.axes[i]?
  | none => none

/-- The bits of a 4-bit set that are not in another. -/
def clear4 (a b : BitVec 4) : BitVec 4 := a &&& ~~~b

/-- Stop carriers (R25, R32): only the safety monitor drives them. -/
def stopCarriers (m : BitVec 4) (s : State) : State := { s with saf := { s.saf with ka := clear4 s.saf.ka m } }

/-- Start carriers: the deck sees edges from then on. -/
def startCarriers (m : BitVec 4) (s : State) : State :=
  { s with
    saf := { s.saf with ka := s.saf.ka ||| m }
    dk := { s.dk with br := s.dk.br.mapFinIdx fun i b _ => if m.getLsbD i && s.dk.powered then { b with ka := true } else b } }

/-- Each energised brake output of m that is about to be applied counts one application (BK_OPSn, Table 21.4). -/
def countBrakes (m : BitVec 4) (s : State) : Vector Nat 4 :=
  s.life.bk.mapFinIdx fun i x _ => if (m &&& s.saf.bkH &&& s.saf.bkL).getLsbD i then x + 1 else x

/-- Whether an output under test is commanded on: a safe output, or a switch of a brake pair. -/
def outOn (s : State) : OutTest → Bool
  | .so k => s.saf.so.getLsbD k
  | .bk k low => if low then s.saf.bkL.getLsbD k else s.saf.bkH.getLsbD k

/-- An off-pulse whose output is now commanded off, or an on-pulse whose output is now commanded on, ends at once with no result
(R320). -/
def pulsesDrop (s : State) : State :=
  { s with saf := { s.saf with offPulse := s.saf.offPulse.filter fun o => outOn s o, onPulse := s.saf.onPulse.filter fun o => !outOn s o } }

/-- De-energise brakes: both switches of each pair off; the brakes apply (R32, Table 11.2). -/
def applyBrakes (m : BitVec 4) (s : State) : State :=
  pulsesDrop { s with
    saf := { s.saf with bkH := clear4 s.saf.bkH m, bkL := clear4 s.saf.bkL m }
    life := { s.life with bk := countBrakes m s } }

/-- Energise brakes: both switches of each pair on. -/
def releaseBrakes (m : BitVec 4) (s : State) : State :=
  pulsesDrop { s with saf := { s.saf with bkH := s.saf.bkH ||| m, bkL := s.saf.bkL ||| m } }

/-- Put an axis in STO: its carriers stop, its brakes apply, its drive channels go HELD (R289, R292). -/
def axisToSto (n : Fin 4) (s : State) : State :=
  let c := (axisCfg s n).getD {}
  let s := applyBrakes c.brakes (stopCarriers c.bridges s)
  let s := s.modAxis n fun a =>
    { a with st := if a.st = .unused then .unused else .sto, nonsafe := false, relBridges := 0, relStep := 0 }
  s.mapSlots (Slot.stoHold n)

/-! ### Causes, history and LOCKOUT -/

/-- Operating hours from the lifetime counters: OP_MIN / 60 (Table 21.4). -/
def opHours (s : State) : Word := BitVec.ofNat 32 ((memWord s.mem 0x30006000).toNat / 60)

/-- A history entry of the present instant (Table 11.4). -/
def histEntry (code : Code) (kind : Nat) (unit : BitVec 8) (detail : Word) (s : State) : HistEntry :=
  { rtcS := rtcS s, rtcMs := rtcMs s, code := code, kind := kind
    mode := BitVec.ofNat 8 (s.sys.mode.code + 16 * s.sys.mode.sub)
    unit := unit, safetyId := s.img.safetyId, hours := opHours s, detail := detail }

/-- Queue a history entry; hardware writes it within 10 ms (R327, HISTORY_WRITE). -/
def histPush (code : Code) (kind : Nat) (unit : BitVec 8) (detail : Word) (s : State) : State :=
  { s with saf := { s.saf with hist := s.saf.hist ++ [histEntry code kind unit detail s] } }

/-- A capture unit armed on TRIG 3 triggers at the last sample before a lockout-class fault, where that sample is recorded (R238, R244): the
record still being read, else the last one written. -/
def CapUnit.lockTrig (u : CapUnit) : CapUnit :=
  if u.st = 1 ∧ u.trig = 3 ∧ u.kept then
    match u.rec_ with
    | some r => { u with rec_ := some { r with fault := true } }
    | none =>
      let rl := u.taps.length + (if u.stamp then 1 else 0)
      let total := u.len / rl
      let post := total - u.pre - 1
      { u with st := if post = 0 then 3 else 2, fin := if post = 0 then 1 else 0
               trigWord := u.buf + (u.written - 1) % total * rl, post := post }
  else u

/-- Record a cause once: NCAUSE, FIRST, LAST and a history entry of kind 1 (R68, Table 11.8); capture units on TRIG 3 trigger (R238). -/
def recordCause (code : Code) (unit : BitVec 8) (detail : Word) (s : State) : State :=
  if s.saf.causes.any fun c => decide (c.code = code) && decide (c.unit = unit) then s
  else
    let s := histPush code 1 unit detail s
    { s with
      saf := { s.saf with
        causes := s.saf.causes ++ [{ code := code, unit := unit, detail := detail }]
        lkFirst := if s.saf.causes.isEmpty then code else s.saf.lkFirst
        lkLast := code }
      cap := s.cap.map CapUnit.lockTrig }

/-- Faults of the safety monitor itself (R324). -/
def smFault (c : Code) : Bool := decide (c = cSmRamEcc) || decide (c = cSmLockstep) || decide (c = cLockstepRepeat)

/-- Every axis in use goes STO with the drive outputs off; safe outputs off (Table 11.2). After a fault of the safety
monitor itself the carriers stop with it and the brake drivers fall off by their watchdog, not by command (R324). -/
def lockoutOutputs (own : Bool) (s : State) : State :=
  let s := if own then s else applyBrakes 0xF s
  let saf := s.saf
  { s with saf := { saf with
      ka := 0
      so := 0
      alive := if own then false else saf.alive
      halted := own || saf.halted
      offPulse := none
      onPulse := none
      ax := saf.ax.map fun a =>
        { a with st := if a.st = .unused then .unused else .sto, nonsafe := false, relBridges := 0, relStep := 0 } } }

/-- AON_SRC, REFO and TRIM in force: those of CLK_CFG from step 15 on; without a verified image AON_SRC counts as 0 and no reference is driven
(R479). -/
def clkNow (s : State) : ClkCfg := if s.boot.loaded then s.clk.cfg else {}

/-- The tables lock as the device leaves BOOT; without a verified image they lock at their defaults (R121). -/
def tablesLock (s : State) : State :=
  if s.boot.loaded then { s with sec := { s.sec with lock := true } }
  else { s with sec := { s.sec with lock := true, bwt := 0x03803E20, rgn := .replicate 32 {} } }

/-- A WATCH entry under way ends unfinished: the request ends REFUSED_MODE, a session that waits for it is answered (R460), and a deck that
sleeps is woken (log entry 62). -/
def watchAbandon (s : State) : State :=
  match s.aon.step with
  | .deck | .tokens | .closing =>
    hspModeDone { s with
      aon := { s.aon with step := .none }
      trst := { s.trst with sleepSent := false, wakeSent := s.trst.sleep }
      hl := { s.hl with leaving := false }
      sys := { s.sys with resPend := false, resResult := rMode, resReason := 1, resIndex := 0xFF } }
  | _ => s

/-- Enter LOCKOUT.FAULT from a mode outside LOCKOUT (R48, R54, R323). -/
def lockoutEnter (entry : Nat) (own : Bool) (s0 : State) : State :=
  let s := watchAbandon s0
  let s1 := if s.sys.mode.isBoot then tablesLock s else s
  let s2 := lockoutOutputs own s1
  let s3 := lockHolds s2
  fieldsRefresh { s3 with
    sys := { s3.sys with mode := .lockoutFault, entry := entry, lkFrom := s.sys.mode, lkBack := false }
    boot := { s3.boot with phase := .idle } }

/-- Raise a fault code (R48, R49, R68, R69, R631). A lockout-class code is recorded as a cause and enters LOCKOUT.FAULT,
except in LOCKOUT, where it is a further cause, and in WATCH, where the entry follows at the ready point (R69). 0x0210 is
logged only. Other classes change nothing here: their own registers show them. -/
def raise (code : Code) (unit : BitVec 8) (detail : Word) (s : State) : State :=
  if lockoutClass code then
    let s' := recordCause code unit detail s
    match s.sys.mode with
    | .lockoutFault | .lockoutMaint => if smFault code then lockoutOutputs true s' else s'
    | .watch => s'
    | _ => lockoutEnter enFault (smFault code) s'
  else if code = cWorldViolation then histPush code 4 unit detail s
  else s

/-- Raise several codes of one cycle in ascending class, then ascending code (R331). -/
def raiseAll (l : List Cause) (s : State) : State :=
  (sortBy (fun a b => decide (a.code.toNat ≤ b.code.toNat)) l).foldl (fun s c => raise c.code c.unit c.detail s) s

/-! ### WATCH -/

/-- Ports with an absolute encoder, whose position is compared afresh with the ABS held (R540). -/
def absPorts (s : State) : List (Fin 4) := (fins 4).filter fun (p : Fin 4) => s.img.enc[p].abs


/-- A wake source is detected in WATCH (R558, Table 20.3): the wake table runs from here; until it has been started, a source with a lower
CAUSE replaces the one recorded (log entry 60). -/
def wakeDetect (cause index : Nat) (s : State) : State :=
  if s.sys.mode ≠ .watch then s
  else match s.aon.step with
    | .window | .asleep => { s with aon := { s.aon with step := .waking, cause := cause, index := index } }
    | .waking => if cause < s.aon.cause then { s with aon := { s.aon with cause := cause, index := index } } else s
    | _ => s

/-- The WATCH entry goes on from the deck to the return of tokens, once the sleep command is in force or there is no adopted deck (R551,
R381). -/
def watchTokens (s : State) : State :=
  if s.aon.step = .deck ∧ (s.trst.sleep ∨ !s.trst.adopted) then
    { s with aon := { s.aon with step := .tokens }, hl := { s.hl with leaving := s.hl.on } }
  else s

/-- The strictest need among the causes: 0 reset, 1 power cycle, 2 new image (Tables 11.3, 11.8). -/
def causeNeeds (s : State) : Nat :=
  if s.saf.causes.any fun c => codeClass c.code == 4 then 2
  else if s.saf.causes.any fun c => codeClass c.code == 3 then 1 else 0

end Sys2Proof.Machine
end

