-- ==== Sys2Proof/Machine/Operands.lean ====
section
/-! DEFINITION. Machine/Operands.lean: what an address names and whether an access is allowed: the memory map, the power
domains, the fixed ranges, the region table and the LMEM record rules (04_worlds.md Procedure 4.1, Tables 4.2-4.5;
07_fabric_and_bench.md Table 7.2, R646; 24_register_reference.md Table 24.1; R162, R164, R649), and the record of violations (R114, R123,
R135). -/
namespace Sys2Proof.Machine
open Sys2Proof

/-- What an address decodes to (Table 24.1). -/
inductive Target where
  | rom | sram | lmem | capram
  /-- The Chest window, with the offset. -/
  | chest (ofs : Nat)
  /-- A peripheral block and the offset in it. -/
  | periph (blk : Nat) (ofs : Nat)
  | nothing
deriving DecidableEq, Repr, Inhabited

/-- The address map (Table 24.1); the Chest range 0x2800-0x2FFF is not decoded (R120). -/
def target (a : Nat) : Target :=
  if a < 0x10000 then .rom
  else if 0x10000000 ≤ a ∧ a < 0x10100000 then .sram
  else if 0x20000000 ≤ a ∧ a < 0x20040000 then .lmem
  else if 0x20100000 ≤ a ∧ a < 0x20140000 then .capram
  else if 0x30000000 ≤ a ∧ a < 0x30040000 then
    (if 0x30002800 ≤ a ∧ a < 0x30003000 then .nothing else .chest (a - 0x30000000))
  else if 0x40000000 ≤ a ∧ a < 0x401A0000 then .periph ((a - 0x40000000) / 0x10000) (a % 0x10000)
  else .nothing

/-- Power domain of a block: 0 always-on, 1 core, 2 Loop Engine, 3 network (Table 7.9). -/
def blockDomain (blk : Nat) : Fin 4 :=
  if blk = 20 ∨ blk = 1 ∨ blk = 22 then 0
  else if blk = 6 ∨ blk = 23 then 2
  else if blk = 15 ∨ blk = 16 ∨ blk = 17 ∨ blk = 18 ∨ blk = 19 then 3
  else 1

/-- Power domain of a target (Table 7.9); the Chest array is supplied with the always-on domain and reached through the core
domain. -/
def targetDomain : Target → Fin 4
  | .lmem => 2
  | .periph b _ => blockDomain b
  | _ => 1

/-- Power domain of an initiator (Table 7.9). -/
def initDomain (i : BitVec 4) : Fin 4 :=
  if i = 5 then 0 else if i = 3 ∨ i = 7 then 2 else if i = 4 then 3 else 1

/-- A domain takes no new requests: it is powering down or off (R201, R646). -/
def domDown (s : State) (d : Fin 4) : Bool := decide (s.fab.dom[d] ≠ .on)

/-! ### Regions (R116-R118) -/

/-- A region entry is enabled and contains an address. -/
def rgnHas (r : Region) (a : Nat) : Bool :=
  getb r.attr 15 && decide (r.base.toNat ≤ a) && decide (a < r.base.toNat + 2 ^ getf r.attr 0 5)

/-- The governing entry: the enabled one with the lowest index that contains the address (R117). -/
def rgnFind (s : State) (a : Nat) : Option Region := s.sec.rgn.toList.find? fun r => rgnHas r a

/-- The world of an address under the region table; S where no entry contains it (R117). -/
def rgnWorld (s : State) (a : Nat) : World :=
  match rgnFind s a with
  | some r => if getb r.attr 8 then .NS else .S
  | none => .S

/-- Whether the right for an access exists (R117, R118, R112). -/
def rgnRight (s : State) (w : World) (k : Access) (a : Nat) : Bool :=
  match rgnFind s a with
  | none => decide (k ≠ .fetch)
  | some r =>
    if w = .S ∧ getb r.attr 8 then decide (k ≠ .fetch)
    else match k with
      | .read => getb r.attr 9
      | .write => getb r.attr 10
      | .fetch => getb r.attr 11

/-! ### LMEM (R162, R164, R119) -/

/-- The record and the offset in it of an LMEM address; none in the private upper 16 KiB of a bank (R162). -/
def lmemRec (a : Nat) : Option (Nat × Nat) :=
  let o := a % 0x10000
  if o ≥ 0xC000 then none else some ((a - 0x20000000) / 0x10000 + 4 * (o / 0x60), o % 0x60)

/-- The address of record n (R162). -/
def recAddr (n : Nat) : Nat := 0x20000000 + n % 4 * 0x10000 + n / 4 * 0x60

/-- Owner of a record. -/
def recOwner (s : State) (n : Nat) : Option RecOwner := kvGet n s.le.owners

/-- A core may write there: the inactive bank's words, and state word 7 (R164). -/
def lmemWritable (s : State) (a : Nat) : Bool :=
  match lmemRec a with
  | none => false
  | some (n, o) => match recOwner s n with
    | none => false
    | some w =>
      let b := s.chn.slots[w.slot].bankB
      decide (0x5C ≤ o) || (b && decide (o < 0x20)) || (!b && decide (0x20 ≤ o) && decide (o < 0x40))

/-- The world of an LMEM address: of the record's channel, S where no record is allocated (R119). -/
def lmemWorld (s : State) (a : Nat) : World :=
  match lmemRec a with
  | none => .S
  | some (n, _) => match recOwner s n with
    | none => .S
    | some w => s.chn.slots[w.slot].world

/-! ### Fixed Chest ranges (Table 4.3) -/

/-- The Chest application space, under the region table. -/
def chestApp (ofs : Nat) : Bool := decide (0x8000 ≤ ofs)

/-- Whether a read of a fixed Chest range is answered (Table 4.3, R127). -/
def chestRead (w : World) (ofs : Nat) : Bool :=
  if 0x1000 ≤ ofs ∧ ofs < 0x2000 then decide (w = .S) && decide (ofs < 0x1100)
  else if 0x4000 ≤ ofs ∧ ofs < 0x6000 then decide (w = .S)
  else true

/-- The outcome of a check: performed, or the response with CAUSE of SEC_VIOL_INFO. -/
inductive Check where
  | ok
  | no (r : Resp) (cause : Nat)
deriving DecidableEq, Repr, Inhabited

/-- Aligned access of 1, 2 or 4 bytes. -/
def aligned (a size : Nat) : Bool := (size == 1) || (size == 2 && a % 2 == 0) || (size == 4 && a % 4 == 0)

/-- Decode faults of an access to a memory (Table 7.2, Table 4.3, R162, R164, R626). -/
def memDecodeFault (s : State) (k : Access) (a size : Nat) : Bool :=
  match target a with
  | .nothing => true
  | .rom => decide (k = .write) || !aligned a size
  | .lmem => (lmemRec a).isNone || !aligned a size || (decide (k = .write) && !lmemWritable s a)
  | .chest o => !aligned a size || (decide (k = .write) && !chestApp o)
  | _ => !aligned a size

/-- CAUSE of an access that lacks its right: 1, or 0 for a fetch from a region that grants its world nothing at all (Table 4.4, R649). -/
def rgnCause (s : State) (w : World) (k : Access) (a : Nat) : Nat :=
  if k = .fetch ∧ !rgnRight s w .read a ∧ !rgnRight s w .write a then 0 else 1

/-- World and rights of an access to a memory (Procedure 4.1, R119, R649); the CAUSE of a secure data read of key-store entries 4-63 is the model's
choice (R127, log entry 104). -/
def memWorldCheck (s : State) (w : World) (k : Access) (a : Nat) : Check :=
  match target a with
  | .rom => if w = .NS then .no .faultWorld 0 else .ok
  | .lmem =>
    if k = .fetch then .no .faultWorld (if w = .NS ∧ lmemWorld s a = .S then 0 else 1)
    else if w = .NS ∧ lmemWorld s a = .S then .no .faultWorld 0 else .ok
  | .chest o =>
    if chestApp o then
      (if w = .NS ∧ rgnWorld s a = .S then .no .faultWorld 0 else if rgnRight s w k a then .ok else .no .faultWorld (rgnCause s w k a))
    else if k = .fetch then .no .faultWorld (if chestRead w o then 1 else 0)
    else if chestRead w o then .ok else .no .faultWorld (if w = .S then 1 else 0)
  | _ => if w = .NS ∧ rgnWorld s a = .S then .no .faultWorld 0 else if rgnRight s w k a then .ok else .no .faultWorld (rgnCause s w k a)

/-- The whole check of a memory access in the order of Table 7.2: decode, power, world. -/
def memCheck (s : State) (w : World) (init : BitVec 4) (k : Access) (a size : Nat) : Check :=
  if memDecodeFault s k a size then .no .faultDecode 0
  else if domDown s (targetDomain (target a)) || domDown s (initDomain init) then .no .faultPd 0
  else memWorldCheck s w k a

/-- The memories with SECDED ECC (R198). -/
def hasEcc : Target → Bool
  | .sram | .lmem | .capram | .chest _ => true
  | _ => false

/-- Whole words that have been written are good (R198). -/
def eccGood (l : List Nat) (s : State) : State :=
  { s with fab := { s.fab with soft := s.fab.soft.filter fun x => !l.contains x, hard := s.fab.hard.filter fun x => !l.contains x } }

/-- A word of an ECC memory is read (R198): true where its error is uncorrectable, which is counted; a single-bit error is corrected, written
back and counted. -/
def eccRead (wa : Nat) (s : State) : Bool × State :=
  if s.fab.hard.contains wa then (true, { s with fab := { s.fab with uncorr := incSat 65535 s.fab.uncorr } })
  else if s.fab.soft.contains wa then
    (false, { s with fab := { s.fab with soft := s.fab.soft.filter (· ≠ wa), corr := incSat 65535 s.fab.corr } })
  else (false, s)

/-- The words of n bytes from an address have been written whole: they are good (R198). -/
def eccRange (a n : Nat) (s : State) : State :=
  let keep (x : Nat) : Bool := decide (x < a) || decide (a + n ≤ x)
  { s with fab := { s.fab with soft := s.fab.soft.filter keep, hard := s.fab.hard.filter keep } }

/-- Whole words are written to an ECC memory. -/
def memPut (a : Nat) (bs : List Byte) (s : State) : State := eccRange a bs.length { s with mem := memSetBytes s.mem a bs }

/-- A unit that has no response to take reads a word of an ECC memory: what it reads of an uncorrectable word is open, a free value (R198, log
entry 4). -/
def eccFetch (wa : Nat) (s : State) : State :=
  let r := eccRead wa s
  if r.1 then
    let (x, s) := takeFree r.2
    { s with mem := memSetWord s.mem wa x }
  else r.2

/-- Read n words from an address up. -/
def eccFetches (a n : Nat) (s : State) : State := (List.range n).foldl (fun s k => eccFetch (a + 4 * k) s) s

/-- A memory word is readable by a world, where the Channel Manager reads bindings (R145); bindings lie in no register and not in the
boot ROM, whose contents the spec does not give (log entry 70). -/
def memReadable (s : State) (w : World) (a : Nat) : Bool :=
  decide (memCheck s w 0 .read a 4 = .ok) && (match target a with | .rom => false | .periph _ _ => false | _ => true)

/-- A memory word is writable by a world under the region table (R118, R119). -/
def rgnWritable (s : State) (w : World) (a : Nat) : Bool :=
  !(decide (w = .NS) && decide (rgnWorld s a = .S)) && rgnRight s w .write a

/-- The block world table admits writes of a world to a block (R36, R111). -/
def blockWritable (s : State) (w : World) (blk : Nat) : Bool := decide (w = .S) || s.sec.bwt.getLsbD blk

/-! ### World violations -/

/-- SEC_VIOL_INFO.KIND. -/
def accessKind : Access → Nat
  | .read => 0 | .write => 1 | .fetch => 2

/-- The blocks PMU, CLK, DK, SAF and SAVE (R114). -/
def lockoutBlock (a : Nat) : Bool :=
  match target a with
  | .periph b _ => b == 1 || b == 2 || b == 7 || b == 8 || b == 22
  | _ => false

/-- Count and record a FAULT_WORLD (R123); a refused write to a lockout-relevant block also raises and logs 0x0210 (R114). -/
def violation (init : BitVec 4) (k : Access) (cause : Nat) (a : Nat) (s : State) : State :=
  let lk := decide (k = .write) && lockoutBlock a
  let s := { s with sec := { s.sec with
    violCount := incSat 65535 s.sec.violCount
    violSafety := if lk then incSat 65535 s.sec.violSafety else s.sec.violSafety
    violInit := init, violKind := accessKind k, violCause := if lk then 2 else cause, violValid := true, violAddr := BitVec.ofNat 32 a } }
  if lk then raise cWorldViolation 0xFF (BitVec.ofNat 32 a) s else s

end Sys2Proof.Machine
end

