-- ==== Sys2Proof/Machine/Switching.lean ====
section
/-! DEFINITION. Machine/Switching.lean: the deck island's own current control, release, protection and chopper
(09_deck_power_stage.md, R251-R282), and the running STO inhibit tests (R321, R333). -/
namespace Sys2Proof.Machine
open Sys2Proof

/-- Change one bridge of the deck. -/
def State.modBr (s : State) (b : Fin 4) (f : DkBridge → DkBridge) : State :=
  { s with dk := { s.dk with br := vmod s.dk.br b f } }

/-- HI switch of a leg: UH, VH, WH. -/
def hiSw (p : Fin 3) : Fin 6 := ⟨2 * p.val, by omega⟩
/-- LO switch of a leg: UL, VL, WL. -/
def loSw (p : Fin 3) : Fin 6 := ⟨2 * p.val + 1, by omega⟩
/-- The leg of a switch. -/
def swLeg (k : Fin 6) : Fin 3 := ⟨k.val / 2, by omega⟩
/-- The complementary switch of a leg. -/
def swOther (k : Fin 6) : Fin 6 := if k.val % 2 = 0 then ⟨k.val / 2 * 2 + 1, by omega⟩ else ⟨k.val / 2 * 2, by omega⟩

/-- The active legs: U, V and W, or U and V under NO_W (R256). -/
def DkBridge.active (b : DkBridge) : List (Fin 3) := if b.noW then [0, 1] else [0, 1, 2]

/-- The gate commands as bits k of DK_FLTLVL. -/
def DkBridge.gates (b : DkBridge) : BitVec 6 := BitVec.ofNat 6 (packBits (b.sw.toList.map GateSwitch.on))

/-- DK_BnSNAP.DEMAND: bits 2p and 2p+1, rise and fall demanded by phase p (Table 9.6). -/
def DkBridge.demands (b : DkBridge) : BitVec 6 :=
  BitVec.ofNat 6 (packBits (b.dem.toList.flatMap fun d => [decide (d = .rise), decide (d = .fall)]))

/-- Turn all six gate commands off together; no change stays pending (R264, R266, R276, R279). -/
def DkBridge.gatesOff (b : DkBridge) : DkBridge :=
  { b with
    sw := b.sw.map fun x => { x with on := false, tmin := x.tmin || x.on }
    pend := .replicate 3 none, deadDone := .replicate 3 false, defer := .replicate 3 none, want := .replicate 3 false
    vecSel := .replicate 3 false }

/-- Gates off, STOEn low, no longer released; the regulation window is discarded (R262, R264, R266). -/
def DkBridge.stop (b : DkBridge) : DkBridge :=
  { b.gatesOff with stoe := false, released := false, winOn := false, winN := 0 }

/-- The chopper switch takes a state; its gate command is switch 5 of B3, and a turn-on starts the blanking window of that switch
(R265, R270). -/
def Deck.chopSet (on : Bool) (d : Deck) : Deck :=
  { d with
    chop := on
    br := vmod d.br 3 fun b => { b with sw := b.sw.set 5 { b.sw[5] with on := on, blank := b.sw[5].blank || on } } }

/-- The chopper goes off at once, whatever TMIN (R260, R270). -/
def Deck.chopStop (d : Deck) : Deck :=
  if d.cfg.b3store then { d.chopSet false with chopDefer := none } else { d with chop := false, chopDefer := none }

/-- HBD toggles while the logic island's core domain is on and out of reset (R26, Table 1.2). -/
def hbdToggles (s : State) : Bool := decide (s.fab.dom[1] = .on) && s.pmu.released

/-- The deck sees HBD toggle again: the carriers that the safety monitor drives are present to it from then on (R26). -/
def hbdBack (s : State) : State :=
  if hbdToggles s && s.dk.powered && !s.dk.hbd then
    { s with dk := { s.dk with hbd := true, br := s.dk.br.mapFinIdx fun i b _ => { b with ka := s.saf.ka.getLsbD i } } }
  else s

/-- The conditions of R263 for releasing a bridge, with the outputs driven as R593 asks. -/
def relCond (s : State) (b : Fin 4) : Bool :=
  let x := s.dk.br[b]
  x.ka && s.dk.hbd && !x.fault && s.dk.acked && s.dk.powered && !s.dk.asleep && s.dk.clk

/-- A bank word of the band in codes: rne(H / 2^20) (Table 9.3). -/
def bandCode (w : Word) : Nat := (rne (sInt w) 1048576).toNat

/-- Ask a leg for HI or LO on with nothing conducting: its turn-on waits for tDEAD (R256, R259). -/
def DkBridge.pendLo (b : DkBridge) : DkBridge :=
  b.active.foldl (fun (b : DkBridge) (p : Fin 3) => { b with pend := b.pend.set p (some false), deadDone := b.deadDone.set p false, want := b.want.set p false }) b

/-- Regulation runs while RUN is 1, the bridge is released and F_TARGET is not 0; `fresh` says that h was set anew, which
starts a new window (R262, R278). -/
def DkBridge.window (fresh : Bool) (b : DkBridge) : DkBridge :=
  let on := b.run && b.released && decide (b.fTarget ≠ 0)
  { b with winOn := on, winN := if on && b.winOn && !fresh then b.winN else 0 }

/-- The upper band edge of a phase, clamped to 0-4 095 (R254). -/
def DkBridge.upper (b : DkBridge) (p : Fin 3) : Int := clampI 0 4095 (b.refs[p].toNat + b.h)
/-- The lower band edge of a phase (R254). -/
def DkBridge.lower (b : DkBridge) (p : Fin 3) : Int := clampI 0 4095 ((b.refs[p].toNat : Int) - b.h)

/-- What a phase current demands (R255): above the upper edge a fall, below the lower edge a rise. -/
def DkBridge.judge (b : DkBridge) (p : Fin 3) (code : Int) : Demand :=
  if code > b.upper p then .fall else if code < b.lower p then .rise else .none

/-- Change one leg to HI or LO (R257-R260): the conducting switch goes off first, and the complementary one waits for
tDEAD; a switch that has not held its state for TMIN defers the change. -/
def DkBridge.legTo (p : Fin 3) (hi : Bool) (b : DkBridge) : DkBridge :=
  let k := if hi then loSw p else hiSw p
  if b.want[p] = hi then { b with defer := b.defer.set p none }
  else if b.sw[k].tmin || b.pend[p].isSome then { b with defer := b.defer.set p (some hi) }
  else
    { b with
      sw := b.sw.set k { b.sw[k] with on := false, tmin := true }
      want := b.want.set p hi, pend := b.pend.set p (some hi), deadDone := b.deadDone.set p false, defer := b.defer.set p none }

/-- The switching states V0-V7 as legs U, V, W (R258). -/
def vState : Nat → List Bool
  | 1 => [true, false, false] | 2 => [true, true, false] | 3 => [false, true, false] | 4 => [false, true, true]
  | 5 => [false, false, true] | 6 => [true, false, true] | 7 => [true, true, true] | _ => [false, false, false]

/-- In how many legs two states differ. -/
def stateDist (a b : List Bool) : Nat := countTrue (List.zipWith (fun x y => x != y) a b)

/-- Vector selection (Table 9.4): pattern p, sector n, the present state and ZERO_PREF. -/
def vecSelect (p : List Bool) (n : Nat) (present : List Bool) (zeroPref : Nat) : List Bool :=
  let va := vState (n + 1)
  let vb := vState (if n + 2 = 7 then 1 else n + 2)
  if p = va ∨ p = vb then p
  else if p = vState 0 ∨ p = vState 7 then
    if zeroPref = 1 then vState 0 else if zeroPref = 2 then vState 7
    else if countTrue present ≤ 1 then vState 0 else vState 7
  else
    let da := stateDist va p
    let db := stateDist vb p
    if da < db then va else if db < da then vb
    else if stateDist vb present < stateDist va present then vb else va

/-- The legs follow their demands (R257) or the selected vector (R258). -/
def DkBridge.follow (p : Fin 3) (d : Demand) (b : DkBridge) : DkBridge :=
  let b := { b with dem := b.dem.set p d }
  if b.vsel then
    let sign := match d with | .rise => true | .fall => false | .none => b.signs[p]
    if sign = b.signs[p] then b
    else
      let b := { b with signs := b.signs.set p sign }
      let v := vecSelect b.signs.toList b.sector.toNat b.want.toList b.zeroPref.toNat
      let b := { b with vecSel := #v[v.getD 0 false, v.getD 1 false, v.getD 2 false] }
      b.active.foldl (fun (b : DkBridge) (q : Fin 3) => b.legTo q b.vecSel[q]) b
  else match d with
    | .rise => b.legTo p true
    | .fall => b.legTo p false
    | .none => b

/-- The active legs follow the demands that stand when LO is asked on at RUN rise or at the release (R256-R258). -/
def DkBridge.followAll (b : DkBridge) : DkBridge := b.active.foldl (fun (b : DkBridge) (p : Fin 3) => b.follow p b.dem[p]) b

/-- The deck applies a HYSC update (R254, R256, R277, R279). With regulation off the band is H (Table 9.3). -/
def DkBridge.hysc (u : HyscUpdate) (b : DkBridge) : DkBridge :=
  let rise := u.run && !b.run
  let fallen := !u.run && b.run
  let changed := decide (b.hWord ≠ some u.h)
  let h :=
    if rise then bandCode u.h
    else if changed || decide (u.fTarget = 0) then min (max (bandCode u.h) (bandCode u.hMin)) (bandCode u.hMax)
    else b.h
  let b1 := { b with
    run := u.run, vsel := u.vsel, noW := u.noW, refs := #v[u.refU, u.refV, u.refW]
    sector := if u.sector.toNat < 6 then u.sector else b.sector
    hWord := some u.h, hMin := u.hMin, hMax := u.hMax, fTarget := u.fTarget, zeroPref := u.zeroPref, h := h }
  let b2 := if fallen then b1.gatesOff else b1
  let b3 := if rise && b.released then { b2 with signs := .replicate 3 false }.pendLo.followAll else b2
  b3.window (rise || changed)

/-- COMPARATOR_CROSSING: the phase current, in DAC codes, meets a band edge (R255-R261). Nothing is decided while CLK_DK is
stopped, RUN is 0, or the bridge is not released (R256, R486). -/
def comparatorCrossing (b : Fin 4) (p : Fin 3) (code : Int) (s : State) : State :=
  let x := s.dk.br[b]
  if s.dk.clk && x.run && x.released && x.active.contains p then s.modBr b fun x => x.follow p (x.judge p code)
  else s.modBr b fun x => { x with dem := x.dem.set p (x.judge p code) }

/-- A switch turns on: its blanking window and its TMIN start (R260, R265); an HI turn-on is counted (R262). -/
def DkBridge.turnOn (k : Fin 6) (b : DkBridge) : DkBridge :=
  { b with
    sw := b.sw.set k { on := true, tmin := true, blank := true }
    pend := b.pend.set (swLeg k) none, deadDone := b.deadDone.set (swLeg k) false
    winN := if b.winOn && k.val % 2 == 0 then b.winN + 1 else b.winN }

/-- The turn-on that a leg waits for, carried out when tDEAD and TMIN allow; an HI turn-on counts in SW_Bn (R259, R260,
Table 21.4). -/
def legTurnOn (b : Fin 4) (p : Fin 3) (s : State) : State :=
  let x := s.dk.br[b]
  match x.pend[p] with
  | none => s
  | some hi =>
    let k := if hi then hiSw p else loSw p
    if x.sw[k].tmin then s.modBr b fun x => { x with deadDone := x.deadDone.set p true }
    else
      let s := s.modBr b (DkBridge.turnOn k)
      if hi then { s with life := { s.life with sw := vmod s.life.sw b (· + 1) } } else s

/-- DEAD_TIME_ELAPSED: tDEAD has elapsed on a leg (R259). -/
def deadTimeElapsed (b : Fin 4) (p : Fin 3) (s : State) : State := if s.dk.clk then legTurnOn b p s else s

/-- Whether R257 or R258 still demands a deferred change. -/
def DkBridge.stillDemands (p : Fin 3) (hi : Bool) (b : DkBridge) : Bool :=
  if b.vsel then b.vecSel[p] == hi else decide (b.dem[p] = if hi then .rise else .fall)

/-- TMIN_ELAPSED: a switch has held its state for TMIN; a deferred change is carried out if still demanded, else dropped,
and a turn-on whose tDEAD is over takes place (R260). B3WL is the chopper switch in store mode (R270). -/
def tminElapsed (b : Fin 4) (k : Fin 6) (s : State) : State :=
  if s.dk.cfg.b3store && decide (b = 3) && decide (k = 5) then
    match s.dk.chopDefer with
    | some on => { s with dk := { s.dk.chopSet (on && s.dk.br[3].released) with chopTmin := true, chopDefer := none } }
    | none => { s with dk := { s.dk with chopTmin := false } }
  else
    let p := swLeg k
    let s := s.modBr b fun x => { x with sw := x.sw.set k { x.sw[k] with tmin := false } }
    let x := s.dk.br[b]
    let s := if x.deadDone[p] then legTurnOn b p s else s
    let x := s.dk.br[b]
    match x.defer[p] with
    | none => s
    | some hi =>
      if x.stillDemands p hi then s.modBr b (DkBridge.legTo p hi)
      else s.modBr b fun x => { x with defer := x.defer.set p none }

/-- Procedure 9.1 on a bridge: h from the count N of the window. -/
def regulate (h n l fTarget hMin hMax : Nat) : Nat :=
  let d : Int := 1000 * (n : Int) - l * fTarget
  let step := max 1 (rne (h : Int) 64).toNat
  let h1 : Nat := if 64 * d > l * fTarget then h + step else if 64 * d < -((l * fTarget : Nat) : Int) then h - step else h
  min (max h1 hMin) hMax

/-- BAND_WINDOW_END: a 1 ms window ends; Procedure 9.1 adjusts h and the next window starts (R262). -/
def bandWindowEnd (b : Fin 4) (s : State) : State :=
  if s.dk.clk && s.dk.br[b].winOn then
    s.modBr b fun x =>
      { x with h := regulate x.h x.winN x.active.length x.fTarget.toNat (bandCode x.hMin) (bandCode x.hMax)
               lastN := x.winN, winN := 0 }
  else s

/-! ### Trips and snapshots -/

/-- SRC of a snapshot: kind in [6:4], switch or phase in [2:0] (Table 9.6). -/
def snapSrc (kind k : Nat) : BitVec 8 := BitVec.ofNat 8 (16 * kind + k)

/-- Record a later event in an open snapshot: SECOND for the first different source within 10 microseconds (400 cycles of
CLK_DK), else one more LATER; two sources of one cycle stand in ascending SRC order (R268). -/
def snapLater (src : BitVec 8) (t : Word) (n : Snap) : Snap :=
  if !n.valid2 && decide (src ≠ n.src1) && decide ((t - n.t1).toNat ≤ 400) then
    if decide (t = n.t1) && decide (src < n.src1) then { n with src1 := src, valid2 := true, src2 := n.src1, t2 := t }
    else { n with valid2 := true, src2 := src, t2 := t }
  else { n with later := incSat 65535 n.later }

/-- Carrier loss (kind 6) and HBD loss (kind 7): never the first event of a snapshot (R268). -/
def DkBridge.noteLoss (kind : Nat) (t : Word) (b : DkBridge) : DkBridge :=
  if b.snap.valid1 then { b with snap := snapLater (snapSrc kind 0) t b.snap } else b

/-- A trip on a bridge (R266, R268): the first opens the snapshot, turns the bridge off and latches; later ones are
recorded only. -/
def DkBridge.trip (src : BitVec 8) (t : Word) (b : DkBridge) : DkBridge :=
  if b.fault then { b with snap := snapLater src t b.snap }
  else { b.stop with
    fault := true
    snap := { valid1 := true, src1 := src, t1 := t, gates := b.gates, demand := b.demands } }

/-- A trip, with its report up the Trestle to come (R267). The chopper stops with B3 (R270, R282). -/
def bridgeTrip (b : Fin 4) (src : BitVec 8) (t : Word) (s : State) : State :=
  let first := !s.dk.br[b].fault
  let s := s.modBr b (DkBridge.trip src t)
  let s := if first then { s with dk := { s.dk with trip := s.dk.trip.set b true } } else s
  if b = 3 then { s with dk := s.dk.chopStop } else s

/-- Fault lines that count as a desaturation: high, outside the blanking window of their own switch, on a bridge that is
released, or already latched by an earlier trip (R265, R266, R273, R281). -/
def desatLines (x : DkBridge) (levels : BitVec 6) (only : List (Fin 6)) : List (Fin 6) :=
  if x.released || x.fault then only.filter fun (k : Fin 6) => levels.getLsbD k && !x.sw[k].blank else []

/-- DESAT: the driver fault lines of a bridge change to these levels (R265, R266, R281). -/
def desat (b : Fin 4) (levels : BitVec 6) (t : Word) (s : State) : State :=
  let x := s.dk.br[b]
  let fresh := (fins 6).filter fun (k : Fin 6) => levels.getLsbD k && !x.flt.getLsbD k
  let s := s.modBr b fun x => { x with flt := levels }
  if s.dk.clk then (desatLines x levels fresh).foldl (fun (s : State) (k : Fin 6) => bridgeTrip b (snapSrc 1 k) t s) s else s

/-- BLANKING_END: the blanking window of a switch ends; a line still high is a fault (R265, R271, R272). -/
def blankingEnd (b : Fin 4) (k : Fin 6) (levels : BitVec 6) (t : Word) (s : State) : State :=
  let s := s.modBr b fun x => { x with flt := levels, sw := x.sw.set k { x.sw[k] with blank := false } }
  if s.dk.clk then (desatLines s.dk.br[b] levels [k]).foldl (fun (s : State) (k : Fin 6) => bridgeTrip b (snapSrc 1 k) t s) s else s

/-- OVERCURRENT: a phase current above 2 048 + OC or below 2 048 - OC trips; never blanked (Table 9.5). The thresholds come with the deck
record: a deck without one judges nothing (R248; log entry 7). -/
def overcurrent (b : Fin 4) (p : Fin 3) (code : BitVec 12) (t : Word) (s : State) : State :=
  let oc := s.dk.cfg.oc[b]
  if s.dk.clk && s.dk.powered && s.dk.acked && (decide (code.toNat > 2048 + oc) || decide (code.toNat + oc < 2048)) then
    bridgeTrip b (snapSrc 2 (2 * p.val)) t s
  else s

/-- A 12-bit DC threshold code in the DC-link signal scale: 4 096 codes over the range 0 to 2^31 (R250, Table 9.1). -/
def dcCode (c : Nat) : Nat := c * 524288

/-- The chopper on one DC-link output (R270): on at or above the on-threshold, off at or below the off-threshold, subject
to TMIN; off while B3 is not released. -/
def chopEval (v : Nat) (s : State) : State :=
  let d := s.dk
  if d.cfg.b3store && d.br[3].released then
    match d.chopPair with
    | none => s
    | some (on, off) =>
      let want := if (v : Int) ≥ sInt on then true else if (v : Int) ≤ sInt off then false else d.chop
      if want = d.chop then { s with dk := { d with chopDefer := none } }
      else if d.chopTmin then { s with dk := { d with chopDefer := some want } }
      else { s with dk := { d.chopSet want with chopTmin := true, chopDefer := none } }
  else { s with dk := d.chopStop }

/-- DC_LINK_SAMPLE: an output of the deck's OSR-64 decimator of a bridge: the chopper acts first, then the overvoltage and
undervoltage checks over two consecutive outputs (R251, R266, R270, R282; log entry 7). A condition that lasts trips again once the
latch of the bridge has cleared. -/
def dcLinkSample (b : Fin 4) (value : BitVec 31) (t : Word) (s : State) : State :=
  if s.dk.clk && s.dk.powered && s.dk.acked then
    let v := value.toNat
    let s := if b = 3 then chopEval v s else s
    let x := s.dk.br[b]
    let ov := if v > dcCode s.dk.cfg.dcOv[b] then satNat 3 (x.ovCnt + 1) else 0
    let uv := if s.dk.cfg.dcUv[b] ≠ 0 ∧ v < dcCode s.dk.cfg.dcUv[b] ∧ x.stoe then satNat 3 (x.uvCnt + 1) else 0
    let s := s.modBr b fun x => { x with ovCnt := ov, uvCnt := uv }
    let s := if ov = 2 ∨ (2 < ov ∧ !s.dk.br[b].fault) then bridgeTrip b (snapSrc 3 0) t s else s
    if uv = 2 ∨ (2 < uv ∧ !s.dk.br[b].fault) then bridgeTrip b (snapSrc 4 0) t s else s
  else s

/-- ln(n / d) in units of 2^-48, by the series of artanh with argument (n - d)/(n + d), after halving the ratio into
[1, 2). -/
def lnFix (n d : Nat) : Int :=
  let u : Int := 2 ^ 48
  let at_ (n d : Nat) : Int :=
    let z : Int := ((n : Int) - d) * u / ((n : Int) + d)
    let z2 : Int := z * z / u
    2 * ((List.range 24).foldl (fun (acc : Int × Int) (i : Nat) => (acc.1 + acc.2 / (2 * (i : Int) + 1), acc.2 * z2 / u)) (0, z)).1
  let e : Int := (Nat.log2 (n * 2 ^ 32 / d) : Int) - 32
  let n' : Nat := if e < 0 then n * 2 ^ (-e).toNat else n
  let d' : Nat := if e < 0 then d else d * 2 ^ e.toNat
  at_ n' d' + e * at_ 2 1

/-- The NTC temperature of R252 in 1/256 degree C: 1/T = 1/298.15 K + ln(R / R25) / B. R25 is in units of 10 ohm. The
rounding is not stated (log entry 5). -/
def ntcTemp (ohms r25 b : Nat) : Int :=
  let u : Int := 2 ^ 48
  -- 1/T in units of 2^-48 per (298.15 K): multiply by 29815 and B
  let inv : Int := (b : Int) * 100 * u + 29815 * lnFix ohms (10 * r25)
  if inv ≤ 0 then 1000000 else Config.roundFree (25600 * ((b : Int) * 29815 * u) - 6992640 * inv) (100 * inv.toNat)

/-- NTC_READ: one reading in a millisecond, the resistance in ohm (0 a short, reported SHORT); three consecutive bad readings
while released trip the bridge (R252, Table 9.5, R266; log entry 7). -/
def ntcRead (b : Fin 4) (ohms : Nat) (t : Word) (s : State) : State :=
  if s.dk.clk && s.dk.powered && s.dk.acked then
    let trip := s.dk.cfg.ntcTrip[b]
    let temp := if ohms = 0 then 1000000 else ntcTemp ohms s.dk.cfg.ntcR25 s.dk.cfg.ntcB
    let short := decide (temp > 38400)
    let open_ := decide (temp < -12800)
    let bad := decide (trip ≠ 0) && (short || open_ || decide (temp > 256 * trip))
    let x := s.dk.br[b]
    let cnt := if bad && x.released then satNat 4 (x.ntcCnt + 1) else 0
    let s := s.modBr b fun x => { x with
      ntcTemp := clampI (-12800) 38400 temp, ntcShort := short, ntcOpen := open_
      ntcWarn := decide (trip ≠ 0) && decide (temp > 256 * s.dk.cfg.ntcWarn[b]), ntcCnt := cnt }
    if cnt = 3 ∨ (3 < cnt ∧ !x.fault) then bridgeTrip b (snapSrc 5 0) t s else s
  else s

/-- The fault code of a trip kind (Table 9.5). -/
def tripCode (src : BitVec 8) : Code :=
  match src.toNat / 16 with
  | 1 => cDesat | 2 => cOvercurrent | 3 => cDcOvervolt | 4 => cDcUndervolt | _ => cHeatsink

/-- DK_BnSNAP.FIRST as a word. -/
def snapFirst (n : Snap) : Word := fld n.src1.toNat 0 8 ||| bit n.valid1 31
/-- DK_BnSNAP.SECOND as a word. -/
def snapSecond (n : Snap) : Word := fld n.src2.toNat 0 8 ||| bit n.valid2 31

/-- BRIDGE_TRIP_REPORT: the report reaches the logic island, which keeps its own copy of the fault and the snapshot and
raises the code of the trip that latched it (R267, R274). Without an adopted deck no report arrives (log entry 8). -/
def bridgeTripReport (b : Fin 4) (s : State) : State :=
  if s.dk.trip[b] && s.trst.adopted then
    let x := s.dk.br[b]
    let s := { s with
      dk := { s.dk with trip := s.dk.trip.set b false }
      trst := { s.trst with px := vmod s.trst.px b fun p => { p with bfault := true, snap := x.snap } } }
    raise (tripCode x.snap.src1) (BitVec.ofNat 8 b) (snapFirst x.snap) s
  else s

/-! ### Release -/

/-- STOE_RAISE: KAn has carried for 16 microseconds without a gap (R263), with HBD toggling again where it had been lost. -/
def stoeRaise (b : Fin 4) (s0 : State) : State :=
  let s := hbdBack s0
  if relCond s b && s.saf.ka.getLsbD b && !s.dk.br[b].testHold then s.modBr b fun x => { x with stoe := true } else s

/-- The bridge becomes released: with RUN 1, h takes H and every active leg turns LO on after tDEAD (R254, R256). -/
def DkBridge.release (b : DkBridge) : DkBridge :=
  let x := { b with released := true, h := if b.run then bandCode (b.hWord.getD 0) else b.h }
  (if x.run then { x with signs := .replicate 3 false }.pendLo.followAll else x).window true

/-- GATE_ENABLE: TSTOE after STOEn rose the gate commands are enabled (R263). A fault line that is high then, outside blanking, trips the
released bridge at once (Table 9.5, R265); `t` is the CLK_DK count. -/
def gateEnable (b : Fin 4) (t : Word) (s : State) : State :=
  if relCond s b && s.dk.br[b].stoe && !s.dk.br[b].released then
    let s := s.modBr b DkBridge.release
    (desatLines s.dk.br[b] s.dk.br[b].flt (fins 6)).foldl (fun (s : State) (k : Fin 6) => bridgeTrip b (snapSrc 1 k) t s) s
  else s

/-- Whether a running inhibit test may start on a switch: it is off, and either its complementary switch is on or it is held
off (R321). -/
def inhibitTestable (s : State) (b : Fin 4) (k : Fin 6) : Bool :=
  let x := s.dk.br[b]
  let store := s.dk.cfg.b3store && decide (b = 3)
  let held := (!x.run && !(store && decide (k = 5))) || (store && decide (k = 4)) || (store && decide (k = 5) && !s.dk.chop)
  x.released && !x.sw[k].on && (x.sw[swOther k].on || held)

/-- STO_INHIBIT_TEST: the inhibit stage of an off switch is forced and read back (R321). A trip in the same cycle governs
(R333): the bridge is then no longer released. -/
def stoInhibitTest (b : Fin 4) (k : Fin 6) (readOff : Bool) (s : State) : State :=
  if inhibitTestable s b k && !readOff then raise cStoPathTest (BitVec.ofNat 8 b) (fld k.val 0 8) s else s

/-- STO_PATH_TEST: a switch untested for 100 ms while its bridge is released (R321). -/
def stoPathTest (b : Fin 4) (k : Fin 6) (s : State) : State :=
  if s.dk.br[b].released then raise cStoPathTest (BitVec.ofNat 8 b) (fld k.val 0 8) s else s

/-! ### Meanings -/

def execComparatorCrossing (b : Fin 4) (p : Fin 3) (code : Int) (s : State) : Res := .next (comparatorCrossing b p code s)
def execDeadTimeElapsed (b : Fin 4) (p : Fin 3) (s : State) : Res := .next (deadTimeElapsed b p s)
def execTminElapsed (b : Fin 4) (k : Fin 6) (s : State) : Res := .next (tminElapsed b k s)
def execBandWindowEnd (b : Fin 4) (s : State) : Res := .next (bandWindowEnd b s)
def execNtcRead (b : Fin 4) (ohms : Nat) (t : Word) (s : State) : Res := .next (ntcRead b ohms t s)
def execBlankingEnd (b : Fin 4) (k : Fin 6) (l : BitVec 6) (t : Word) (s : State) : Res := .next (blankingEnd b k l t s)
def execDesat (b : Fin 4) (l : BitVec 6) (t : Word) (s : State) : Res := .next (desat b l t s)
def execOvercurrent (b : Fin 4) (p : Fin 3) (code : BitVec 12) (t : Word) (s : State) : Res := .next (overcurrent b p code t s)
def execDcLinkSample (b : Fin 4) (v : BitVec 31) (t : Word) (s : State) : Res := .next (dcLinkSample b v t s)
def execBridgeTripReport (b : Fin 4) (s : State) : Res := .next (bridgeTripReport b s)
def execStoeRaise (b : Fin 4) (s : State) : Res := .next (stoeRaise b s)
def execGateEnable (b : Fin 4) (t : Word) (s : State) : Res := .next (gateEnable b t s)
def execStoInhibitTest (b : Fin 4) (k : Fin 6) (ok : Bool) (s : State) : Res := .next (stoInhibitTest b k ok s)
def execStoPathTest (b : Fin 4) (k : Fin 6) (s : State) : Res := .next (stoPathTest b k s)

end Sys2Proof.Machine
end

