-- ==== Sys2Proof/Machine/SafetyFns.lean ====
section
/-! DEFINITION. Machine/SafetyFns.lean: the safety functions: the 500 microsecond cycle, STO, SS1, SBC, SLS, SLP, SDI, the
release with its pre-release tests, the axis reset and homing (10_safety_functions.md; R322; R541). -/
namespace Sys2Proof.Machine
open Sys2Proof

/-- The magnitude of a speed or movement. -/
def mag (x : Int) : Nat := x.natAbs

/-- The difference of two 32-bit counts, wrapped. -/
def countDiff (a b : Int) : Int := sInt (toW (a - b))

/-- The value of a source in a sample. -/
def srcVal (inc abs : Vector Int 4) (x : Src) : Int := if x.abs then abs[x.port] else inc[x.port]

/-- The place of a source among the offsets of homing. -/
def srcIdx (x : Src) : Fin 8 := ⟨2 * x.port.val + (if x.abs then 1 else 0), by have := x.port.isLt; split <;> omega⟩

/-- The limits of SLS that are selected: their select input is high, or always (R296). -/
def slsSelected (c : AxisCfg) (lvl : BitVec 16) : List (Fin 4) :=
  (fins 4).filter fun (j : Fin 4) =>
    decide (c.slsSel[j] = 0xFF) || (decide (c.slsSel[j] < 16) && lvl.getLsbD c.slsSel[j])

/-- The governing limit: the lowest selected one, the lower index on a tie (R296). -/
def slsGov (c : AxisCfg) (lvl : BitVec 16) : Option (Fin 4) :=
  (slsSelected c lvl).foldl (fun (g : Option (Fin 4)) (j : Fin 4) => match g with
    | none => some j
    | some i => if c.slsLim[j] < c.slsLim[i] then some j else some i) none

/-- The tuning limit is selected (R296): the TUNE limit while it is selected and TUNE_EN is set. -/
def tuneSelected (c : AxisCfg) (lvl : BitVec 16) : Bool := c.tuneEn && (slsSelected c lvl).contains c.tuneIdx
/-- The homing limit is selected. -/
def homeSelected (c : AxisCfg) (lvl : BitVec 16) : Bool := c.homeEn && (slsSelected c lvl).contains c.homeIdx

/-- A demand of an axis: CAUSE, CIDX where R299 states one, and whether its stop is STO (Table 10.5). An SLP or SDI demand has no input
or limit index of its own: its CIDX is a free value (log entry 13). -/
structure Dem where
  cause : Nat
  cidx : Option Nat
  sto : Bool
deriving DecidableEq, Repr, Inhabited

/-- The first set bit of a mask whose accepted level is low. -/
def lowInput (m lvl : BitVec 16) : Option Nat := (List.range 16).find? fun i => m.getLsbD i && !lvl.getLsbD i

/-- Demands of the accepted safe-input levels (R286, Table 10.5). -/
def inputDems (c : AxisCfg) (lvl : BitVec 16) : List Dem :=
  ((lowInput c.stoIn lvl).map fun i => { cause := 1, cidx := some i, sto := true : Dem }).toList ++
  ((lowInput c.ss1In lvl).map fun i => { cause := 2, cidx := some i, sto := false : Dem }).toList

/-- Start of an SS1 from RELEASED: V0 = |v| and the envelope begins (R293). -/
def Axis.toSs1 (nonsafe : Bool) (a : Axis) : Axis :=
  { a with st := .ss1, v0 := mag a.v, envCyc := 0, nonsafe := nonsafe }

/-- A demand sets LATCH and records CAUSE and CIDX unless LATCH is already set (R299). -/
def Axis.latchBy (cause cidx : Nat) (a : Axis) : Axis := if a.latch then a else { a with latch := true, cause := cause, cidx := cidx }

/-- CIDX of a demand; a free value where the spec states none (log entry 13). -/
def demIdx (d : Dem) (s : State) : Nat × State :=
  match d.cidx with
  | some k => (k, s)
  | none => let r := takeFree s; (r.1.toNat % 16, r.2)

/-- The stop of a demand (R289, R292, R293, R306, R308): STO at once, or SS1 from RELEASED. An axis still RELEASING has not
moved and goes STO (log entry 30). -/
def demandStop (n : Fin 4) (sto : Bool) (s : State) : State :=
  match s.saf.ax[n].st with
  | .unused | .sto => s
  | .releasing => axisToSto n s
  | .released => if sto then axisToSto n s else s.modAxis n (Axis.toSs1 false)
  | .ss1 => if sto then axisToSto n s else s.modAxis n fun a => { a with nonsafe := false }
  | .braking => if sto then axisToSto n s else s.modAxis n fun a => { a with nonsafe := false }

/-- Demands of one cycle on an axis: the lower CAUSE is recorded, the stricter stop runs (R299, R307). -/
def demands (n : Fin 4) (l : List Dem) (s : State) : State :=
  match sortBy (fun a b => decide (a.cause ≤ b.cause)) l with
  | [] => s
  | d :: _ =>
    if s.saf.ax[n].st = .unused then s
    else
      let r := demIdx d s
      demandStop n (l.any fun d => d.sto) (r.2.modAxis n (Axis.latchBy d.cause r.1))

/-- A non-safety SS1 (R301): no LATCH; from RELEASED only, and an axis still RELEASING goes STO. -/
def nonsafeSs1 (n : Fin 4) (s : State) : State :=
  match s.saf.ax[n].st with
  | .released => s.modAxis n (Axis.toSs1 true)
  | .releasing => axisToSto n s
  | _ => s

/-- The envelope of SS1 in 1/2000 counts/ms: V0 until SS1_DLY, then falling at DEC (R293). -/
def envOf (c : AxisCfg) (a : Axis) : Nat := 2000 * a.v0 - c.dec * (a.envCyc - 2 * c.ss1Dly)

/-- The SLS ceiling of this cycle in 1/2000 counts/ms, none with no limit selected (R296, R311). -/
def slsCeiling (c : AxisCfg) (a : Axis) (g : Option (Fin 4)) : Option Nat × Option Nat :=
  match g with
  | none => (none, none)
  | some j =>
    let lim := c.slsLim[j]
    let fell := match a.gov with | none => true | some i => decide (lim < c.slsLim[i])
    if fell then (if lim < mag a.v then (some (2000 * mag a.v), some (2000 * mag a.v)) else (none, some (2000 * lim)))
    else match a.slsCeil with
      | some x => if x - c.dec > 2000 * lim then (some (x - c.dec), some (x - c.dec)) else (none, some (2000 * lim))
      | none => (none, some (2000 * lim))

/-- The predicted stopping position times 2 SLP_DEC (R297). -/
def pStopNum (c : AxisCfg) (p vp : Int) : Int :=
  2 * c.slpDec * p + (if vp < 0 then -1 else 1) * (2 * c.slpDec * (mag vp) * c.slpTr + 1000 * vp * vp)

/-- The position of an axis is verified: it has a position source 1 and is not UNVERIFIED. -/
def verified (c : AxisCfg) (a : Axis) : Bool := c.pos1.isSome && !a.unver

/-- The measured part of a cycle on one axis: v, p, vp, p_stop, standstill, W (R285, R297, R298, R312). -/
def Axis.measure (c : AxisCfg) (saf : Saf) (m : SmSample) (a : Axis) : Axis :=
  let ready := decide (saf.primed ≥ 2)
  let v := if ready then countDiff (srcVal m.inc m.abs c.spd) (srcVal saf.inc2 saf.abs2 c.spd) else 0
  let dv := if decide (saf.primed ≥ 1) then countDiff (srcVal m.inc m.abs c.spd) (srcVal saf.inc1 saf.abs1 c.spd) else 0
  let p := match c.pos1 with | some x => sInt (toW (srcVal m.inc m.abs x + saf.srcOfs[srcIdx x])) | none => 0
  let vp := match c.pos1 with
    | some x => if ready then countDiff (srcVal m.inc m.abs x) (srcVal saf.inc2 saf.abs2 x) else 0
    | none => 0
  let still := if mag v ≤ c.sstill then satNat 4000 (a.stillCyc + 1) else 0
  let sdi := decide (c.sdiDir ≠ 0) && (decide (c.sdiSel = 0xFF) || (decide (c.sdiSel < 16) && saf.siLvl.getLsbD c.sdiSel))
  let w0 := if (sdi && !a.sdiAct) || decide (still ≥ 2 * c.sstillT) then 0 else a.w
  let against : Nat := if c.sdiDir = 1 then (-dv).toNat else dv.toNat
  { a with v := v, p := p, vp := vp, pStop := Config.roundFree (pStopNum c p vp) (2 * c.slpDec)
           stillCyc := still, sdiAct := sdi, w := if sdi then w0 + against else w0
           envCyc := if a.st = .ss1 then a.envCyc + 1 else a.envCyc }

/-- The demands of SLS, SLP and SDI in a cycle (R296-R298). -/
def cycleDems (c : AxisCfg) (a : Axis) (ceil : Option Nat) : List Dem :=
  let sls := match ceil with
    | some x => if 2000 * mag a.v > x then [{ cause := 3, cidx := some ((a.gov.map Fin.val).getD 0), sto := !c.stopSs1 : Dem }] else []
    | none => []
  let slp := if verified c a && (decide (pStopNum c a.p a.vp > 2 * c.slpDec * c.slpHi) || decide (pStopNum c a.p a.vp < 2 * c.slpDec * c.slpLo))
    then [{ cause := 4, cidx := none, sto := !c.stopSs1 : Dem }] else []
  let sdi := if decide (c.sdiDir ≠ 0) && decide (a.w > c.sdiTol) then [{ cause := 5, cidx := none, sto := !c.stopSs1 : Dem }] else []
  sls ++ slp ++ sdi

/-- The faults of a cycle on an axis (R293, R294, R296-R298). -/
def cycleFaults (n : Fin 4) (c : AxisCfg) (a : Axis) (ceil : Option Nat) : List Cause :=
  let mk (code : Code) : Cause := { code := code, unit := BitVec.ofNat 8 n, detail := 0 }
  (match ceil with | some x => if 2000 * mag a.v > x + 2000 * c.slsTol then [mk cSlsExceeded] else [] | none => []) ++
  (if a.st = .ss1 ∧ 2000 * mag a.v > envOf c a + 2000 * c.ss1Tol then [mk cSs1Envelope] else []) ++
  (if a.st = .braking ∧ mag a.v > c.sstill + c.ss1Tol then [mk cSs1Envelope] else []) ++
  (if verified c a ∧ (a.p > c.slpHi + c.slpTol ∨ a.p < c.slpLo - c.slpTol) then [mk cSlpLimit] else []) ++
  (if decide (c.sdiDir ≠ 0) && decide (a.w > 2 * c.sdiTol) then [mk cSdiWrongDir] else [])

/-- A source of position is verified by homing: it is offset by d, every axis that has it as position source 1 follows, a lift counts no travel
for it, and the source is no longer UNVERIFIED (R352, R540, R541; log entry 81). -/
def srcHomed (x : Src) (d : Int) (s : State) : State :=
  let m : BitVec 4 := 1#4 <<< x.port.val
  let on (n : Fin 4) : Bool := decide ((axisCfg s n).bind AxisCfg.pos1 = some x)
  { s with
    spm := { s.spm with lift := s.spm.lift.map fun l => if on l.axis then { l with p0 := sInt (toW (l.p0 + d)) } else l }
    saf := { s.saf with
      srcOfs := s.saf.srcOfs.set (srcIdx x) (s.saf.srcOfs[srcIdx x] + d)
      ax := s.saf.ax.mapFinIdx fun i a h =>
        if on ⟨i, h⟩ then { a with p := sInt (toW (a.p + d)), unver := false } else a }
    save := { s.save with
      absOk := if x.abs then s.save.absOk ||| m else s.save.absOk
      unver := if x.abs && s.img.enc[x.port].inc then s.save.unver else clear4 s.save.unver m } }

/-- A homing request on an axis is applied or refused in this cycle (R541): the axis has a position source 1, the HOME limit is selected and
|v| is at or below SSTILL. -/
def homingApply (s : State) : State :=
  match s.saf.homing with
  | none => s
  | some (n, pos) =>
    let s := { s with saf := { s.saf with homing := none } }
    match axisCfg s n with
    | none => { s with save := { s.save with homeRes := 2, homeAxis := n } }
    | some c =>
      let a := s.saf.ax[n]
      match c.pos1 with
      | some x =>
        if homeSelected c s.saf.siLvl && decide (mag a.v ≤ c.sstill) then
          let s := (srcHomed x (pos - a.p) s).modAxis n fun a => { a with p := pos }
          { s with save := { s.save with homeRes := 1, homeAxis := n } }
        else { s with save := { s.save with homeRes := 2, homeAxis := n } }
      | none => { s with save := { s.save with homeRes := 2, homeAxis := n } }

/-- The first step of Procedure 11.1 that a bridge fails: fault lines, STOE read-back, the six inhibits. -/
def relFails (s : State) (m : SmSample) (b : Fin 4) : Option Code :=
  if s.trst.px[b].flt ≠ 0 then some cDesatPretest
  else if m.stoe.getLsbD b || decide ((m.inhibitOff.toNat / 2 ^ (6 * b.val)) % 64 ≠ 63) then some cStoPathTest
  else none

/-- What the tests of one axis raise in this cycle, each bridge of the release for itself (R322, R331). In a sag no test runs (R332). -/
def relFaults (s : State) (m : SmSample) (n : Fin 4) : List Cause :=
  let a := s.saf.ax[n]
  if a.st = .releasing ∧ a.relStep = 1 ∧ !s.save.active then
    ((fins 4).filter fun (b : Fin 4) => a.relBridges.getLsbD b).filterMap fun b =>
      (relFails s m b).map fun c => { code := c, unit := BitVec.ofNat 8 b, detail := 0 : Cause }
  else []

/-- A release goes on at a cycle whose tests have passed (Procedure 11.1): the test request on DN0, then, in the next cycle, the carriers with
their test gap. Nothing is started in a sag (R528). -/
def relCycle (n : Fin 4) (s : State) : State :=
  let a := s.saf.ax[n]
  if a.st ≠ .releasing ∨ s.save.active then s
  else if a.relStep = 1 then
    let s := { s with trst := { s.trst with preTest := s.trst.preTest.mapFinIdx fun i x _ => x || a.relBridges.getLsbD i } }
    s.modAxis n fun a => { a with relStep := 2 }
  else if a.relStep = 2 then
    (startCarriers a.relBridges s).modAxis n fun a => { a with relStep := if a.relBridges = 0 then 4 else 3 }
  else s

/-- The SLS ceiling or the SS1 envelope in force, for ENV: the lower of those that apply (R290). -/
def envNow (c : AxisCfg) (a : Axis) : Option Nat :=
  let sls := match a.slsCeil, a.gov with
    | some x, _ => some x
    | none, some j => some (2000 * c.slsLim[j])
    | none, none => none
  match a.st with
  | .ss1 => some (match sls with | some x => min x (envOf c a) | none => envOf c a)
  | .braking => some 0
  | _ => sls

/-- ENV[15:0] of the axis word and of SAF_AXnSPD: counts/ms, 0xFFFF when none applies (R290). -/
def envField (s : State) (n : Fin 4) : Nat :=
  match axisCfg s n with
  | none => 0xFFFF
  | some c => match envNow c s.saf.ax[n] with
    | none => 0xFFFF
    | some x => satNat 65535 (Config.roundFree (x : Int) 2000).toNat

/-- STATE codes of Table 10.3. -/
def AxState.code : AxState → Nat
  | .unused => 0 | .sto => 1 | .releasing => 2 | .released => 3 | .ss1 => 4 | .braking => 5

/-- The axis word of board word 28 + n (R290). -/
def axisWord (s : State) (n : Fin 4) : Word :=
  let a := s.saf.ax[n]
  fld a.st.code 0 3 ||| bit a.latch 3 ||| bit a.nonsafe 4 ||| bit a.gov.isSome 5 |||
    fld ((a.gov.map Fin.val).getD 0) 6 2 ||| fld (envField s n) 16 16

/-- The safety monitor writes the axis words every cycle (R290). -/
def writeAxisWords (s : State) : State :=
  { s with le := { s.le with
      board := (fins 4).foldl (fun (b : Vector Word 64) (n : Fin 4) => b.set (28 + n.val) (axisWord s n)) s.le.board
      boardVer := (fins 4).foldl (fun (b : Vector Nat 64) (n : Fin 4) => b.set (28 + n.val) (b[28 + n.val] + 1)) s.le.boardVer } }

/-- A safe output's command (R287): off in STO, in LOCKOUT, in a sag and without a configuration. -/
def soWanted (s : State) (dem : List (Fin 4)) (k : Fin 4) : Bool :=
  let n := s.img.safeIo.soAxis[k]
  let a := s.saf.ax[n]
  match axisCfg s n, a.st with
  | none, _ => false
  | _, .unused => false
  | _, .sto => false
  | some c, st =>
    !s.sys.mode.isLockout && !s.save.active &&
    match s.img.safeIo.soKind[k] with
    | .unused => false
    | .permit => decide (st = .released) && !a.latch && !dem.contains n
    | .belowSls => match a.slsCeil, a.gov with
      | some x, _ => decide (2000 * mag a.v ≤ x)
      | none, some j => decide (mag a.v ≤ c.slsLim[j])
      | none, none => true

/-- The first cross-check window of a configuration starts with its first cycle (R316). -/
def Axis.xcStart (c : AxisCfg) (m : SmSample) (a : Axis) : Axis :=
  if a.xcOn then a
  else { a with xcOn := true, xcP1 := (c.pos1.map (srcVal m.inc m.abs)).getD 0, xcP2 := (c.pos2.map (srcVal m.inc m.abs)).getD 0
                xcV := srcVal m.inc m.abs c.spd }

/-- One axis in one cycle: measurement, ceilings, demands; its faults are returned (R285-R298). -/
def axisCycle (m : SmSample) (x : State × List Cause × List (Fin 4)) (n : Fin 4) : State × List Cause × List (Fin 4) :=
  let s := x.1
  match axisCfg s n with
  | none => x
  | some c =>
    let a := (s.saf.ax[n].measure c s.saf m).xcStart c m
    let g := slsGov c s.saf.siLvl
    let ce := slsCeiling c a g
    let a := { a with gov := g, slsCeil := ce.1
                      slsSelNow := BitVec.ofNat 4 (packBits ((fins 4).map fun j => (slsSelected c s.saf.siLvl).contains j)) }
    let s := s.modAxis n fun _ => a
    let ds := inputDems c s.saf.siLvl ++ cycleDems c a ce.2
    (demands n ds s, x.2.1 ++ cycleFaults n c a ce.2, if ds.isEmpty then x.2.2 else x.2.2 ++ [n])

/-- The 300 microseconds after a test pulse, in which its samples are still masked (R317). -/
def afterPulse (s : State) (j : Fin 4) : Bool := match s.saf.toAfter with | some (i, t) => decide (i = j) && decide (s.now < t + 300) | none => false

/-- The samples of a safe input are masked by a pulse of its test output, from its start until 300 microseconds after its end: they hold the
last accepted level (R286, R317). -/
def siMasked (s : State) (k : Fin 16) : Bool :=
  match s.img.safeIo.tpMap[k] with
  | some j => decide (s.saf.toPulse = some j) || afterPulse s j
  | none => false

/-- A sample as the filter of R286 takes it. -/
def siSample (s : State) (raw : BitVec 16) : BitVec 16 :=
  BitVec.ofNat 16 (packBits ((fins 16).map fun (k : Fin 16) => if siMasked s k then s.saf.siLvl.getLsbD k else raw.getLsbD k))

/-- SAFETY_CYCLE: one 500 microsecond cycle of the safety monitor (R285-R298, R322, R331, R541). It does not run in WATCH, where
the core domain is off, nor once the monitor has failed (R324). -/
def safetyCycle (m : SmSample) (s : State) : State :=
  if s.saf.halted || decide (s.fab.dom[1] ≠ .on) then s
  else
    let s := { s with saf := { s.saf with cycle := s.saf.cycle + 1, siRaw := m.si, siFilt := siSample s m.si, alive := !s.saf.alive } }
    let r := (fins 4).foldl (axisCycle m) (s, [], [])
    let s := r.1
    let s := { s with saf := { s.saf with
        inc2 := s.saf.inc1, abs2 := s.saf.abs1, inc1 := m.inc, abs1 := m.abs, primed := satNat 2 (s.saf.primed + 1) } }
    let s := homingApply s
    let s := raiseAll (r.2.1 ++ (fins 4).flatMap (relFaults s m)) s
    let s := (fins 4).foldl (fun (s : State) (n : Fin 4) => relCycle n s) s
    let s := pulsesDrop { s with saf := { s.saf with so := BitVec.ofNat 4 (packBits ((fins 4).map (soWanted s r.2.2))) } }
    writeAxisWords s

/-- CARRIER_GAP_REPORT: the deck's report on the test gap of a bridge: with the loss seen, the STOEn hold ends and the carrier
starts again; otherwise STO_PATH_TEST (R263, R322). -/
def carrierGapReport (b : Fin 4) (s : State) : State :=
  match (fins 4).find? fun (n : Fin 4) => s.saf.ax[n].relBridges.getLsbD b && decide (s.saf.ax[n].relStep = 3) with
  | none => s
  | some n =>
    if s.dk.br[b].testHold then
      if s.dk.br[b].gapSeen then
        let s := s.modBr b fun x => { x with testHold := false, gapSeen := false, ka := s.saf.ka.getLsbD b }
        let s := { s with trst := { s.trst with preTest := s.trst.preTest.set b false } }
        s.modAxis n fun a =>
          { a with relStep := if (fins 4).any fun (c : Fin 4) => a.relBridges.getLsbD c && s.dk.br[c].testHold then 3 else 4 }
      else raise cStoPathTest (BitVec.ofNat 8 b) 0 s
    else raise cStoPathTest (BitVec.ofNat 8 b) 0 s

/-- RST_IN goes high on its axes: the press is timed from here when the axis is configured (R300). -/
def rstRise (k : Fin 16) (s : State) : State :=
  (fins 4).foldl (fun (s : State) (n : Fin 4) => match axisCfg s n with
    | some c => if c.rstIn = k then s.modAxis n fun a => { a with rstHighAt := some s.now } else s
    | none => s) s

/-- SAFE_INPUT_ACCEPT: a level has held for tSIF and is accepted; a low level demands on every axis that assigns the input (R286, R292, R293,
R299). The first level accepted is no rise: a press that it would start had begun before power-up or the wake (R300). -/
def safeInputAccept (k : Fin 16) (s : State) : State :=
  if s.saf.halted || decide (s.fab.dom[1] ≠ .on) || siMasked s k then s
  else
    let lvl := s.saf.siFilt.getLsbD k
    let rise := lvl && s.saf.siSeen.getLsbD k && !s.saf.siLvl.getLsbD k
    let s := { s with saf := { s.saf with
        siSeen := s.saf.siSeen ||| BitVec.ofNat 16 (2 ^ k.val)
        siLvl := if lvl then s.saf.siLvl ||| BitVec.ofNat 16 (2 ^ k.val) else s.saf.siLvl &&& ~~~(BitVec.ofNat 16 (2 ^ k.val)) } }
    let s := if rise then rstRise k s else s
    (fins 4).foldl (fun (s : State) (n : Fin 4) => match axisCfg s n with
      | some c => demands n (inputDems c s.saf.siLvl) s
      | none => s) s

/-- SBC: |v| has been at or below SSTILL for SSTILL_T in an SS1: the brakes are de-energised, the axis goes BRAKING (R293,
R294). -/
def sbc (n : Fin 4) (s : State) : State :=
  match axisCfg s n with
  | none => s
  | some c =>
    if s.saf.ax[n].st = .ss1 ∧ s.saf.ax[n].stillCyc ≥ 2 * c.sstillT then
      (applyBrakes c.brakes s).modAxis n fun a => { a with st := .braking }
    else s

/-- BRAKE_APPLY_ELAPSED: tBKAPPLY after the brakes were applied the carriers stop and the axis goes STO (R294). -/
def brakeApplyElapsed (n : Fin 4) (s : State) : State :=
  if s.saf.ax[n].st = .braking then axisToSto n s else s

/-- Every bridge of an axis's release is released, as the up-lane status shows it (R291). -/
def relDone (s : State) (n : Fin 4) : Bool :=
  (fins 4).all fun (b : Fin 4) => !s.saf.ax[n].relBridges.getLsbD b || s.trst.px[b].released

/-- BRAKE_RELEASE_ELAPSED: tBKREL after the bridges were released the brakes are energised and the axis goes RELEASED (R291); never in a sag,
which gates the brake drivers (R528). -/
def brakeReleaseElapsed (n : Fin 4) (s : State) : State :=
  match axisCfg s n with
  | none => s
  | some c =>
    if s.saf.ax[n].st = .releasing ∧ s.saf.ax[n].relStep = 4 ∧ relDone s n ∧ ¬s.saf.ax[n].latch ∧ ¬s.save.active then
      (releaseBrakes c.brakes s).modAxis n fun a => { a with st := .released, relStep := 0 }
    else s

/-- The brakes of an axis are commanded released: every switch of every pair on. -/
def brakesOn (c : AxisCfg) (s : State) : Bool :=
  decide (c.brakes ≠ 0) && decide (s.saf.bkH &&& c.brakes = c.brakes) && decide (s.saf.bkL &&& c.brakes = c.brakes)

/-- The brakes of an axis are applied: no pair energised. -/
def brakesApplied (c : AxisCfg) (s : State) : Bool :=
  decide (s.saf.bkH &&& s.saf.bkL &&& c.brakes = 0)

/-- The brake feedback agrees with the brakes: high means released (R295). -/
def feedbackOk (c : AxisCfg) (s : State) : Bool :=
  match c.bkfbIn with
  | none => true
  | some k => s.saf.siLvl.getLsbD k == brakesOn c s

/-- BRAKE_FEEDBACK: the feedback has not followed a change of BRAKES within tBKFB (R295). -/
def brakeFeedback (n : Fin 4) (s : State) : State :=
  match axisCfg s n with
  | none => s
  | some c => if feedbackOk c s then s else raise cBrakeFeedback (BitVec.ofNat 8 n) 0 s

/-- The conditions of R300 at the end of a press. -/
def resetOk (c : AxisCfg) (n : Fin 4) (s : State) : Bool :=
  let a := s.saf.ax[n]
  (inputDems c s.saf.siLvl).isEmpty &&
  (!verified c a || (decide (a.p ≤ c.slpHi) && decide (c.slpLo ≤ a.p))) &&
  decide (mag a.v ≤ c.sstill) && brakesApplied c s && feedbackOk c s

/-- A press on an axis has ended, of a length that counts or not: the reset is granted and leaves the axis in STO, or the press is ignored and
counted (R300, R310). -/
def resetPress (long : Bool) (n : Fin 4) (s : State) : State :=
  let ok := match axisCfg s n with | some c => long && resetOk c n s | none => false
  if ok then
    let s := if s.saf.ax[n].st = .unused ∨ s.saf.ax[n].st = .sto then s else axisToSto n s
    s.modAxis n fun a => { a with latch := false, w := 0, rstHighAt := none }
  else s.modAxis n fun a => { a with rstCnt := incSat 255 a.rstCnt, rstHighAt := none }

/-- AXIS_RESET: an RST_IN press ends; it counts when RST_IN was high for 0.1 to 3.0 s, timed since the axis was configured (R300,
R313). -/
def axisReset (n : Fin 4) (s : State) : State :=
  let len := match s.saf.ax[n].rstHighAt with
    | some t => decide (100000 ≤ s.now - t) && decide (s.now - t ≤ 3000000)
    | none => false
  resetPress len n s

/-- SAF_AXCMD_RESET: with SWRST set, a secure write of RESET counts as a press that has just ended; without it nothing happens
(R300). -/
def safAxcmdReset (n : Fin 4) (s : State) : State :=
  match axisCfg s n with
  | some c => if c.swRst then resetPress true n s else s
  | none => s

/-! ### Meanings -/

def execSafetyCycle (m : SmSample) (s : State) : Res := .next (safetyCycle m s)
def execCarrierGapReport (b : Fin 4) (s : State) : Res := .next (carrierGapReport b s)
def execSafeInputAccept (k : Fin 16) (s : State) : Res := .next (safeInputAccept k s)
def execSbc (n : Fin 4) (s : State) : Res := .next (sbc n s)
def execBrakeApplyElapsed (n : Fin 4) (s : State) : Res := .next (brakeApplyElapsed n s)
def execBrakeReleaseElapsed (n : Fin 4) (s : State) : Res := .next (brakeReleaseElapsed n s)
def execBrakeFeedback (n : Fin 4) (s : State) : Res := .next (brakeFeedback n s)
def execAxisReset (n : Fin 4) (s : State) : Res := .next (axisReset n s)
def execSafAxcmdReset (n : Fin 4) (s : State) : Res := .next (safAxcmdReset n s)

end Sys2Proof.Machine
end

