-- ==== Sys2Proof/Machine/Channels.lean ====
section
/-! DEFINITION. Machine/Channels.lean: the Channel Manager: handles, templates and bindings, CREATE and its checks, the commands
by state, injection and capture commands (05_channels_and_handles.md; R170, R177, R178, R184, R231-R237). START is in ShipPower.lean; DESTROY and the service of
the ports are in ChannelPorts.lean. -/
namespace Sys2Proof.Machine
open Sys2Proof

/-! ### Classes and loads -/

/-- Rate of a tick class in Hz (Table 6.1). -/
def classRate (c : Fin 8) : Nat := #v[100000, 50000, 20000, 10000, 2000, 1000, 100, 10][c]
/-- Period of a tick class in frame ticks (Table 6.1). -/
def classPeriod (c : Fin 8) : Nat := #v[10, 20, 50, 100, 500, 1000, 10000, 100000][c]
/-- Load of a template in evaluations per second, rounded up (R214). -/
def loadOf (t : Template) : Nat := (t.stages.length * classRate t.tick + t.div - 1) / t.div

/-- Summed load of the slots that are not FREE, outside a list, of all classes or of T0-T2 only (R214). -/
def loadSum (s : State) (hi : Bool) (without : List (Fin 256)) : Nat :=
  (fins 256).foldl (fun (n : Nat) (i : Fin 256) =>
    let c := s.chn.slots[i]
    let t := slotTemplate s c
    if c.st = .free ∨ without.contains i ∨ (hi ∧ t.tick > 2) then n else n + loadOf t) 0

/-- CHN_STAGES.USED (R143). -/
def stagesUsed (s : State) : Nat := s.le.owners.length

/-- Slots in a state. -/
def slotCount (s : State) (p : Slot → Bool) : Nat := countTrue (s.chn.slots.toList.map p)

/-! ### Responses -/

/-- A response (Table 5.5). -/
structure Ans where
  result : Nat := 0
  reason : Nat := 0
  handle : BitVec 16 := 0
  index : Nat := 0xFF
  state : Nat := 0
  cls : Nat := 0
  rsp2 : Word := 0
  rsp3 : Word := 0
deriving DecidableEq, Repr, Inhabited

/-- RSP1.STATE codes. -/
def ChState.code : ChState → Nat
  | .free => 0 | .created => 1 | .armed => 2 | .running => 3 | .held => 4 | .faulted => 5 | .draining => 6

/-- The response words of an answer (Table 5.5). -/
def Ans.words (a : Ans) : Vector Word 4 :=
  #v[fld a.result 0 8 ||| fld a.reason 8 8 ||| fld a.handle.toNat 16 16,
     fld a.index 0 8 ||| fld a.state 8 4 ||| fld a.cls 12 4, a.rsp2, a.rsp3]

/-- OP codes (Table 5.4). -/
def opCreate : Nat := 1
def opArm : Nat := 2
def opStart : Nat := 3
def opHold : Nat := 4
def opRelease : Nat := 5
def opSwap : Nat := 6
def opInject : Nat := 7
def opCapture : Nat := 8
def opDestroy : Nat := 9
def opQuery : Nat := 10

/-- World of a command (Table 5.1). -/
def callWorld (c : ChnCall) : World :=
  if c.port = 0 then .S else if c.port = 1 then (if c.ns then .NS else .S) else .NS

/-- CMD0 of a call (Table 5.4): the WORLD bit is port 1's only. -/
def callCmd0 (op : Nat) (c : ChnCall) : Word := fld op 0 8 ||| bit (c.ns && decide (c.port = 1)) 8 ||| fld c.handle.toNat 16 16

/-- Change a mailbox port. -/
def State.modPort (s : State) (p : Fin 4) (f : Port → Port) : State := { s with chn := { s.chn with ports := vmod s.chn.ports p f } }

/-- A GO or a CMD write while PEND is set is ignored and sets COLLIDE (R142). -/
def portCollide (p : Fin 4) (s : State) : State := s.modPort p fun q => { q with collide := true }

/-- A port has been served (R142): the response is complete, PEND is 0 and DONE is set; the words of the command stay. -/
def portAnswer (p : Fin 4) (cmd : Vector Word 8) (r : Ans × State) : State :=
  let s := r.2.modPort p fun q => { q with cmd := cmd, rsp := r.1.words, pend := false, done := true }
  { s with chn := { s.chn with last := p } }

/-- CMD0-CMD7 of a call. -/
def callWords (op : Nat) (c : ChnCall) : Vector Word 8 := #v[callCmd0 op c, c.w[0], c.w[1], c.w[2], c.w[3], c.w[4], c.w[5], c.w[6]]

/-! ### Handles (R138, R140) -/

/-- The handle of a slot. -/
def handleOf (s : State) (i : Fin 256) : BitVec 16 := BitVec.ofNat 16 (s.chn.slots[i].gen * 256 + i.val)

/-- The slot that a handle names, when the handle is current. -/
def current (s : State) (h : BitVec 16) : Option (Fin 256) :=
  let i : Fin 256 := Fin.ofNat 256 (h.toNat % 256)
  if s.chn.slots[i].st ≠ .free ∧ s.chn.slots[i].gen = h.toNat / 256 then some i else none

/-- GEN after a free: 255 goes back to 1 (R138). -/
def genNext (g : Nat) : Nat := if g ≥ 255 then 1 else g + 1

/-- Whether a command is allowed by the mode in which it was accepted (R55, R158): LOCKOUT takes QUERY, HOLD, CAPTURE and DESTROY; BOOT takes
port 0 only, the port of the secure core's own use (log entry 100). -/
def modeAllows (m : Mode) (op : Nat) (port : Fin 4) : Bool :=
  if m.isLockout then op == opQuery || op == opHold || op == opCapture || op == opDestroy
  else if m.isBoot then decide (port = 0)
  else true

/-- A channel of the old or the new recipe during a change (R64). -/
def ofRecipe (c : Slot) : Bool := decide (c.key ≠ 0)

/-- The checks of R152 before a command's own: mode, handle, world, recipe change, state. -/
def handleCheck (m : Mode) (s : State) (op : Nat) (c : ChnCall) (states : Slot → Bool) : Except Ans (Fin 256) :=
  if !modeAllows m op c.port then .error { result := rMode, reason := 0x01, handle := c.handle }
  else match current s c.handle with
    | none => .error { result := rStale, reason := 0x0E, handle := c.handle }
    | some i =>
      let x := s.chn.slots[i]
      if callWorld c = .NS ∧ x.world = .S then .error { result := rWorld, reason := 0x04, handle := c.handle }
      else if s.sys.switching && ofRecipe x && op != opQuery && op != opHold then
        .error { result := rBusy, reason := 0x02, handle := c.handle }
      else if !states x then .error { result := rBadState, reason := 0x0D, handle := c.handle }
      else .ok i

/-- An accepted answer on a slot. -/
def okAns (s : State) (i : Fin 256) : Ans := { handle := handleOf s i, state := s.chn.slots[i].st.code }

/-! ### Stage banks (R170, Table 6.3, R253) -/

/-- Words with these indices are 0. -/
def zeroAt (ws : List Word) (l : List Nat) : Bool := l.all fun i => decide (ws.getD i 0 = 0)

/-- Bank word i as a signal value. -/
def sw (ws : List Word) (i : Nat) : Int := sInt (ws.getD i 0)

/-- M words: mantissas with bits [7:0] zero, and word 7 with bits [31:8] zero (R170). -/
def blockOk (ws : List Word) (l : List Nat) : Bool :=
  l.all (fun i => decide ((ws.getD i 0).toNat % 256 = 0)) && decide ((ws.getD 7 0).toNat < 256)

/-- Bits [31:30] of word 7 are 0 (R170). -/
def shiftsOk (ws : List Word) : Bool := decide ((ws.getD 7 0).toNat < 2 ^ 30)

/-- The rules of one bank of a stage (R170, Table 6.3, R230, R236, R253). -/
def bankOk (t : StageType) (block : Bool) (ws : List Word) : Bool :=
  match t with
  | .hys2 => decide (0 ≤ sw ws 0) && zeroAt ws [3, 4, 5, 6, 7]
  | .hys3 => decide (0 ≤ sw ws 1) && decide (sw ws 1 < sw ws 0) && zeroAt ws [5, 6, 7]
  | .hysi => decide (0 < sw ws 1) && decide (sw ws 2 < sw ws 3) && zeroAt ws [4, 5, 6, 7]
  | .int => decide (sw ws 2 < sw ws 3) && zeroAt ws [4, 5, 6] && shiftsOk ws
  | .hysc =>
    let h := rne (sw ws 0) 1048576
    let lo := rne (sw ws 1) 1048576
    let hi := rne (sw ws 2) 1048576
    let f := (ws.getD 3 0).toNat
    decide (1 ≤ lo) && decide (lo ≤ h) && decide (h ≤ hi) && decide (hi ≤ 2047) &&
      (f == 0 || (decide (500 ≤ f) && decide (f ≤ 20000))) && decide ((ws.getD 4 0).toNat ≤ 2) && zeroAt ws [5, 6, 7]
  | .filt => zeroAt ws [5, 6] && (if block then blockOk ws [0, 1, 2, 3, 4] else shiftsOk ws)
  | .model => if block then zeroAt ws [3, 4, 5, 6] && blockOk ws [0, 1, 2] else zeroAt ws [2, 3, 4, 5] && shiftsOk ws
  | .limit => decide (sw ws 0 ≤ sw ws 1) && zeroAt ws [2, 3, 4, 5, 6, 7]
  | .ramp => decide (0 < sw ws 0) && decide (0 < sw ws 1) && zeroAt ws [2, 3, 4, 5, 6, 7]
  | .sum => zeroAt ws [0, 1, 2, 3, 4, 5, 7]
  | .scale => zeroAt ws [1, 2, 3, 4, 5] && shiftsOk ws
  | .inj => decide (0 ≤ sw ws 0) && zeroAt ws [1, 2, 3, 4, 5, 6, 7]
  | .cap => zeroAt ws [0, 1, 2, 3, 4, 5, 6, 7]
  | .xfer => zeroAt ws [0, 1, 2, 3, 4, 5, 6, 7]
  | .imp => zeroAt ws [0, 1, 2, 3, 4, 5, 6, 7]

/-! ### CREATE (R145, R146, R151, Table 5.9) -/

/-- What an accepted CREATE allocates. -/
structure Plan where
  template : Nat := 0
  axis : Option (Fin 4) := none
  world : World := .S
  bankB : Bool := false
  bridges : BitVec 4 := 0
  fos : BitVec 32 := 0
  fns : BitVec 8 := 0
  /-- Supply outputs of the used fans, claimed with them (R431). -/
  supply : BitVec 32 := 0
  encs : BitVec 4 := 0
  ais : BitVec 16 := 0
  pNom : Nat := 0
  /-- Banks A and B per stage. -/
  banks : List (List Word × List Word) := []
  slot : Fin 256 := 0
  recs : List Nat := []
deriving DecidableEq, Repr, Inhabited

/-- A binding that breaks R145 by itself. -/
def bindBad (t : Template) (b : Binding) : Bool :=
  let v := b.value.toNat
  b.zero != 0 ||
  (if b.stage < t.stages.length then decide (b.item > 7) || decide (b.banks = 0) || decide (b.banks > 3)
   else if b.stage = 0xFF then
    b.banks != 0 || !(match b.item with
      | 1 => decide (v &&& t.bridges.toNat = v)
      | 2 => decide (v &&& t.fos.toNat = v)
      | 3 => decide (v &&& t.fns.toNat = v)
      | 4 => decide (v &&& t.encs.toNat = v)
      | 5 => decide (v &&& t.ais.toNat = v)
      | 6 => decide (1 ≤ v) && decide (v ≤ t.pNom)
      | _ => false)
   else true)

/-- Apply one binding to a plan. -/
def bindApply (p : Plan) (b : Binding) : Plan :=
  let v := b.value.toNat
  if b.stage = 0xFF then
    match b.item with
    | 1 => { p with bridges := BitVec.ofNat 4 v }
    | 2 => { p with fos := BitVec.ofNat 32 v }
    | 3 => { p with fns := BitVec.ofNat 8 v }
    | 4 => { p with encs := BitVec.ofNat 4 v }
    | 5 => { p with ais := BitVec.ofNat 16 v }
    | _ => { p with pNom := v }
  else
    { p with banks := p.banks.mapIdx fun i x =>
        if i = b.stage then
          (if b.banks % 2 = 1 then x.1.set b.item b.value else x.1, if b.banks / 2 % 2 = 1 then x.2.set b.item b.value else x.2)
        else x }

/-- The lowest-numbered binding that wrote a word of a bank of a stage (R170). -/
def bindOf (bs : List Binding) (stage : Nat) (bankB : Bool) : Nat :=
  (bs.findIdx? fun b => decide (b.stage = stage) && (if bankB then b.banks / 2 % 2 == 1 else b.banks % 2 == 1)).getD 0xFF

/-- The binding that set a mask: the last one of its item, since each replaces the mask (R177, R178). -/
def bindMask (bs : List Binding) (item : Nat) : Nat :=
  ((List.range bs.length).filter fun i => (bs[i]?).any fun b => decide (b.stage = 0xFF) && decide (b.item = item)).getLastD 0xFF

/-- The first bank in breach after the bindings: stages ascending, bank A before bank B (R170). -/
def bankBreach (t : Template) (p : Plan) (bs : List Binding) : Option Nat :=
  (List.range t.stages.length).findSome? fun i =>
    let d := t.stages.getD i {}
    let x := p.banks.getD i ([], [])
    if !bankOk d.type d.blockFp x.1 then some (bindOf bs i false)
    else if !bankOk d.type d.blockFp x.2 then some (bindOf bs i true) else none

/-- A port or HYSC bridge outside the used masks (R177, R178). -/
def portBreach (t : Template) (p : Plan) (bs : List Binding) : Option Nat :=
  t.stages.findSome? fun d =>
    match d.type with
    | .hysc => if p.bridges.getLsbD (d.idx % 4) then none else some (bindMask bs 1)
    | .xfer =>
      if d.kind = 1 ∧ ¬p.bridges.getLsbD 3 then some (bindMask bs 1)
      else if d.kind = 2 ∧ ¬p.fos.getLsbD d.idx then some (bindMask bs 2)
      else if d.kind = 3 ∧ ¬p.fns.getLsbD d.idx then some (bindMask bs 3) else none
    | .imp =>
      if d.kind = 7 ∧ ¬p.encs.getLsbD (d.idx / 4) then some (bindMask bs 4)
      else if d.kind = 8 ∧ ¬p.ais.getLsbD d.idx then some (bindMask bs 5) else none
    | _ => none

/-- The channel's world may write every block that its masks and XFER ports name; board words 0-31 take XFER from S only (R111,
Table 6.5). -/
def worldMayUse (s : State) (w : World) (t : Template) : Bool :=
  (decide (t.bridges = 0) || blockWritable s w 7) && (decide (t.fos = 0) || blockWritable s w 10) &&
  (decide (t.fns = 0) || blockWritable s w 11) && (decide (t.encs = 0) || blockWritable s w 13) &&
  (decide (t.ais = 0) || blockWritable s w 12) &&
  t.stages.all fun d => match d.type with
    | .xfer => match d.kind with
      | 1 => blockWritable s w 7
      | 2 => blockWritable s w 10
      | 3 => blockWritable s w 11
      | 4 => blockWritable s w 15
      | 5 => decide (w = .S) || decide (d.idx ≥ 32)
      | _ => true
    | .hysc => blockWritable s w 7
    | _ => true

/-- A slot, outside a list, that is not FREE and owns a resource: class 0 bridge, 1 field output, 2 fan (R150). -/
def ownerOf (s : State) (without : List (Fin 256)) (cls bitNo : Nat) : Option (Fin 256) :=
  (fins 256).find? fun (i : Fin 256) =>
    let c := s.chn.slots[i]
    decide (c.st ≠ .free) && !without.contains i && (match cls with
      | 0 => c.bridges.getLsbD bitNo
      | 1 => c.fos.getLsbD bitNo
      | _ => c.fns.getLsbD bitNo)

/-- The used resources of a plan: class and bit, bridges first (RSP1.CLASS order). -/
def planRes (p : Plan) : List (Nat × Nat) :=
  let l (cls n v : Nat) : List (Nat × Nat) := ((List.range n).filter fun i => v.testBit i).map fun i => (cls, i)
  l 0 4 p.bridges.toNat ++ l 1 32 (p.fos ||| p.supply).toNat ++ l 2 8 p.fns.toNat ++ l 3 4 p.encs.toNat ++ l 4 16 p.ais.toNat

/-- A resource is present: the deck is adopted for a bridge, the image section enables any other (Table 5.9, check 8). -/
def resPresent (s : State) (r : Nat × Nat) : Bool :=
  match r.1 with
  | 0 => s.trst.adopted
  | 1 => s.img.foEn.getLsbD r.2
  | 2 => s.img.fnEn.getLsbD r.2
  | 3 => s.img.encEn.getLsbD r.2
  | _ => s.img.aiEn.getLsbD r.2

/-- The n lowest-numbered free records (R163), searching k records from i. -/
def freeRecs (owners : List (Nat × RecOwner)) : Nat → Nat → Nat → List Nat
  | 0, _, _ => []
  | _, _, 0 => []
  | k + 1, i, n + 1 => if (kvGet i owners).isSome then freeRecs owners k (i + 1) (n + 1) else i :: freeRecs owners k (i + 1) n

/-- Checks 3 to 12 of Table 5.9 for a template, axis and bindings, with the capacity of some slots counted as free (R61 check
8). `binds` is none where the bindings cannot be read. -/
def createPlan (s : State) (w : World) (ti axisB : Nat) (bankB : Bool) (binds : Option (List Binding)) (without : List (Fin 256)) :
    Except Ans Plan :=
  match s.img.templates[ti]? with
  | none => .error { result := rBadTemplate, reason := 0x03 }
  | some t =>
    match binds with
    | none => .error { result := rWorld, reason := 0x04 }
    | some bs =>
      if (w = .NS ∧ (!t.anyWorld ∨ axisB ≠ 0xFF)) ∨ !worldMayUse s w t then .error { result := rWorld, reason := 0x04 }
      else
        let p0 : Plan := {
          template := ti, world := w, bankB := bankB, axis := if h : axisB < 4 then some ⟨axisB, h⟩ else none
          bridges := t.bridges, fos := t.fos, fns := t.fns, encs := t.encs, ais := t.ais, pNom := t.pNom
          banks := t.stages.map fun d => (d.bankA, d.bankB) }
        match bs.findIdx? (bindBad t) with
        | some i => .error { result := rBadTemplate, reason := 0x05, index := i }
        | none =>
          let p1 := bs.foldl bindApply p0
          let p := { p1 with supply := supplyMask s p1.fns }
          match (bankBreach t p bs).or (portBreach t p bs) with
          | some i => .error { result := rBadTemplate, reason := 0x05, index := i }
          | none =>
            let axisOk := match p.axis with
              | some n => match axisCfg s n with
                | some c => decide (p.bridges &&& c.bridges = p.bridges)
                | none => false
              | none => !t.axisReq && decide (axisB = 0xFF)
            if !axisOk then .error { result := rSafety, reason := 0x06, index := axisB % 256 }
            else match (planRes p).findSome? (fun r => if r.1 < 3 then (ownerOf s without r.1 r.2).map fun i => (i, r.1) else none) with
              | some (i, cls) => .error { result := rResource, reason := 0x07, index := i.val, cls := cls }
              | none => match (planRes p).find? fun r => !resPresent s r with
                | some r => .error { result := rResource, reason := 0x08, index := r.2, cls := r.1 }
                | none => match (fins 256).find? fun (i : Fin 256) => decide (s.chn.slots[i].st = .free) || without.contains i with
                  | none => .error { result := rSlots, reason := 0x09 }
                  | some slot =>
                    let freed := without.foldl (fun (n : Nat) (i : Fin 256) => n + s.chn.slots[i].recs.length) 0
                    if stagesUsed s - freed + t.stages.length > 2048 then .error { result := rSlots, reason := 0x0A }
                    else if t.tick ≤ 2 ∧ loadSum s true without + loadOf t > 60000000 then .error { result := rCapacity, reason := 0x0B }
                    else if loadSum s false without + loadOf t > 90000000 then .error { result := rCapacity, reason := 0x0C }
                    else .ok { p with slot := slot, recs := freeRecs s.le.owners 2048 0 t.stages.length }

/-- The 96 bytes of a fresh stage record: both banks, state zeroed (R146, R162). -/
def recBytes (x : List Word × List Word) : List Byte :=
  (x.1 ++ x.2).flatMap wordBytes ++ List.replicate (96 - 4 * (x.1.length + x.2.length)) 0

/-- Allocate what a plan says (R139, R146, R163, R213). -/
def createDo (p : Plan) (key : Nat) (s : State) : State :=
  let i := p.slot
  let owners := (List.range p.recs.length).foldl (fun o j => kvSet (p.recs.getD j 0) { slot := i, stage := j : RecOwner } o) s.le.owners
  let s := (List.range p.recs.length).foldl (fun s j => memPut (recAddr (p.recs.getD j 0)) (recBytes (p.banks.getD j ([], []))) s) s
  let s := { s with le := { s.le with owners := owners } }
  s.modSlot i fun c => { gen := c.gen, st := .created, template := p.template, axis := p.axis, key := key, world := p.world
                         bridges := p.bridges, fos := p.fos ||| p.supply, fns := p.fns, encs := p.encs, ais := p.ais, pNom := p.pNom
                         recs := p.recs, bankB := p.bankB }

/-- Read the n bindings at an address in a world; none where a read is refused (R145). -/
def readBinds (s : State) (w : World) (a : Nat) : Nat → Option (List Binding)
  | 0 => some []
  | n + 1 =>
    if memReadable s w a && memReadable s w (a + 4) then
      let x := memWord s.mem a
      (readBinds s w (a + 8) n).map fun l =>
        { stage := getf x 0 8, item := getf x 8 8, banks := getf x 16 8, zero := getf x 24 8, value := memWord s.mem (a + 4) } :: l
    else none

/-- The first of n words at an address that cannot be read as a binding. -/
def bindStop (s : State) (w : World) (a n : Nat) : Option Nat := ((List.range n).map fun k => a + 4 * k).find? fun x => !memReadable s w x

/-- The record of a binding read that receives FAULT_WORLD (R123): the reader is the secure core, which serves the ports (log entry 101). -/
def bindViolation (w : World) (a n : Nat) (s : State) : State :=
  match bindStop s w a n with
  | some x => match memCheck s w 0 .read x 4 with
    | .no .faultWorld cause => violation 0 .read cause x s
    | _ => s
  | none => s

/-- The command's world may create from the template, so that its bindings are read (Table 5.9, checks 3 and 4). -/
def bindsAsked (s : State) (w : World) (ti axisB : Nat) : Bool :=
  match s.img.templates[ti]? with
  | some t => decide (w = .S) || (t.anyWorld && decide (axisB = 0xFF))
  | none => false

/-- What stands for the bindings of an NBIND above 32, which Table 5.4 does not admit: one that breaks R145, number 0 (log entry 102). -/
def bindsTooMany : List Binding := [{ stage := 0xFE, item := 0, banks := 0, zero := 1, value := 0 }]

/-- CREATE on a port (Table 5.9). -/
def createBody (c : ChnCall) (m : Mode) (s : State) : Ans × State :=
  if m.isLockout || (m.isBoot && decide (c.port ≠ 0)) then ({ result := rMode, reason := 0x01 }, s)
  else if s.sys.switching then ({ result := rBusy, reason := 0x02 }, s)
  else
    let w := callWorld c
    let ti := getf c.w[0] 0 8
    let axisB := getf c.w[0] 8 8
    let nb := getf c.w[0] 16 8
    let s := if nb ≤ 32 ∧ bindsAsked s w ti axisB then eccFetches c.w[1].toNat (2 * nb) s else s
    let binds := if nb > 32 then some bindsTooMany else readBinds s w c.w[1].toNat nb
    match createPlan s w ti axisB (getb c.w[0] 24) binds [] with
    | .error a => (a, if binds.isNone && bindsAsked s w ti axisB then bindViolation w c.w[1].toNat (2 * nb) s else s)
    | .ok p =>
      let s := createDo p 0 s
      (okAns s p.slot, s)

/-! ### LMEM words of a stage -/

/-- Address of state word k of a record. -/
def stAddr (r k : Nat) : Nat := recAddr r + 0x40 + 4 * k
/-- State word k of a record. -/
def stWord (s : State) (r k : Nat) : Word := memWord s.mem (stAddr r k)
/-- Write state word k of a record. -/
def setSt (r k : Nat) (w : Word) (s : State) : State := { s with mem := memSetWord s.mem (stAddr r k) w }
/-- Bank word k of a record in bank A or B. -/
def bankWord (s : State) (r : Nat) (bankB : Bool) (k : Nat) : Word := memWord s.mem (recAddr r + (if bankB then 0x20 else 0) + 4 * k)
/-- The record of a stage of a slot. -/
def recOf (c : Slot) (stage : Nat) : Nat := c.recs.getD stage 0

/-- Shift of Q word k: bits [5k+4:5k] of word 7, two's complement (R170). -/
def qShift (w7 : Word) (k : Nat) : Int := let v := getf w7 (5 * k) 5; if v < 16 then (v : Int) else (v : Int) - 32

/-- Mul(x, C, s): x times C times 2^(s-31), ties to even, before saturation (R171). -/
def mulQ (x : Int) (c : Word) (sh : Int) : Int := rneShift (x * sInt c) (31 - sh)

/-- Count a saturation in STATUS of a record and in LE_SATTOTAL (R173, R174). -/
def countSat (r : Nat) (s : State) : State :=
  let w := stWord s r 7
  let s := setSt r 7 ((w &&& 0xFFFF0000#32) ||| fld (incSat 65535 (getf w 0 16)) 0 16) s
  { s with le := { s.le with satTotal := incSat 4294967295 s.le.satTotal } }

/-! ### Capture records (R238-R240) -/

/-- Record length of a capture unit in words. -/
def CapUnit.recLen (u : CapUnit) : Nat := u.taps.length + (if u.stamp then 1 else 0)
/-- Records that its buffer holds. -/
def CapUnit.room (u : CapUnit) : Nat := u.len / u.recLen

/-- The trigger condition of a recorded sample (R238). -/
def CapUnit.met (u : CapUnit) (r : CapRec) : Bool :=
  match u.trig with
  | 0 => true
  | 1 => if u.dir then decide (r.y < u.level) else decide (r.y > u.level)
  | 2 => match u.prevY with
    | none => false
    | some p => if u.dir then decide (p ≥ u.level) && decide (r.y < u.level) else decide (p ≤ u.level) && decide (r.y > u.level)
  | 3 => r.fault
  | _ => r.inj

/-- Word index at which the next record is written. -/
def CapUnit.nextWord (u : CapUnit) : Nat := u.buf + u.written % u.room * u.recLen

/-- A unit after it has written a record (R238). -/
def CapUnit.wrote (r : CapRec) (u : CapUnit) : CapUnit :=
  let v := { u with rec_ := none, written := u.written + 1, prevY := some r.y }
  if u.st = 1 then
    (if u.met r then
      let post := u.room - u.pre - 1
      { v with st := if post = 0 then 3 else 2, fin := if post = 0 then 1 else 0, trigWord := u.nextWord, post := post }
    else v)
  else if u.post ≤ 1 then { v with st := 3, fin := 1, post := 0 } else { v with post := u.post - 1 }

/-- The record that a unit holds is written to capture RAM (R238, R239). -/
def capCommit (k : Fin 4) (s : State) : State :=
  let u := s.cap[k]
  match u.rec_ with
  | none => s
  | some r =>
    let s := memPut (0x20100000 + 4 * u.nextWord) (r.words.flatMap wordBytes) s
    { s with cap := vmod s.cap k (CapUnit.wrote r) }

/-- The units that serve a slot write the records they hold. -/
def capCommitSlot (i : Fin 256) (s : State) : State :=
  (fins 4).foldl (fun (s : State) (k : Fin 4) => if s.cap[k].slot = i ∧ (s.cap[k].st = 1 ∨ s.cap[k].st = 2) then capCommit k s else s) s

/-- A capture unit that is ARMED or TRIGGERED ends with END 2, because its channel ends or the Loop Engine domain powers down (R240). -/
def CapUnit.ended (u : CapUnit) : CapUnit := if u.st = 1 ∨ u.st = 2 then { u with st := 4, fin := 2, rec_ := none } else u

/-- A capture unit of a channel that ends. -/
def CapUnit.endChannel (i : Fin 256) (u : CapUnit) : CapUnit := if u.slot = i then u.ended else u

/-- The capture units of a slot end with it, the record being read written first (R240, R245). -/
def capEnd (i : Fin 256) (s : State) : State :=
  let s := capCommitSlot i s
  { s with cap := s.cap.map (CapUnit.endChannel i) }

/-! ### Board words (R180) -/

/-- Set or clear CONFLICT, STATUS bit 20, of an XFER stage (R173, R180). -/
def setConflict (on : Bool) (w : RecOwner) (s : State) : State :=
  let r := recOf s.chn.slots[w.slot] w.stage
  setSt r 7 (if on then stWord s r 7 ||| 0x100000#32 else stWord s r 7 &&& ~~~0x100000#32) s

/-- Two live channels write a word. -/
def twoWriters (l : List RecOwner) : Bool := l.any fun a => l.any fun b => decide (a.slot ≠ b.slot)

/-- A slot that goes FREE no longer writes board words: CONFLICT clears where one channel is left (R180). -/
def boardDrop (i : Fin 256) (s : State) : State :=
  (fins 64).foldl (fun (s : State) (n : Fin 64) =>
    let l := s.le.boardBy[n]
    if l.any fun w => decide (w.slot = i) then
      let rest := l.filter fun w => decide (w.slot ≠ i)
      let s := { s with le := { s.le with boardBy := s.le.boardBy.set n rest } }
      if twoWriters rest then s else rest.foldl (fun s w => setConflict false w s) s
    else s) s

/-! ### Freeing a slot (R138, R147, R180, R240) -/

/-- Release the records and resources of a slot: it goes FREE, GEN increments, its records are free, its power grant returns, its
board words have no writer, its capture units stop (R138, R147, R240). Its field outputs and fans take their idle states. -/
def freeSlot (i : Fin 256) (s : State) : State :=
  let s := boardDrop i (capEnd i s)
  let c := s.chn.slots[i]
  let s := fieldsFree c.fos c.fns (s.modSlot i fun c => { gen := genNext c.gen })
  { s with
    le := { s.le with
      owners := c.recs.foldl (fun o r => kvDel r o) s.le.owners
      queue := s.le.queue.filter (· ≠ i)
      lanes := s.le.lanes.map fun l => { l with work := l.work.filter (· ≠ i) } } }

/-! ### Bank swap (R183, R184, R187, R188) -/

/-- The integer I for which Mul(I, Ko_new) is nearest to a value: the quotient and its neighbours are compared (R184). Of several that are equally
near the floor of the quotient is taken, and one that fits a word before one that does not (log entry 113). -/
def nearestI (v : Int) (ko : Word) (sh : Int) : Int :=
  let d := sInt ko
  -- I = v * 2^(31-sh) / ko
  let e := 31 - sh
  let num := if e ≥ 0 then v * 2 ^ e.toNat else v
  let den := if e ≥ 0 then d else d * 2 ^ (-e).toNat
  let q := if den < 0 then (-num) / (-den) else num / den
  let err (i : Int) : Nat := mag (mulQ i ko sh - v)
  let b := [q - 1, q, q + 1].foldl (fun b i => if err i < err b then i else b) q
  if err (sat32 b) ≤ err b then sat32 b else b

/-- The bumpless rescaling of one INT stage (R184, R188). -/
def rescaleInt (c : Slot) (t : Template) (j : Nat) (s : State) : State :=
  let d := t.stages.getD j {}
  if d.type ≠ .int then s
  else
    let r := recOf c j
    let i := sInt (stWord s r 0)
    let w7o := bankWord s r c.bankB 7
    let w7n := bankWord s r (!c.bankB) 7
    let kn := bankWord s r (!c.bankB) 1
    if kn = 0 then countSat r s
    else
      let v := sat32 (mulQ i (bankWord s r c.bankB 1) (qShift w7o 1))
      let raw := nearestI v kn (qShift w7n 1)
      let s := if sat32 raw ≠ raw then countSat r s else s
      let i1 := sat32 raw
      let i2 := if d.opt % 4 = 2 then clampI (sInt (bankWord s r (!c.bankB) 2)) (sInt (bankWord s r (!c.bankB) 3)) i1 else i1
      setSt r 0 (toW i2) s

/-- BANK_SWAP: the inactive bank becomes active for every stage of the channel; bumpless when MODE is 1, or 0 with the template's
flag (R183, R184). -/
def bankSwap (i : Fin 256) (mode : Nat) (s : State) : State :=
  let c := s.chn.slots[i]
  let t := slotTemplate s c
  let s := if mode = 1 ∨ (mode = 0 ∧ t.bumpless) then
      (List.range t.stages.length).foldl (fun s j => rescaleInt c t j s) s
    else s
  s.modSlot i fun c => { c with bankB := !c.bankB, swapPend := none }

/-! ### Commands by state (Table 5.6) -/

/-- ARM (R168): state zeroed, counters cleared, ARMED. -/
def armDo (i : Fin 256) (s : State) : State :=
  let c := s.chn.slots[i]
  (c.recs.foldl (fun s r => memPut (recAddr r + 0x40) (List.replicate 32 0) s) s).modSlot i fun c => { c with st := .armed, plCnt := 0, feTimer := 0, seen := [] }

def armBody (c : ChnCall) (m : Mode) (s : State) : Ans × State :=
  match handleCheck m s opArm c fun x => decide (x.st = .created) with
  | .error a => (a, s)
  | .ok i => let s := armDo i s; (okAns s i, s)

/-- HOLD: RUNNING goes HELD at its next boundary, and a pending START is overruled there (R147, R153). -/
def holdDo (i : Fin 256) (s : State) : State :=
  s.modSlot i fun c => { c with holdPend := c.holdPend || decide (c.st = .running) || c.startPend }

def holdBody (c : ChnCall) (m : Mode) (s : State) : Ans × State :=
  match handleCheck m s opHold c fun x => decide (x.st ≠ .draining) with
  | .error a => (a, s)
  | .ok i => let s := holdDo i s; (okAns s i, s)

/-- RELEASE: FAULTED goes HELD; FAULT keeps its last value (R229). -/
def releaseBody (c : ChnCall) (m : Mode) (s : State) : Ans × State :=
  match handleCheck m s opRelease c fun x => decide (x.st = .faulted) with
  | .error a => (a, s)
  | .ok i => let s := s.modSlot i fun x => { x with st := .held }; (okAns s i, s)

/-- SWAP: at completion in CREATED, ARMED and FAULTED, else at the next boundary, the later MODE governing (R185). MODE 3 is no
MODE of Table 5.4 (log entry 34). -/
def swapBody (c : ChnCall) (m : Mode) (s : State) : Ans × State :=
  match handleCheck m s opSwap c fun x => decide (x.st ≠ .draining) with
  | .error a => (a, s)
  | .ok i =>
    let mode := getf c.w[0] 0 2
    if mode = 3 then ({ result := rBadTemplate, reason := 0x12, handle := c.handle, index := 1 }, s)
    else
      let x := s.chn.slots[i]
      let s := if x.st = .running ∨ x.st = .held then s.modSlot i fun x => { x with swapPend := some mode } else bankSwap i mode s
      (okAns s i, s)

/-- The channel of a KEY of the active recipe, none when it is absent or destroyed (R59, R160). -/
def keySlot (s : State) (k : Nat) : Option (Fin 256) :=
  match kvGet k s.sys.keys with
  | some (i, g) => let x := s.chn.slots[i]; if x.st ≠ .free ∧ x.gen = g ∧ ¬x.destroyPend ∧ x.st ≠ .draining then some i else none
  | none => none

/-- The channel that holds a KEY of the active recipe, one whose DESTROY is still pending among them (R144, R160). -/
def keyHeld (s : State) (k : Nat) : Option (Fin 256) :=
  match kvGet k s.sys.keys with
  | some (i, g) => if s.chn.slots[i].st ≠ .free ∧ s.chn.slots[i].gen = g then some i else none
  | none => none

/-- The report of QUERY (Table 5.5). -/
def queryAns (s : State) (i : Fin 256) : Ans :=
  let x := s.chn.slots[i]
  { okAns s i with
    rsp2 := fld x.fault.toNat 0 16 ||| fld x.template 16 8 ||| fld ((x.axis.map Fin.val).getD 0xFF) 24 8
    rsp3 := bit (decide (x.world = .NS)) 0 ||| bit x.swapPend.isSome 1 ||| bit x.destroyPend 2 ||| bit x.bankB 3 |||
      fld x.pstat 4 2 ||| fld x.grant 16 16 }

/-- QUERY by handle, or by KEY with handle 0x0000 (Table 5.4, R160). -/
def queryBody (c : ChnCall) (m : Mode) (s : State) : Ans × State :=
  if c.handle = 0 ∧ modeAllows m opQuery c.port then
    match keyHeld s (getf c.w[0] 0 8) with
    | none => ({}, s)
    | some i => if callWorld c = .NS ∧ s.chn.slots[i].world = .S then ({ result := rWorld, reason := 0x04 }, s) else (queryAns s i, s)
  else match handleCheck m s opQuery c fun _ => true with
    | .error a => (a, s)
    | .ok i => (queryAns s i, s)

/-! ### INJECT (R231, R234) -/

/-- The first command word outside Table 8.3, for a source. -/
def injBadWord (t : Template) (c : ChnCall) : Option Nat :=
  let w1 := c.w[0]
  let stage := getf w1 0 4
  let src := getf w1 4 4
  let c3 := c.w[2].toNat
  let badW1 := decide (getf w1 8 24 ≠ 0) || !(src ≤ 4 || src == 15) || decide ((t.stages.getD stage {}).type ≠ .inj) || decide (stage ≥ t.stages.length)
  let bad2 := src == 15 && decide (c.w[1] ≠ 0)
  let bad3 := match src with
    | 1 => decide (c3 = 0) || decide (c3 > 65535)
    | 3 => decide (c3 % 65536 < 9) || decide (c3 % 65536 > 23) || decide (c3 / 65536 = 0)
    | 2 | 4 => false
    | _ => decide (c3 ≠ 0)
  let bad4 := match src with | 2 | 3 | 4 => false | _ => decide (c.w[3] ≠ 0)
  let bad5 := (src == 4 && decide (c.w[4] = 0)) || (src == 15 && decide (c.w[4] ≠ 0))
  if badW1 then some 1 else if bad2 then some 2 else if bad3 then some 3 else if bad4 then some 4 else if bad5 then some 5
  else if c.w[5] ≠ 0 then some 6 else if c.w[6] ≠ 0 then some 7 else none

/-- The channel's axis has its tuning limit selected; a channel without an axis passes (R234, R296). -/
def tuneOk (s : State) (x : Slot) : Bool :=
  match x.axis with
  | none => true
  | some n => match axisCfg s n with | some a => tuneSelected a s.saf.siLvl | none => false

/-- INJECT with a source, or with SRC STOP (R234). -/
def injectBody (c : ChnCall) (m : Mode) (s : State) : Ans × State :=
  match handleCheck m s opInject c fun x => decide (x.st = .running) || decide (x.st = .held) with
  | .error a => (a, s)
  | .ok i =>
    let x := s.chn.slots[i]
    let t := slotTemplate s x
    let stage := getf c.w[0] 0 4
    let src := getf c.w[0] 4 4
    match injBadWord t c with
    | some k => ({ result := rBadTemplate, reason := 0x12, handle := c.handle, index := k }, s)
    | none =>
      match kvGet stage x.inj with
      | some j =>
        if src = 15 then
          let s := s.modSlot i fun x => { x with inj := kvSet stage { j with stop := true } x.inj }
          (okAns s i, s)
        else ({ result := rBusy, reason := 0x13, handle := c.handle, index := stage }, s)
      | none =>
        if src = 15 then (okAns s i, s)
        else if !tuneOk s x then ({ result := rSafety, reason := 0x11, handle := c.handle, index := 0 }, s)
        else if (mag (sInt c.w[1]) : Int) > sInt (bankWord s (recOf x stage) x.bankB 0) then
          ({ result := rSafety, reason := 0x11, handle := c.handle, index := 1 }, s)
        else
          let j : Inj := { src := src, amp := sInt c.w[1], c3 := c.w[2], c4 := c.w[3], dur := c.w[4].toNat }
          let s := s.modSlot i fun x => { x with inj := kvSet stage j x.inj }
          (okAns s i, s)

/-! ### CAPTURE (R236, R237) -/

/-- First command word of CAPTURE outside Table 8.6. -/
def capBadWord (t : Template) (c : ChnCall) : Option Nat :=
  let w1 := c.w[0]
  let n := t.stages.length
  let ntap := getf w1 4 3
  let trig := getf w1 8 4
  let rl := ntap + 1 + (if getb w1 13 then 1 else 0)
  let buf := c.w[2].toNat
  let len := c.w[3].toNat
  let bad1 := !(trig ≤ 4) || decide (getf w1 16 4 ≥ n) || decide (getf w1 20 12 = 0) || getb w1 2 || getb w1 3 || getb w1 7 || getf w1 14 2 != 0
  let bad2 := (List.range (ntap + 1)).any (fun k => decide (getf c.w[1] (4 * k) 4 ≥ n)) || decide (c.w[1].toNat ≥ 2 ^ (4 * (ntap + 1)))
  if bad1 then some 1 else if bad2 then some 2 else if buf > 65535 then some 3
  else if len = 0 ∨ len % rl ≠ 0 ∨ buf + len > 65536 then some 4
  else if trig ≠ 1 ∧ trig ≠ 2 ∧ c.w[4] ≠ 0 then some 5
  else if c.w[5].toNat > len / rl - 1 then some 6 else if c.w[6] ≠ 0 then some 7 else none

/-- Every word of a buffer of capture RAM is writable by a world (R119, R237). -/
def bufWritable (s : State) (w : World) (buf len : Nat) : Bool :=
  (List.range len).all fun k => rgnWritable s w (0x20100000 + 4 * (buf + k))

/-- CAPTURE with a trigger (R237, R238). -/
def captureBody (c : ChnCall) (m : Mode) (s : State) : Ans × State :=
  match handleCheck m s opCapture c fun x => decide (x.st ≠ .draining) with
  | .error a => (a, s)
  | .ok i =>
    let x := s.chn.slots[i]
    let w1 := c.w[0]
    let unit : Fin 4 := Fin.ofNat 4 (getf w1 0 2)
    match capBadWord (slotTemplate s x) c with
    | some k => ({ result := rBadTemplate, reason := 0x12, handle := c.handle, index := k }, s)
    | none =>
      let buf := c.w[2].toNat
      let len := c.w[3].toNat
      if !bufWritable s x.world buf len then ({ result := rWorld, reason := 0x04, handle := c.handle }, s)
      else
        let busy (u : CapUnit) : Bool := decide (u.st = 1) || decide (u.st = 2)
        let clash := (fins 4).find? fun (k : Fin 4) =>
          let u := s.cap[k]
          busy u && (decide (k = unit) || (decide (u.buf < buf + len) && decide (buf < u.buf + u.len)))
        match clash with
        | some k => ({ result := rResource, reason := 0x07, handle := c.handle, index := s.cap[k].slot.val }, s)
        | none =>
          let u : CapUnit := {
            st := 1, ie := s.cap[unit].ie, slot := i, ns := decide (x.world = .NS), trig := getf w1 8 4, dir := getb w1 12
            stamp := getb w1 13, tstage := getf w1 16 4, dec := getf w1 20 12
            taps := (List.range (getf w1 4 3 + 1)).map fun k => getf c.w[1] (4 * k) 4
            buf := buf, len := len, level := sInt c.w[4], pre := c.w[5].toNat }
          let s := { s with cap := s.cap.set unit { u with ie := false } }
          (okAns s i, s)

/-- CAPTURE with TRIG 0xF: ends an ARMED or TRIGGERED unit of the same channel with END 3; a unit already ended accepts it as OK
(R237). A unit that serves another channel is in use (log entry 35). -/
def captureStopBody (c : ChnCall) (m : Mode) (s : State) : Ans × State :=
  match handleCheck m s opCapture c fun x => decide (x.st ≠ .draining) with
  | .error a => (a, s)
  | .ok i =>
    let k : Fin 4 := Fin.ofNat 4 (getf c.w[0] 0 2)
    let u := s.cap[k]
    if u.st = 1 ∨ u.st = 2 then
      if u.slot = i then
        let s := { s with cap := s.cap.set k { u with st := 4, fin := 3 } }
        (okAns s i, s)
      else ({ result := rResource, reason := 0x07, handle := c.handle, index := u.slot.val }, s)
    else (okAns s i, s)

end Sys2Proof.Machine
end

