-- ==== Sys2Proof/Machine/Diagnostics.lean ====
section
/-! DEFINITION. Machine/Diagnostics.lean: the safety monitor's diagnostics, the lockout history and the timing of the reset
press (11_safety_diagnostics_lockout.md, R314-R320, R324, R325, R327, R334). -/
namespace Sys2Proof.Machine
open Sys2Proof

/-- The diagnostics run in every mode except WATCH and BOOT before SELFTEST (R314), while the monitor itself runs. -/
def diagOn (s : State) : Bool :=
  !s.saf.halted && !s.save.coreOff && match s.sys.mode with
    | .watch | .bootPowerup | .bootImage => false
    | _ => true

/-- Whether a cross-check fails: |d1 * 2^16 - ratio * d2| above tol * 2^16 (R316, Q16.16). -/
def xcFails (d1 d2 ratio : Int) (tol : Nat) : Bool := decide (mag (d1 * 65536 - ratio * d2) > tol * 65536)

/-- The sources' present readings of an axis for the cross-check window. -/
def xcNow (c : AxisCfg) (saf : Saf) : Int × Int × Int :=
  (((c.pos1.map (srcVal saf.inc1 saf.abs1)).getD 0), ((c.pos2.map (srcVal saf.inc1 saf.abs1)).getD 0), srcVal saf.inc1 saf.abs1 c.spd)

/-- ENC_CROSSCHECK: a window of XC_WIN ends on an axis; its sources are compared and the next window starts (R316). -/
def encCrosscheck (n : Fin 4) (s : State) : State :=
  if !diagOn s then s
  else match axisCfg s n with
    | none => s
    | some c =>
      let a := s.saf.ax[n]
      let r := xcNow c s.saf
      let d1 := countDiff r.1 a.xcP1
      let d2 := countDiff r.2.1 a.xcP2
      let dv := countDiff r.2.2 a.xcV
      let samePort := match c.pos1 with | some x => decide (x.port = c.spd.port) | none => true
      let f1 := a.xcOn && decide (c.xcRatio ≠ 0) && !samePort && xcFails d1 dv c.xcRatio c.xcTol
      let f2 := a.xcOn && c.pos1.isSome && c.pos2.isSome && xcFails d1 d2 c.xc2Ratio c.xc2Tol
      let s := s.modAxis n fun a => { a with xcOn := true, xcP1 := r.1, xcP2 := r.2.1, xcV := r.2.2 }
      if f1 || f2 then raise cEncCrosscheck (BitVec.ofNat 8 n) 0 s else s

/-- TEST_PULSE_START: TOj goes low for TP_WIDTH; the pulses of different TOs never overlap (R317). -/
def testPulseStart (j : Fin 4) (s : State) : State :=
  if diagOn s && s.saf.toPulse.isNone then
    { s with saf := { s.saf with toPulse := some j, toOut := clear4 s.saf.toOut (BitVec.ofNat 4 (2 ^ j.val)) } }
  else s

/-- The first safe input whose reading within the pulse of TOj fails (R317): one assigned to TOj that reads high, or one assigned to another TO
that reads low. An input that is at its demand level anyway gives no result in the pulse of another TO (log entry 31). -/
def pulseFails (s : State) (j : Fin 4) (levels : BitVec 16) : Option (Fin 16) :=
  (fins 16).find? fun (k : Fin 16) => match s.img.safeIo.tpMap[k] with
    | none => false
    | some i => if i = j then levels.getLsbD k else s.saf.siLvl.getLsbD k && !levels.getLsbD k

/-- TEST_PULSE_END: the pulse ends; `levels` are the inputs' readings within it (R317). -/
def testPulseEnd (levels : BitVec 16) (s : State) : State :=
  match s.saf.toPulse with
  | none => s
  | some j =>
    let s := { s with saf := { s.saf with toPulse := none, toOut := 0xF, toAfter := some (j, s.now) } }
    match pulseFails s j levels with
    | some k => raise cSiTestpulse (BitVec.ofNat 8 k) (fld j.val 0 8) s
    | none => s

/-- The fault code of an output test (R319). -/
def outCode : OutTest → Code
  | .so _ => cOffpulseSo
  | .bk _ _ => cOffpulseBk

/-- UNIT of an output test: its number. -/
def outUnit : OutTest → BitVec 8
  | .so k => BitVec.ofNat 8 k
  | .bk k _ => BitVec.ofNat 8 k

/-- DETAIL of a failed output test: output and test (R319; the encoding is the model's, log entry 32): number in [7:0], low side in
[8], on-pulse in [9]. -/
def outDetail (o : OutTest) (onp : Bool) : Word :=
  match o with
  | .so k => fld k.val 0 8 ||| bit onp 9
  | .bk k low => fld k.val 0 8 ||| bit low 8 ||| bit onp 9

/-- A brake output is being applied: its axis is BRAKING (R334, Table 10.3, log entry 33). -/
def brakeStopping (s : State) (k : Fin 4) : Bool :=
  (fins 4).any fun (n : Fin 4) => match axisCfg s n with
    | some c => c.brakes.getLsbD k && decide (s.saf.ax[n].st = .braking)
    | none => false

/-- OFF_PULSE_START: an output that is on is turned off for OP_WIDTH; one output at a time, the two switches of a pair in
alternate intervals, and none on a brake that is being applied (R318, R334). -/
def offPulseStart (o : OutTest) (s : State) : State :=
  let due := match o with
    | .so _ => true
    | .bk k low => (s.saf.bkAlt.getLsbD k == low) && !brakeStopping s k
  if diagOn s && s.saf.offPulse.isNone && s.saf.onPulse.isNone && outOn s o && due then
    { s with saf := { s.saf with offPulse := some o } }
  else s

/-- The next interval tests the other switch of a pair (R318). -/
def bkAltNext (o : OutTest) (saf : Saf) : Saf :=
  match o with
  | .so _ => saf
  | .bk k _ => { saf with bkAlt := saf.bkAlt ^^^ BitVec.ofNat 4 (2 ^ k.val) }

/-- OFF_PULSE_END: the pulse ends; unless the output was commanded off meanwhile, when the same test is repeated at the next interval
(R320), the read-back must have fallen below 4 V (R318). -/
def offPulseEnd (readLow : Bool) (s : State) : State :=
  match s.saf.offPulse with
  | none => s
  | some o =>
    let s := { s with saf := { s.saf with offPulse := none } }
    if outOn s o then
      let s := { s with saf := bkAltNext o s.saf }
      if readLow then s else raise (outCode o) (outUnit o) (outDetail o false) s
    else s

/-- The ONP_EN bit of an output (Table 11.6). -/
def onpEnabled (s : State) : OutTest → Bool
  | .so k => s.img.safeIo.onpEn.getLsbD k
  | .bk k _ => s.img.safeIo.onpEn.getLsbD (4 + k.val)

/-- ON_PULSE_START: an output that is off, with ONP_EN set, is turned on for 150 microseconds; only one switch of a pair (R319). A
sag gates the drivers (R528). -/
def onPulseStart (o : OutTest) (s : State) : State :=
  let pairOff := match o with | .so _ => true | .bk k low => !outOn s (.bk k (!low))
  if diagOn s && s.saf.offPulse.isNone && s.saf.onPulse.isNone && !outOn s o && onpEnabled s o && pairOff && !s.save.active then
    { s with saf := { s.saf with onPulse := some o } }
  else s

/-- ON_PULSE_END: the pulse ends; unless the output was commanded on meanwhile (R320), the read-back must have followed (R319). -/
def onPulseEnd (readOk : Bool) (s : State) : State :=
  match s.saf.onPulse with
  | none => s
  | some o =>
    let s := { s with saf := { s.saf with onPulse := none } }
    if !outOn s o && !readOk then raise (outCode o) (outUnit o) (outDetail o true) s else s

/-- SM_LOCKSTEP: a mismatch raises SM_LOCKSTEP; a second one after a granted reset and before the next power cycle raises
LOCKSTEP_REPEAT (R315, R324). -/
def smLockstep (s : State) : State :=
  if !diagOn s then s
  else
    let code := if s.saf.lockstepSeen then cLockstepRepeat else cSmLockstep
    raise code 0xFF 0 { s with saf := { s.saf with lockstepSeen := true } }

/-- A number of corrected single-bit errors, and perhaps an uncorrectable one (R315). -/
def smEcc (corrected : Nat) (bad : Bool) (s : State) : State :=
  let s := { s with saf := { s.saf with smEcc := satNat 65535 (s.saf.smEcc + corrected) } }
  if bad then raise cSmRamEcc 0xFF 0 s else s

/-- SM_RAM_ECC: an access to the monitor's SRAM meets a single-bit error or an uncorrectable one (R315). -/
def smRamEcc (corrected : Bool) (s : State) : State :=
  if diagOn s then smEcc (if corrected then 1 else 0) (!corrected) s else s

/-- SM_RAM_SCRUB: the full scrub of every second (Table 11.1, R315). -/
def smRamScrub (corrected : Nat) (bad : Bool) (s : State) : State := if diagOn s then smEcc corrected bad s else s

/-- SM_ROM_CHECK: the ROM signature and the parameter copy's CRC-32C (R315). -/
def smRomCheck (romOk crcOk : Bool) (s : State) : State :=
  if diagOn s && !(romOk && crcOk) then raise cSmRamEcc 0xFF 1 s else s

/-- BRAKE_DRIVER_WATCHDOG: after a fault of the monitor itself the brake drivers fall off without a command (R324). -/
def brakeDriverWatchdog (s : State) : State := if s.saf.halted then applyBrakes 0xF s else s

/-! ### History (Table 11.4) -/

/-- Base of the history ring in the Chest window (R327). -/
def histBase : Nat := 0x30003000

/-- The SEQ of history entry i, when its CRC holds (R327). -/
def histSeq (m : List Host.Cell) (i : Nat) : Option Nat :=
  let a := histBase + 32 * i
  if crc32c (memBytes m a 28) = memWord m (a + 28) then some (memWord m a).toNat else none

/-- The newest entry: its index and SEQ (R327). -/
def histNewest (m : List Host.Cell) : Option (Nat × Nat) :=
  (List.range 64).foldl (fun (b : Option (Nat × Nat)) (i : Nat) => match histSeq m i, b with
    | some q, none => some (i, q)
    | some q, some (j, r) => if q > r then some (i, q) else some (j, r)
    | none, b => b) none

/-- SAF_LKHIST.NEXT: the entry index written next. -/
def histNext64 (m : List Host.Cell) : Nat := match histNewest m with | some (i, _) => (i + 1) % 64 | none => 0

/-- SAF_LKHIST.WRAPPED: the ring has wrapped, so the entry written next already holds one. -/
def histWrapped (m : List Host.Cell) : Bool := (histSeq m (histNext64 m)).isSome

/-- Bytes 0x00-0x1B of an entry. -/
def histBytes (seq : Nat) (e : HistEntry) : List Byte :=
  leBytes 4 seq ++ leBytes 4 e.rtcS.toNat ++ leBytes 2 e.rtcMs ++ leBytes 2 e.code.toNat ++
    [BitVec.ofNat 8 e.kind, e.mode, e.unit, 0] ++ leBytes 4 e.safetyId.toNat ++ leBytes 4 e.hours.toNat ++ leBytes 4 e.detail.toNat

/-- Write one entry to the ring, with the next SEQ and its CRC (R327). -/
def histStore (e : HistEntry) (s : State) : State :=
  let seq := match histNewest s.mem with | some (_, q) => q + 1 | none => 1
  let b := histBytes seq e
  memPut (histBase + 32 * histNext64 s.mem) (b ++ wordBytes (crc32c b)) s

/-- HISTORY_WRITE: the oldest pending entry is written to the Chest ring (R327). -/
def historyWrite (s : State) : State :=
  match s.saf.hist with
  | [] => s
  | e :: rest => histStore e { s with saf := { s.saf with hist := rest } }

/-! ### The press (R325) -/

/-- LKRST_PRESS_BEGIN: the filtered LKRST_N goes low, or has first been high for 20 ms. A low level starts a press only in
LOCKOUT.FAULT and only after such a high level (R325). -/
def lkrstPressBegin (low : Bool) (s : State) : State :=
  if low then
    let counts := s.saf.pressArmed && decide (s.sys.mode = .lockoutFault)
    { s with saf := { s.saf with lkrst := false, pressArmed := false, pressAt := if counts then some s.now else none } }
  else { s with saf := { s.saf with lkrst := true, pressArmed := true } }

/-! ### Meanings -/

def execEncCrosscheck (n : Fin 4) (s : State) : Res := .next (encCrosscheck n s)
def execTestPulseStart (j : Fin 4) (s : State) : Res := .next (testPulseStart j s)
def execTestPulseEnd (l : BitVec 16) (s : State) : Res := .next (testPulseEnd l s)
def execOffPulseStart (o : OutTest) (s : State) : Res := .next (offPulseStart o s)
def execOffPulseEnd (r : Bool) (s : State) : Res := .next (offPulseEnd r s)
def execOnPulseStart (o : OutTest) (s : State) : Res := .next (onPulseStart o s)
def execOnPulseEnd (r : Bool) (s : State) : Res := .next (onPulseEnd r s)
def execSmLockstep (s : State) : Res := .next (smLockstep s)
def execSmRamEcc (c : Bool) (s : State) : Res := .next (smRamEcc c s)
def execSmRamScrub (c : Nat) (b : Bool) (s : State) : Res := .next (smRamScrub c b s)
def execSmRomCheck (r c : Bool) (s : State) : Res := .next (smRomCheck r c s)
def execBrakeDriverWatchdog (s : State) : Res := .next (brakeDriverWatchdog s)
def execHistoryWrite (s : State) : Res := .next (historyWrite s)
def execLkrstPressBegin (low : Bool) (s : State) : Res := .next (lkrstPressBegin low s)

end Sys2Proof.Machine
end

