-- ==== Sys2Proof/Machine/RegRead.lean ====
section
/-! DEFINITION. Machine/RegRead.lean: what a read of each peripheral register returns (24_register_reference.md, Tables
24.3-24.7, and the register tables of each chapter), and the interrupt sources of the application core (Table 24.8). -/
namespace Sys2Proof.Machine
open Sys2Proof

/-- A field of w bits at lo whose value may be too wide for it: a free value then (log entry 9). -/
def fldx (v lo w : Nat) : Word := fld (Config.shown v w) lo w

/-- Four bytes of counts packed in a word, first at [7:0]. -/
def pack4 (l : List Nat) : Word := fields ((List.range l.length).map fun i => fld (l.getD i 0) (8 * i) 8)

/-- A signed number of w bits at lo. -/
def sfld (v : Int) (lo w : Nat) : Word := fld (v % (2 ^ w : Nat)).toNat lo w

/-- The unit is a TWV900-MN (Table 21.2 GRADE; R15). -/
def isMn (s : State) : Bool := decide (memByte s.mem 0x30000010 ≠ 0x01)

/-! ### SYS, SEC, PMU, CLK (Table 24.3) -/

/-- SYS_MODE (Table 2.2). -/
def sysModeWord (s : State) : Word := fields [
  fld s.sys.mode.code 0 4, fld s.sys.mode.sub 4 4, fld s.sys.recipe 8 4, bit s.sys.rcpValid 12, bit s.sys.switching 13,
  fld s.sys.entry 16 4, fld s.sys.bootsel.toNat 20 2, bit s.sys.dkpresent 22, bit s.sys.testN 23, bit s.trst.adopted 24]

/-- State of a key slot: 0 EMPTY, 1 ACTIVE, 2 REVOKED (Table 3.6, R87). -/
def slotState (s : State) (n : Fin 4) : Nat := if s.otp.revoked.getLsbD n then 2 else if s.otp.hash[n] = 0 then 0 else 1

/-- SYS_BOOTSTAT (Table 3.6, R91). -/
def bootStatWord (s : State) : Word := fields [
  fld s.boot.src 0 2, bit s.boot.fallback 2, bit s.boot.addr4 3, fld s.boot.keySlot 4 2, bit s.boot.locked 6, fld s.boot.cs0Err 8 8,
  fld s.boot.cs1Err 16 8, fld (slotState s 0) 24 2, fld (slotState s 1) 26 2, fld (slotState s 2) 28 2, fld (slotState s 3) 30 2]

def readSys (s : State) (o : Nat) : Option Word :=
  match o with
  | 0x00 => some (sysModeWord s)
  | 0x08 => some 0
  | 0x0C => some (sysModeResWord s)
  | 0x10 => some (bootStatWord s)
  | 0x18 => some s.boot.imgId0
  | 0x1C => some s.boot.imgId1
  | 0x20 => some s.boot.safeId
  | 0x24 => some s.boot.imgTime0
  | 0x28 => some s.boot.imgTime1
  | 0x2C => some s.boot.choxo
  | 0x30 => some s.sec.bwt
  | _ => none

def readSec (s : State) (o : Nat) : Option Word :=
  match o with
  | 0x00 => some s.sec.bwt
  | 0x04 => some (bit s.sec.lock 0)
  | 0x08 => some (fields [fld s.sec.violCount 0 16, fld s.sec.violSafety 16 16])
  | 0x0C => some (fields [fld s.sec.violInit.toNat 0 4, fld s.sec.violKind 4 2, fld s.sec.violCause 6 2, bit s.sec.violValid 8])
  | 0x10 => some s.sec.violAddr
  | 0x14 => some (fields [bit s.otp.secureLock 0, bit s.img.nsDebug 1, bit (!s.sys.testN) 2])
  | _ =>
    if 0x100 ≤ o ∧ o < 0x200 then
      let r := s.sec.rgn[Fin.ofNat 32 ((o - 0x100) / 8)]
      if o % 8 = 0 then some r.base else if o % 8 = 4 then some r.attr else none
    else none

/-- Reset cause as a bit number of PMU_RSTCAUSE. -/
def RstCause.bitNo : RstCause → Nat
  | .powerOn => 0 | .porst => 1 | .rail => 2 | .hotcut => 3 | .maint => 4 | .sagLoss => 5 | .lkrst => 6

/-- The hottest reading held, and its sensor (PMU_TMAX). -/
def tMax (s : State) : Option (Int × Nat) :=
  (List.range 8).foldl (fun (b : Option (Int × Nat)) (i : Nat) =>
    match s.pmu.temp[Fin.ofNat 8 i], b with
    | some t, some (m, k) => if t > m then some (t, i) else some (m, k)
    | some t, none => some (t, i)
    | none, b => b) none

def readPmu (s : State) (o : Nat) : Option Word :=
  match o with
  | 0x00 => some (fields [bit s.pmu.vinLow 0, bit s.pmu.vinOv 1, bit s.pmu.hot 2, bit s.pmu.rtcLost 3])
  | 0x04 => some (fields [fld s.pmu.vin 0 16, fld s.pmu.vinMax 16 16])
  | 0x08 => some (fields [fld s.pmu.pg.toNat 0 4, fld s.pmu.icore 16 12])
  | 0x30 => some (match tMax s with | some (t, k) => fields [sfld t 0 24, fld k 24 3] | none => 0)
  | 0x34 => some (fields [fld 1 s.pmu.cause.bitNo 1, fld s.pmu.railId 8 2])
  | 0x38 => some (fields [fld s.pmu.cfg.vinOv 0 16, bit s.pmu.cfg.vbatFitted 16])
  | 0x3C => some (fields [fld s.pmu.fails 0 8, fld s.pmu.failRail 8 2])
  | _ =>
    if 0x10 ≤ o ∧ o < 0x30 ∧ o % 4 = 0 then
      some (match s.pmu.temp[Fin.ofNat 8 ((o - 0x10) / 4)] with | some t => fields [sfld t 0 24, bit true 24] | none => 0)
    else none

def readClk (s : State) (o : Nat) : Option Word :=
  match o with
  | 0x00 => some (fields [bit s.clk.pllLock 0, bit s.clk.rc 1, bit s.clk.fail 2, bit s.clk.aonFb 4, bit s.clk.rtcInacc 5,
      fld (s.clk.ethRef ||| s.clk.refo).toNat 8 2, fld s.clk.refo.toNat 10 2])
  | 0x04 => some (fields [fld s.clk.cfg.aonSrc 0 2, fld s.clk.cfg.refo.toNat 8 2, sfld s.clk.cfg.trim 16 16])
  | 0x08 => some (fields [sfld s.clk.ppm 0 16, bit s.clk.ppmValid 31])
  | 0x0C => some (pack4 [s.clk.nXsys, s.clk.nAon, s.clk.nEth[0], s.clk.nEth[1]])
  | _ => none

/-! ### FAB, CHN, LE, CAP (Table 24.4) -/

def readFab (s : State) (o : Nat) : Option Word :=
  let p (v : Vector Nat 8) (k : Nat) : Word := pack4 ((v.toList.drop k).take 4)
  match o with
  | 0x00 => some (bit s.fab.settled 8)
  | 0x04 => some (p s.fab.snapFree 0)
  | 0x08 => some (p s.fab.snapFree 4)
  | 0x0C => some (p s.fab.snapFlt 0)
  | 0x10 => some (p s.fab.snapFlt 4)
  | 0x14 => some (fld s.fab.empty.toNat 0 8)
  | 0x18 => some (fld s.fab.pdAbort 0 16)
  | 0x1C => some (fields [fld s.fab.corr 0 16, fld s.fab.uncorr 16 16])
  | _ => none

/-- Whether an initiator owns a port (Table 5.1, R141): the secure core ports 0 and 1, the application core ports 2 and 3; a debug
access counts as the core it is made for. -/
def ownsPort (init : BitVec 4) (w : World) (p : Fin 4) : Bool :=
  if p.val < 2 then decide (init = 0) || (decide (init = 8) && decide (w = .S))
  else decide (init = 1) || (decide (init = 8) && decide (w = .NS))

/-- CHN_SLOTS (R143). -/
def chnSlotsWord (s : State) : Word :=
  let f := slotCount s fun c => decide (c.st = .free)
  let d := slotCount s fun c => decide (c.st = .draining)
  let pend := slotCount s fun c => c.destroyPend
  fields [fld f 0 9, fld d 9 9, fld (256 - f - d) 18 9, bit (decide (d = 0) && decide (pend = 0)) 31]

def readPort (p : Port) (o : Nat) : Option Word :=
  if o % 4 ≠ 0 then none
  else if o < 0x20 then some p.cmd[Fin.ofNat 8 (o / 4)]
  else if o < 0x30 then some p.rsp[Fin.ofNat 4 ((o - 0x20) / 4)]
  else if o = 0x30 then some 0
  else if o = 0x34 then some (fields [bit p.pend 0, bit p.done 1, bit p.collide 2, bit p.ie 8])
  else none

def readChn (s : State) (init : BitVec 4) (w : World) (o : Nat) : Option Word :=
  if o < 0x400 then
    let p : Fin 4 := Fin.ofNat 4 (o / 0x100)
    (readPort s.chn.ports[p] (o % 0x100)).map fun x => if ownsPort init w p then x else 0
  else if o = 0x800 then some (chnSlotsWord s)
  else if o = 0x804 then some (fld (stagesUsed s) 0 12)
  else none

/-- A slot hides its values from a non-secure reader when it is S (Tables 6.6, 7.8). -/
def hiddenSlot (s : State) (w : World) (i : Fin 256) : Bool :=
  decide (s.chn.slots[i].st = .free) || (decide (w = .NS) && decide (s.chn.slots[i].world = .S))

/-- Lanes that evaluate (LE_STAT.LANES). -/
def lanesBusy (s : State) : Nat := packBits (s.le.lanes.toList.map fun l => !l.work.isEmpty)

def readLe (s : State) (w : World) (o : Nat) : Option Word :=
  let lk := s.le.lookSlot
  match o with
  | 0x00 => some (fields [fld (lanesBusy s) 0 4, bit s.le.run 8])
  | 0x04 => some s.le.tick
  | 0x10 => some (fields [fld lk.val 0 8, fld s.le.lookStage 8 4])
  | 0x14 => some (match s.chn.slots[lk].recs[s.le.lookStage]? with
      | some r => if hiddenSlot s w lk then 0 else BitVec.ofNat 32 (recAddr r)
      | none => 0)
  | 0x18 => some (fld s.le.satTotal 0 32)
  | 0x1C => some (fields [fld s.le.expSlot.val 0 8, fld s.le.expStage 8 4, bit s.le.expValid 31])
  | 0x20 => some (fld s.le.tmSel.val 0 8)
  | 0x24 => some (if hiddenSlot s w s.le.tmSel then 0
      else fields [fld s.chn.slots[s.le.tmSel].lateCnt 0 16, fld s.chn.slots[s.le.tmSel].skipCnt 16 16])
  | 0x28 => some (fld s.le.lateTotal 0 32)
  | 0x2C => some (fld s.le.skipTotal 0 32)
  | 0x30 => some (fld (loadSum s true []) 0 32)
  | 0x34 => some (fld (loadSum s false []) 0 32)
  | 0x40 =>
    let hid := decide (w = .NS) && decide (s.chn.slots[s.le.supSlot].st ≠ .free) && decide (s.chn.slots[s.le.supSlot].world = .S)
    some (fields [if hid then 0 else fld s.le.supSlot.val 0 8 ||| fld s.le.supCode.toNat 8 16, bit s.le.supIe 30, bit s.le.supValid 31])
  | _ => if 0x100 ≤ o ∧ o < 0x200 ∧ o % 4 = 0 then some s.le.board[Fin.ofNat 64 ((o - 0x100) / 4)] else none

/-- A capture unit that has served a channel since reset, and an S one, reads 0 to a non-secure reader (R240, Table 8.7). -/
def hiddenUnit (w : World) (u : CapUnit) : Bool := decide (w = .NS) && decide (u.st ≠ 0) && !u.ns

def readCap (s : State) (w : World) (o : Nat) : Option Word :=
  if o ≥ 0x80 then none
  else
    let u := s.cap[Fin.ofNat 4 (o / 0x20)]
    let u := if hiddenUnit w u then {} else u
    match o % 0x20 with
    | 0x00 => some (fields [fld u.st 0 3, fld u.fin 4 3, bit u.gap 8, bit u.ie 9, fld u.slot.val 16 8])
    | 0x04 => some (fld (if u.written > u.room then u.buf + u.written % u.room * u.recLen else u.buf) 0 16)
    | 0x08 => some (fld u.trigWord 0 16)
    | 0x0C => some (fields [fldx (min u.written u.room) 0 16, fld u.gaps 16 16])
    | _ => none

/-! ### DK, SAF, SAVE, AON, CHEST (Table 24.5) -/

def dkBits (s : State) (f : DkProxyBridge → Bool) : Nat := packBits (s.trst.px.toList.map f)

def readDk (s : State) (o : Nat) : Option Word :=
  match o with
  | 0x00 => some (fields [bit s.trst.adopted 0, bit s.trst.sleep 1, bit s.trst.pxB3store 2, fld (dkBits s (·.released)) 4 4,
      fld (dkBits s (·.run)) 8 4, fld (dkBits s (·.bfault)) 12 4, fld (dkBits s (·.ntcWarn)) 16 4, bit s.trst.pxChop 20])
  | 0x04 => some (pack4 (s.trst.up.toList.map UpLane.errs))
  | 0x08 => some (pack4 s.trst.dnErrs.toList)
  | 0x0C => some (fields ((fins 4).map fun (n : Fin 4) => fld s.trst.px[n].flt.toNat (6 * n.val) 6))
  | _ =>
    if 0x10 ≤ o ∧ o < 0x20 ∧ o % 4 = 0 then
      let b := s.trst.px[Fin.ofNat 4 ((o - 0x10) / 4)]
      some (fields [fld b.h 0 12, fldx b.n 16 10])
    else if 0x20 ≤ o ∧ o < 0x30 ∧ o % 4 = 0 then
      let b := s.trst.px[Fin.ofNat 4 ((o - 0x20) / 4)]
      some (fields [sfld b.temp 0 24, bit b.ntcOpen 24, bit b.ntcShort 25])
    else if 0x100 ≤ o ∧ o < 0x180 then
      let n := s.trst.px[Fin.ofNat 4 ((o - 0x100) / 0x20)].snap
      match o % 0x20 with
      | 0x00 => some (fields [fld n.src1.toNat 0 8, bit n.valid1 31])
      | 0x04 => some n.t1
      | 0x08 => some (fields [fld n.src2.toNat 0 8, bit n.valid2 31])
      | 0x0C => some n.t2
      | 0x10 => some (fields [fld n.gates.toNat 0 6, fld n.demand.toNat 6 6])
      | 0x14 => some (fld n.later 0 16)
      | _ => none
    else none

/-- SAF_AXnSTAT (Table 10.6). -/
def axStatWord (s : State) (n : Fin 4) : Word :=
  let a := s.saf.ax[n]
  match axisCfg s n with
  | none => fields [fld a.st.code 0 3, bit a.latch 3, fld a.cause 24 4, fld a.cidx 28 4]
  | some c => fields [
      fld a.st.code 0 3, bit a.latch 3, bit a.nonsafe 4, fld a.slsSelNow.toNat 8 4, fld ((a.gov.map Fin.val).getD 0) 12 2,
      bit (tuneSelected c s.saf.siLvl) 14, bit (homeSelected c s.saf.siLvl) 15, bit a.sdiAct 16, bit a.unver 17,
      bit (match c.bkfbIn with | some k => s.saf.siLvl.getLsbD k | none => false) 18, fld a.cause 24 4, fld a.cidx 28 4]

def readSaf (s : State) (o : Nat) : Option Word :=
  if o < 0x40 then
    let n : Fin 4 := Fin.ofNat 4 (o / 0x10)
    match o % 0x10 with
    | 0x0 => some (axStatWord s n)
    | 0x4 => some (fields [sfld s.saf.ax[n].v 0 16, fld (envField s n) 16 16])
    | 0x8 => some (toW s.saf.ax[n].p)
    | 0xC => some (toW s.saf.ax[n].pStop)
    | _ => none
  else match o with
  | 0x40 => some (fields [fld s.saf.siLvl.toNat 0 16, fld s.saf.siRaw.toNat 16 16])
  | 0x44 => some 0
  | 0x48 => some s.saf.cycle
  | 0x4C => some (pack4 (s.saf.ax.toList.map Axis.rstCnt))
  | 0x50 => some (fields [fld (min 255 s.saf.causes.length) 0 8, bit s.saf.pressAt.isSome 8, fld (causeNeeds s) 12 2, bit s.saf.lkrst 16])
  | 0x54 => some (fields [fld s.saf.lkFirst.toNat 0 16, fld s.saf.lkLast.toNat 16 16])
  | 0x58 => some (fields [fld s.saf.pressShort 0 8, fld s.saf.pressLong 8 8, fld s.saf.pressRefused 16 8])
  | 0x5C => some (fld s.saf.smEcc 0 16)
  | 0x60 => some (fields [fld (histNext64 s.mem) 0 6, bit (histWrapped s.mem) 8])
  | _ => none

def readSave (s : State) (o : Nat) : Option Word :=
  let v := s.save
  match o with
  | 0x00 => some (fields [bit v.ready 0, bit v.cwarn 1, bit v.charge 2, bit v.active 3, fld v.restore 4 3, bit v.newest 8,
      fld v.valid.toNat 9 2])
  | 0x04 => some (fields [fld v.vsave 0 16, fld v.vmin 16 16])
  | 0x08 => some (fields [fld v.capC 0 16, fld v.capDrop 16 16])
  | 0x0C => some v.seq
  | 0x10 => some (fields [fld v.dur 0 16, fld v.energy 16 16])
  | 0x14 => some (fields [fld v.unver.toNat 0 4, fld v.moved.toNat 8 4])
  | 0x18 => some 0
  | 0x1C => some v.homePos
  | 0x20 => some (fields [fld v.homeRes 0 2, fld v.homeAxis.val 4 2])
  | _ => none

def readAon (s : State) (o : Nat) : Option Word :=
  let a := s.aon
  match o with
  | 0x00 => some (fields [fld a.cause 0 4, fld a.index 8 4, bit a.edgeLost 16])
  | 0x04 => some a.samples
  | 0x08 => some (fld a.entries 0 16)
  | 0x0C => some (fields [fld a.aiHit.toNat 0 16, fld a.siHit.toNat 16 16])
  | 0x10 => some a.alarmS
  | 0x14 => some (bit a.alarmEn 0)
  | 0x18 => some (rtcS s)
  | 0x1C => some (fld (rtcMs s) 0 10)
  | _ =>
    if 0x40 ≤ o ∧ o < 0x80 ∧ o % 4 = 0 then
      let n : Fin 16 := Fin.ofNat 16 ((o - 0x40) / 4)
      some (fields [fld a.wval[n] 0 16, bit (a.wout.getLsbD n) 16])
    else none

def readChest (s : State) (o : Nat) : Option Word :=
  if o = 0 then some (fields [bit s.chest.factOk 0, bit s.chest.lifeOk 1])
  else if 0x100 ≤ o ∧ o < 0x300 then
    let p := s.chest.port[Fin.ofNat 2 (o / 0x100 - 1)]
    let k := o % 0x100
    if k < 0x20 ∧ k % 4 = 0 then some p.buf[Fin.ofNat 8 (k / 4)]
    else match k with
      | 0x20 => some (fld p.block 0 5)
      | 0x24 => some (fields [bit p.pend 0, fld p.result 1 2, bit p.collide 3])
      | 0x28 => some 0
      | _ => none
  else none

/-! ### CABW, SPM, HL, ETH, CAN (Table 24.6) -/

def readCabw (s : State) (o : Nat) : Option Word :=
  let c := if isMn s then { ie := s.cab.ie, ansCode := s.cab.ansCode, ansTag := s.cab.ansTag, ansOp := s.cab.ansOp
                            ansValid := s.cab.ansValid, pres := 0 : Cab } else s.cab
  match o with
  | 0x00 => some (fields [fld c.pres 0 2, fld c.fifo.length 4 4, bit c.collide 8, bit c.pend 9, bit c.ie 16, fld c.stShown 24 8])
  | 0x04 => some c.fast
  | 0x08 => some (fields [fld c.fastA 0 16, fld c.fastD 16 16])
  | 0x0C => some 0
  | 0x10 => some (fields [fld c.regOp 0 3, fld c.regTag 8 8])
  | 0x14 => some c.regArg
  | 0x18 => some (fields [fld c.ansCode 0 8, fld c.ansTag 8 8, fld c.ansOp 16 3, bit c.ansDisp 19, bit c.ansValid 31])
  | _ => if 0x40 ≤ o ∧ o < 0xB0 ∧ o % 4 = 0 then some c.rec_[Fin.ofNat 28 ((o - 0x40) / 4)] else none

def readSpm (s : State) (o : Nat) : Option Word :=
  let p := s.spm
  match o with
  | 0x00 => some (fields [fld p.src 0 2, bit p.loadRed 4, bit p.prefTrip 5, bit p.crit 6, bit p.derate 7, fld p.liftSt 8 3,
      bit p.storeOk 11, fld p.msrc 12 2])
  | 0x04 => some (fields [fld p.a 0 16, fld p.raw 16 16])
  | 0x08 => some (fields [fldx p.total 0 16, fldx p.p0min 16 16])
  | 0x0C => some (fld p.hostBud 0 16)
  | 0x10 => some p.hostMass
  | 0x14 => some (fields [fldx p.storeV 0 16, fld p.soc 16 10])
  | 0x18 => some (fields [fld p.offer 0 16, fld p.req 16 16])
  | 0x1C => some (fld p.remH 0 32)
  | 0x20 => some (fldx p.eAvail 0 32)
  | _ => none

def readHl (s : State) (o : Nat) : Option Word :=
  let h := s.hl
  match o with
  | 0x00 => some (fields [bit h.link 0, bit h.fold0 1, bit h.fold1 2, bit h.droop 3, bit h.backup 4, bit h.cfgErr 5, bit h.dup 6,
      bit h.crit 7, fld h.nodes.toNat 8 8])
  | 0x04 => some (fields [fld h.taken 0 16, fld h.target 16 16])
  | 0x08 => some (fields [fld h.sum 0 16, bit h.settled 16, fld h.mismatch 17 2])
  | 0x0C => some (fields [fld h.b 0 16, fld h.freezes 16 16])
  | 0x10 => some (fields [fld h.crc0 0 8, fld h.crc1 8 8, fld h.folds 16 16])
  | 0x14 => some (fld h.reserve 0 16)
  | _ => none

/-- The maintenance configuration of ETH0 is in force: BOOT was left without a verified image, or section 0x60 is absent (R52,
R454). -/
def maintNet (s : State) : Bool := (!s.boot.loaded && s.sys.mode.isLockout) || (s.boot.loaded && s.img.net.isNone)

def readEth (s : State) (n : Fin 2) (o : Nat) : Option Word :=
  let e := s.net.eth[n]
  match o with
  | 0x00 => some (fields [bit e.link 0, bit (maintNet s && decide (n = 0)) 1, fld (s.net.sess.countP fun x => decide (x.port = n)) 4 3,
      fld (s.net.mb.countP fun x => decide (x.2 = n)) 8 3])
  | 0x04 => some (fld e.drop 0 32)
  | 0x08 => some (fields [fld e.badAuth 0 16, fld e.badReplay 16 16])
  | 0x0C => some (fields [fld e.dmaStatus 0 3, fld e.dmaBytes 16 16])
  | _ => none

def readCan (s : State) (n : Fin 2) (o : Nat) : Option Word :=
  let c := s.can.ctl[n]
  match o with
  | 0x00 => some (fields [bit c.busOff 0, bit (decide (c.tec > 127) || decide (c.rec_ > 127)) 1, fld (min 255 c.tec) 8 8, fld (min 255 c.rec_) 16 8])
  | 0x04 => some (c.tankStale)
  | 0x08 => some (fields [bit c.joyStale 0, fld c.joyCnt 8 8])
  | _ => none

/-! ### FIO, FAN, AIN, ENC, GPIO, SER (Table 24.7) -/

/-- FIO_FOnSTAT (Table 15.8). -/
def foStatWord (s : State) (n : Fin 32) : Word :=
  let o := s.fio.out[n]
  let w := foOwner s n
  fields [fld o.st 0 3, bit o.opened 4, bit o.untested 5, fld o.method 6 2, fld ((w.map Fin.val).getD 0) 8 8, bit w.isSome 16]

def readFio (s : State) (o : Nat) : Option Word :=
  if o < 0x200 then
    let n : Fin 32 := Fin.ofNat 32 (o / 0x10)
    match o % 0x10 with
    | 0x0 => some (foStatWord s n)
    | 0x4 => some (fields [fld s.fio.out[n].i 0 12, fld s.fio.out[n].shorts 16 16])
    | 0x8 => some (fld s.fio.out[n].duty 0 11)
    | _ => none
  else match o with
  | 0x200 => some 0
  | 0x204 => some (fields [fld s.fio.vfo 0 16, bit s.fio.vfoLow 16])
  | 0x208 => some (fields [fld s.fio.evIndex 0 8, fld s.fio.evCode.toNat 8 16, bit s.fio.evIe 30, bit s.fio.evValid 31])
  | _ => none

def FanState.code : FanState → Nat
  | .off => 0 | .spinUp => 1 | .kick => 2 | .running => 3 | .tachLost => 4 | .stall => 5

def readFan (s : State) (o : Nat) : Option Word :=
  if o < 0x80 then
    let f := s.fan[Fin.ofNat 8 (o / 0x10)]
    match o % 0x10 with
    | 0x0 => some (fields [fld f.st.code 0 3, fld f.kicks 4 2, fld f.rpm 16 16])
    | 0x4 => some (fld f.duty 0 11)
    | _ => none
  else none

def readAin (s : State) (o : Nat) : Option Word :=
  if o < 0x40 ∧ o % 4 = 0 then
    let a := s.ain[Fin.ofNat 16 (o / 4)]
    some (fields [fld a.val 0 16, bit a.wb 16, bit a.ovr 17])
  else none

/-- ENC_EPnSTAT (Table 15.8). -/
def encStatWord (e : EncPort) : Word := fields [bit e.err 0, bit e.frame 1, bit e.illegal 2, bit e.overspeed 3, bit e.zseen 4]

def readEnc (s : State) (o : Nat) : Option Word :=
  if o < 0x40 then
    let e := s.enc[Fin.ofNat 4 (o / 0x10)]
    match o % 0x10 with
    | 0x0 => some e.count
    | 0x4 => some e.pos
    | 0x8 => some e.zlat
    | 0xC => some (encStatWord e)
    | _ => none
  else none

def readGpio (s : State) (o : Nat) : Option Word :=
  let g := s.gpio
  match o with
  | 0x00 => some (g.dir.setWidth 32)
  | 0x04 => some (g.out.setWidth 32)
  | 0x08 => some (g.inp.setWidth 32)
  | 0x0C => some (g.rise.setWidth 32)
  | 0x10 => some (g.fall.setWidth 32)
  | 0x14 => some (g.flag.setWidth 32)
  | _ => none

/-- SER_STAT (Table 15.8). -/
def serStatWord (s : State) : Word :=
  fields [bit s.ser.spiBusy 0, bit (decide (s.ser.utx.length ≥ 16)) 1, bit s.ser.urx.isEmpty 2, bit s.ser.i2cBusy 3, bit s.ser.nack 4]

/-- SER registers. An empty receive FIFO has no byte to return: a free value (log entry 42). -/
def readSer (s : State) (o : Nat) : Option Word :=
  match o with
  | 0x00 => some s.ser.spiCtl
  | 0x04 => some s.ser.spiData
  | 0x10 => some s.ser.uartCtl
  | 0x14 => some (match s.ser.urx with | b :: _ => b.setWidth 32 | [] => Config.freeWord s.freeCtr &&& 0xFF#32)
  | 0x20 => some s.ser.i2cCtl
  | 0x24 => some (s.ser.i2cData.setWidth 32)
  | 0x30 => some (serStatWord s)
  | _ => none

/-! ### All blocks -/

/-- The value that a read of a peripheral register returns to an initiator of a world; none where the offset is no register (R626).
Every register has 32 bits and takes aligned accesses only. -/
def regRead (s : State) (init : BitVec 4) (w : World) (blk o : Nat) : Option Word :=
  match blk with
  | 0 => readSys s o
  | 1 => readPmu s o
  | 2 => readClk s o
  | 3 => readSec s o
  | 4 => readFab s o
  | 5 => readChn s init w o
  | 6 => readLe s w o
  | 7 => readDk s o
  | 8 => readSaf s o
  | 9 => readCabw s o
  | 10 => readFio s o
  | 11 => readFan s o
  | 12 => readAin s o
  | 13 => readEnc s o
  | 14 => readSpm s o
  | 15 => readHl s o
  | 16 => readEth s 0 o
  | 17 => readEth s 1 o
  | 18 => readCan s 0 o
  | 19 => readCan s 1 o
  | 20 => readAon s o
  | 21 => readChest s o
  | 22 => readSave s o
  | 23 => readCap s w o
  | 24 => readGpio s o
  | 25 => readSer s o
  | _ => none

/-- What a read does to the block: a read of SER_UARTDATA takes the byte it returns out of the FIFO, a free value is used up. -/
def regReadEffect (blk o : Nat) (s : State) : State :=
  if blk = 25 ∧ o = 0x14 then
    match s.ser.urx with
    | _ :: t => { s with ser := { s.ser with urx := t } }
    | [] => { s with freeCtr := s.freeCtr + 1 }
  else s

/-! ### Interrupt sources of the application core (Table 24.8, R628, R629) -/

/-- A source is asserted. -/
def mirqSource (s : State) (k : Nat) : Bool :=
  match k with
  | 0 => s.chn.ports[2].done && s.chn.ports[2].ie
  | 1 => s.chn.ports[3].done && s.chn.ports[3].ie
  | 2 => s.le.supValid && s.le.supIe
  | 3 | 4 | 5 | 6 => let u := s.cap[Fin.ofNat 4 (k - 3)]; u.ie && (u.st == 3 || u.st == 4) && u.ns
  | 7 => s.cab.ie && (!s.cab.fifo.isEmpty || s.cab.ansValid)
  | 8 => s.fio.evValid && s.fio.evIe
  | 9 => decide (s.gpio.flag ≠ 0)
  | 10 => !s.ser.urx.isEmpty
  | 11 => decide (s.ser.utx.length < 16)
  | 12 => !s.ser.spiBusy
  | 13 => !s.ser.i2cBusy
  | 14 => s.sys.mode.isLockout
  | _ => false

/-- MIRQPEND0. -/
def mirqPend0 (s : State) : Word := BitVec.ofNat 32 (packBits ((List.range 32).map (mirqSource s)))

/-- mip.MEIP: a source is both asserted and enabled (R628). -/
def meip (s : State) : Bool := decide (mirqPend0 s &&& s.sys.mirqEn0 ≠ 0)

end Sys2Proof.Machine
end

