-- ==== Sys2Proof/Machine/FabricTags.lean ====
section
/-! DEFINITION. Machine/FabricTags.lean: the initiators of the fabric, the faults of an access that need no more than its address and the
power domains, the tag books, and the power-down of a domain (04_worlds.md Table 4.1; 07_fabric_and_bench.md R195-R201, R217, R218; R130, R131,
R455, R626). -/
namespace Sys2Proof.Machine
open Sys2Proof

/-! ### Initiators (Tables 4.1, 7.1) -/

/-- Initiator ID. -/
def initId : Initiator → BitVec 4
  | .secureCore => 0 | .appCore => 1 | .safetyMonitor => 2 | .loopEngine => 3 | .dma => 4 | .saveEngine => 5 | .cabWindow => 6
  | .deckImport => 7 | .jtag => 8

/-- The world that a request of an initiator carries (Table 4.1, R110, R131). -/
def initWorld (i : Initiator) (w : World) : World :=
  match i with
  | .secureCore | .safetyMonitor | .saveEngine | .deckImport => .S
  | .appCore | .cabWindow => .NS
  | .loopEngine | .dma | .jtag => w

/-- The pool of an initiator ID; a debug access uses the pool of the core under debug (Table 7.1, R196). -/
def idPool (i : BitVec 4) (w : World) : Fin 8 :=
  match i.toNat with
  | 0 => 0 | 1 => 1 | 2 => 2 | 3 => 3 | 4 => 4 | 5 => 5 | 6 => 6 | 7 => 7
  | _ => match w with | .S => 0 | .NS => 1

/-- Pool of an initiator (Table 7.1). -/
def initPool (i : Initiator) (w : World) : Fin 8 := idPool (initId i) w

/-- The initiator of a core write in a world (Table 4.1). -/
def coreInit (w : World) : BitVec 4 := if w = .S then 0 else 1

/-- The processor cores: secure core, application core, safety monitor (Table 4.1). -/
def isCore (i : BitVec 4) : Bool := decide (i.toNat ≤ 2)

/-- Debug reaches the fabric: NS under NS_DEBUG of the image in force, S while SECURE_LOCK is 0 (R130, R131). -/
def debugOpen (s : State) (w : World) : Bool := match w with | .NS => s.img.nsDebug | .S => !s.otp.secureLock

/-! ### Decode and power (Table 7.2) -/

/-- A board word that hosts and cores may write: an external word set in HOSTWORDS (R453, R455). -/
def hostWord (s : State) (n : Nat) : Bool :=
  decide (32 ≤ n) && (match s.img.net with | some c => c.hostWords.getLsbD (n - 32) | none => false)

/-- Decode faults of an access to a peripheral block: no register there, not one aligned 32-bit word, or a board word that is not
host-writable (R455, R626). -/
def regDecodeFault (s : State) (k : Access) (blk o size : Nat) : Bool :=
  size != 4 || o % 4 != 0 || (regRead s 0 .S blk o).isNone ||
    (decide (k = .write) && blk == 6 && decide (0x100 ≤ o) && !hostWord s ((o - 0x100) / 4))

/-- An access decodes to nothing, or is answered FAULT_DECODE (Table 7.2). -/
def busDecodeFault (s : State) (k : Access) (a size : Nat) : Bool :=
  match target a with
  | .periph b o => regDecodeFault s k b o size
  | _ => memDecodeFault s k a size

/-- An access to or from a domain that is powering down or off (R201). -/
def pdFault (s : State) (init : BitVec 4) (a : Nat) : Bool := domDown s (targetDomain (target a)) || domDown s (initDomain init)

/-- A transaction is refused for power before it takes a tag; a decode fault comes first (R197, R201). -/
def txnRefused (s : State) (t : Txn) : Option Resp :=
  if pdFault s t.init t.addr.toNat then
    some (if busDecodeFault s t.kind t.addr.toNat (min t.size 4) then .faultDecode else .faultPd)
  else none

/-! ### Tags (R195, R196, R199) -/

/-- A response is delivered; a core that receives any other than DONE takes the access-fault exception of its access (R123, R137, R197). -/
def busAnswer (t : Txn) (r : Resp) (words : List Word) (s : State) : State :=
  { s with fab := { s.fab with
      resps := s.fab.resps ++ [(t.id, (r, words))]
      excs := if isCore t.init && decide (r ≠ .done) then s.fab.excs ++ [(t.init, t.kind)] else s.fab.excs } }

/-- The responses and exceptions of the last fabric command are gone. -/
def busFresh (s : State) : State := { s with fab := { s.fab with resps := [], excs := [] } }

/-- The next transaction number. -/
def busNumber (s : State) : State := { s with fab := { s.fab with nextId := s.fab.nextId + 1 } }

/-- Change one pool. -/
def State.modPool (s : State) (p : Fin 8) (f : Pool → Pool) : State := { s with fab := { s.fab with pools := vmod s.fab.pools p f } }

/-- A free tag, and nobody waits for one (R196). -/
def tagFree (s : State) (p : Fin 8) : Bool := decide (0 < s.fab.pools[p].free) && decide (s.fab.pools[p].waiting = [])

/-- A transaction takes its tag. -/
def txnSend (t : Txn) (s : State) : State :=
  let s := s.modPool t.pool fun p => { p with free := p.free - 1 }
  { s with fab := { s.fab with flight := s.fab.flight ++ [t] } }

/-- A request waits for a tag of its pool, behind those that wait already, and FAB_EMPTY is set (R196). -/
def txnWait (t : Txn) (s : State) : State :=
  let s := s.modPool t.pool fun p => { p with waiting := p.waiting ++ [t] }
  { s with fab := { s.fab with empty := s.fab.empty ||| (1#8 <<< t.pool.val) } }

/-- The target has answered: the tag is in return (R199). -/
def txnReturn (t : Txn) (s : State) : State :=
  { s with fab := { s.fab with flight := s.fab.flight.erase t, ret := s.fab.ret ++ [t] } }

/-- A tag in return is back in its pool. -/
def txnBack (t : Txn) (s : State) : State :=
  { s with fab := { s.fab with ret := s.fab.ret.erase t } }.modPool t.pool fun p => { p with free := p.free + 1 }

/-- A transaction that is over within its command: its tag is back in its pool. -/
def txnDone (t : Txn) (s : State) : State :=
  { s with fab := { s.fab with flight := s.fab.flight.erase t } }.modPool t.pool fun p => { p with free := p.free + 1 }

/-- The first waiting requests that power refuses are answered and never issued (R218). -/
def waitPrune (s : State) (l : List Txn) : List Txn := l.dropWhile fun t => (txnRefused s t).isSome

/-- Answer the requests of a list that power refuses. -/
def answerRefused (l : List Txn) (s : State) : State :=
  l.foldl (fun s t => match txnRefused s t with | some c => busAnswer t c [] s | none => s) s

/-- A free tag goes to the first waiting request of its pool (R196). -/
def poolTake (p : Fin 8) (s : State) : State :=
  let l := s.fab.pools[p].waiting
  let keep := waitPrune s l
  let s := answerRefused (l.take (l.length - keep.length)) s
  match keep with
  | [] => s.modPool p fun q => { q with waiting := [] }
  | t :: rest => txnSend t (s.modPool p fun q => { q with waiting := rest })

/-! ### An access within one command -/

/-- What a single access has come to: its response, what it read, and the state; none of them while it waits for a tag. -/
structure BusRun where
  res : Resp := .done
  words : List Word := []
  /-- The request waits for a tag: its transaction number. -/
  waits : Option Nat := none
  s : State

/-- The transaction of one access. -/
def txnMake (init : BitVec 4) (w : World) (k : Access) (a : Word) (size : Nat) (data : List Word) (s : State) : Txn :=
  { id := s.fab.nextId, pool := idPool init w, init := init, world := w, kind := k, addr := a, size := size, data := data }

/-- An access that is issued and answered within one command: refused at once for power, or it takes a tag, is performed while it holds it, and
gives the tag back; without a free tag it waits in its pool and is answered later (R195, R196, R199, R201). -/
def busOnce (t : Txn) (perform : State → BusRun) (s : State) : BusRun :=
  match txnRefused s t with
  | some c => { res := c, s := busAnswer t c [] s }
  | none =>
    if tagFree s t.pool then
      let r := perform (txnSend t s)
      { r with s := txnDone t (busAnswer t r.res (if t.kind = .write then [] else r.words) r.s) }
    else { waits := some t.id, s := txnWait t s }

/-- A write by a core of one register, performed as its block's rule says (R201, R111): a write of a world that may not is a FAULT_WORLD
(R123). -/
def coreRegWrite (w : World) (a : Nat) (may : State → Bool) (v : Word) (f : State → State) (s : State) : State :=
  let t := txnMake (coreInit w) w .write (BitVec.ofNat 32 a) 4 [v] s
  (busOnce t (fun s => if may s then { s := f s } else { res := .faultWorld, s := violation (coreInit w) .write 0 a s }) (busNumber (busFresh s))).s

/-- A core write to a register of a block that follows its world bit (R36, R111). -/
def blockWrite (w : World) (blk ofs : Nat) (v : Word) (f : State → State) (s : State) : State :=
  coreRegWrite w (0x40000000 + 0x10000 * blk + ofs) (fun s => blockWritable s w blk) v f s

/-! ### Power-down of a domain (R201, R216-R218) -/

/-- A transaction of a domain: its initiator or its target lies there (R201). -/
def txnIn (d : Fin 4) (t : Txn) : Bool := decide (initDomain t.init = d) || decide (targetDomain (target t.addr.toNat) = d)

/-- DOMAIN_POWER_DOWN: new requests are answered FAULT_PD from here; waiting requests of initiators of the domain are answered FAULT_PD
(R201, R218). The always-on domain stays on. Capture units end with the Loop Engine domain (R240). -/
def domainPowerDown (d : Fin 4) (s : State) : State :=
  if d = 0 ∨ s.fab.dom[d] ≠ .on then s
  else
    let s := { s with fab := { s.fab with dom := s.fab.dom.set d .quiescing }, cap := if d = 2 then s.cap.map CapUnit.ended else s.cap }
    let gone (t : Txn) : Bool := decide (initDomain t.init = d)
    let s := answerRefused (s.fab.pools.toList.flatMap fun p => p.waiting.filter gone) s
    { s with fab := { s.fab with pools := s.fab.pools.map fun p => { p with waiting := p.waiting.filter fun t => !gone t } } }

end Sys2Proof.Machine
end

