-- ==== Sys2Proof/Machine/HspBase.lean ====
section
/-! DEFINITION. Machine/HspBase.lean: the HSP datagram and what makes it acceptable (R456, R458), and the report of a mode request (R46, R47,
R66). -/
namespace Sys2Proof.Machine
open Sys2Proof

/-! ### The datagram (Table 16.2) -/

/-- SID of a datagram. -/
def hspSid (d : List Byte) : Nat := leAt d 4 4
def hspCtr (d : List Byte) : Nat := leAt d 8 4
def hspOp (d : List Byte) : Nat := leAt d 0xC 1
def hspLen (d : List Byte) : Nat := leAt d 0xE 2
def hspTag (d : List Byte) : Nat := leAt d 0x10 4
/-- KEY: NS. -/
def hspNs (d : List Byte) : Bool := getb (BitVec.ofNat 32 (leAt d 3 1)) 1
def hspPay (d : List Byte) : List Byte := slice d 0x20 (hspLen d)

/-- The layout of a request: its length, MAGIC, VER, FLAGS and the bytes that are 0 (R456). -/
def hspForm (d : List Byte) : Bool :=
  decide (hspLen d ≤ 1024) && decide (d.length = 0x40 + hspLen d) && decide (slice d 0 3 = [0x48, 0x53, 0x01]) &&
    (decide (leAt d 3 1 = 0) || decide (leAt d 3 1 = 2)) && decide (leAt d 0xD 1 = 0) && decide (slice d 0x14 12 = List.replicate 12 0)

/-- HMAC under a key (R456). -/
def hspAuth (key d : List Byte) : Bool := decide (hmac256 key (d.take (0x20 + hspLen d)) = d.drop (0x20 + hspLen d))

/-- A request fails its HMAC, SID or KEY. -/
def badAuth (p : Fin 2) (s : State) : State := s.modEth p fun e => { e with badAuth := incSat 65535 e.badAuth }

/-- A request fails its counter. -/
def badReplay (p : Fin 2) (s : State) : State := s.modEth p fun e => { e with badReplay := incSat 65535 e.badReplay }

/-- The session, HMAC and counter of a request: the session when it is accepted, else the state with the failure counted. -/
def hspAccept (p : Fin 2) (d : List Byte) (s : State) : Except State Session :=
  match sessOf s (hspSid d) with
  | none => .error (badAuth p s)
  | some x =>
    if x.ns ≠ hspNs d ∨ !hspAuth x.key d then .error (badAuth p s)
    else if hspCtr d ≤ x.ctr ∨ x.rctr ≥ 4294967295 then .error (badReplay p s)
    else .ok x

/-- An accepted request advances the counter of its session; the answers go to the port that it came in on (R458). -/
def hspTake (p : Fin 2) (d : List Byte) (x : Session) (s : State) : State := s.modSess x.sid fun y => { y with ctr := hspCtr d, port := p }

/-- The OPs of Table 16.3. -/
def hspOps : List Nat := [0x01, 0x02, 0x10, 0x11, 0x20, 0x21, 0x22, 0x30, 0x31, 0x32, 0x33] ++ (List.range 9).map (0x40 + ·) ++ [0x4F]

/-- A datagram arrives. One of another layout is dropped (R456). One whose OP has a row is handed to it, which judges its HMAC, counter, SID and
KEY; one of another OP is judged here, and where it is good answered BAD_TEMPLATE (R458; log entry 112). -/
def hspArrive (p : Fin 2) (d : List Byte) (s : State) : State :=
  if !hspForm d then ethDrop p s
  else if hspOps.contains (hspOp d) then s.modEth p fun e => { e with rx := d }
  else match hspAccept p d s with
    | .error s' => s'
    | .ok x =>
      let s := hspTake p d x s
      if x.wait.isSome then hspSay x.sid (hspOp d) rBusy (hspTag d) [] s else hspReply x.sid (hspOp d) rBadTemplate (hspTag d) [] s

/-! ### Mode requests (R46, R47, R66) -/

/-- World of a requester. -/
def reqWorld : Requester → World
  | .core w => w
  | .hsp w => w

/-- ACTION codes of SYS_MODEREQ (Table 2.3). -/
def actSelect : Nat := 1
def actWatch : Nat := 2
def actMaint : Nat := 3

/-- A request is taken for checking: ACTION and RCP are filled in and COLLIDE clears. -/
def modeTake (action rcp : Nat) (s : State) : State :=
  { s with sys := { s.sys with resAction := action, resRcp := rcp, resCollide := false } }

/-- A request is refused: RESULT, REASON and INDEX are filled in, PEND is 0, nothing else changes (R47). -/
def modeRefuse (result reason index : Nat) (s : State) : State :=
  hspModeDone { s with sys := { s.sys with resPend := false, resResult := result, resReason := reason, resIndex := index } }

/-- A request is accepted: PEND is 1 until it has been carried out (R47). -/
def modeAccept (s : State) : State := { s with sys := { s.sys with resPend := true } }

/-- A request has been carried out: RESULT OK, REASON NONE, INDEX 0xFF, PEND 0 (R47, Table 2.13). -/
def modeDone (s : State) : State :=
  if s.sys.resPend then
    hspModeDone { s with sys := { s.sys with resPend := false, resResult := rOk, resReason := 0, resIndex := 0xFF } }
  else s

/-- The write to SYS_MODEREQ is a FAULT_WORLD: a non-secure requester while the SYS block is secure (R46). MAINT on an NS session is no such
write: its refusal is reported with REASON 0xA (R61, R62). -/
def modeBarred (by_ : Requester) (action : Nat) (s : State) : Bool :=
  decide (reqWorld by_ = .NS) && !blockWritable s .NS 0 && !(decide (by_ = .hsp .NS) && decide (action = actMaint))

/-- A request while another is pending is refused BUSY and sets COLLIDE (R66); the taker runs otherwise. A FAULT_WORLD is counted and leaves
SYS_MODERES as it is; an HSP session is answered REFUSED_WORLD with it (R46, R123, log entry 43). RCP is shown 0 for ENTER_WATCH and
ENTER_MAINT, whatever the write held there (log entry 96). -/
def modeAsk (by_ : Requester) (action rcp : Nat) (body : State → State) (s : State) : State :=
  let busy := s.sys.resPend
  let collide := { s with sys := { s.sys with resCollide := true } }
  if modeBarred by_ action s then
    match by_ with
    | .core _ => violation 1 .write 0 0x40000008 s
    | .hsp _ => if busy then collide else hspModeAnswer rWorld (violation 4 .write 0 0x40000008 s)
  else if busy then collide
  else body (modeTake action rcp s)

end Sys2Proof.Machine
end

