-- ==== Sys2Proof/Machine/ChestTags.lean ====
section
/-! DEFINITION. Machine/ChestTags.lean: the tag area, its metadata and its write ports, and the lifetime counters
(21_identity_and_tag.md). -/
namespace Sys2Proof.Machine
open Sys2Proof

/-- Bytes from a Chest offset up. -/
def chestBytes (s : State) (ofs n : Nat) : List Byte := memBytes s.mem (0x30000000 + ofs) n

/-- A CRC-32C over n bytes is stored behind them (R328). -/
def crcAt (s : State) (ofs n : Nat) : Bool := decide (leNat (chestBytes s (ofs + n) 4) = (crc32c (chestBytes s ofs n)).toNat)

/-- Write bytes at a Chest offset, and their CRC-32C behind them. -/
def sealAt (ofs : Nat) (bs : List Byte) (s : State) : State :=
  memPut (0x30000000 + ofs) (bs ++ wordBytes (crc32c bs)) s

/-! ### Lifetime counters (Table 21.4) -/

/-- The 64 counter bytes with the pending increments added; every counter saturates. -/
def lifeBytes (b : List Byte) (l : Life) : List Byte :=
  let w4 (o d : Nat) : List Byte := leBytes 4 (satNat 0xFFFFFFFF (leAt b o 4 + d))
  let w8 (o d : Nat) : List Byte := leBytes 8 (satNat 0xFFFFFFFFFFFFFFFF (leAt b o 8 + d))
  w4 0 (l.opUs / 60000000) ++ List.replicate 4 (0 : Byte) ++
    w8 8 l.sw[0] ++ w8 16 l.sw[1] ++ w8 24 l.sw[2] ++ w8 32 l.sw[3] ++
    w4 40 l.bk[0] ++ w4 44 l.bk[1] ++ w4 48 l.bk[2] ++ w4 52 l.bk[3] ++ w4 56 l.sag ++ w4 60 l.boot

/-- The counters are written from the pending increments (R579); what is left of a minute waits on. -/
def lifeFlush (s : State) : State :=
  { sealAt 0x6000 (lifeBytes (chestBytes s 0x6000 64) s.life) s with life := { opUs := s.life.opUs % 60000000 } }

/-- The sag-event count of the Chest. -/
def sagCount (s : State) : Nat := leNat (chestBytes s 0x6038 4)

/-- At reset release: the factory CRC, the lifetime CRC, and the BOOT count; without LIFE_OK the counters restart from 0 (R574,
R579). -/
def chestRelease (s : State) : State :=
  let ok := crcAt s 0x6000 64
  let s1 := if ok then s else sealAt 0x6000 (List.replicate 64 0) s
  let s2 := lifeFlush { s1 with life := { boot := 1 } }
  { s2 with chest := { s2.chest with factOk := crcAt s 0 0xFFC, lifeOk := ok } }

/-- LIFETIME_WRITE (R579). -/
def lifetimeWrite (s : State) : State := if vcoreOn s then lifeFlush s else s

/-! ### Tag metadata (Table 21.3) -/

/-- The segments that read as locked; all of them while the metadata CRC fails (R577, R584). -/
def tagLocks (s : State) : BitVec 8 := if crcAt s 0x2400 12 then memByte s.mem 0x30002404 else 0xFF

/-- Segment of a block: blocks 4n to 4n + 3 (R577). -/
def tagLocked (s : State) (block : Nat) : Bool := (tagLocks s).getLsbD (block / 4)

/-- The locks are set; the rest of the metadata stays. -/
def tagSetLocks (l : BitVec 8) (s : State) : State :=
  sealAt 0x2400 (chestBytes s 0x2400 4 ++ [l] ++ chestBytes s 0x2405 7) s

/-- An accepted write is recorded: TAG_WRITES, LAST_BLOCK, LAST_WORLD and LAST_RTC (R578). -/
def tagRecord (block : Nat) (ns : Bool) (s : State) : State :=
  sealAt 0x2400 (leBytes 4 (satNat 0xFFFFFFFF (leNat (chestBytes s 0x2400 4) + 1)) ++
    [tagLocks s, BitVec.ofNat 8 block, if ns then 1 else 0, 0] ++ wordBytes (rtcS s)) s

/-! ### Tag write ports (R575-R577, R581-R582) -/

/-- Change one tag port. -/
def State.modTag (s : State) (p : Fin 2) (f : TagPort → TagPort) : State :=
  { s with chest := { s.chest with port := vmod s.chest.port p f } }

/-- The world of an initiator that may use a tag port (Table 4.5). -/
def tagWorld (p : Fin 2) : World := if p = 0 then .S else .NS

/-- The Chest takes no new write: a sag is confirmed (R530). -/
def chestClosed (s : State) : Bool := s.save.active || s.save.coreOff

/-- GO on a tag port whose PEND is 0: refused while a sag runs or when the segment is locked, else under way (R575, R577, R582). -/
def tagGo (p : Fin 2) (block : BitVec 5) (ns : Bool) (hsp : Option (Nat × Nat)) (s : State) : State :=
  let s := s.modTag p fun t => { t with block := block.toNat }
  if chestClosed s then s.modTag p fun t => { t with result := 3 }
  else if tagLocked s block.toNat then s.modTag p fun t => { t with result := 2 }
  else
    let s := s.modTag p fun t => { t with pend := true, target := block.toNat, ns := ns, hsp := hsp, order := s.chest.gos }
    { s with chest := { s.chest with gos := s.chest.gos + 1 } }

/-- A write of BLOCK and GO to CHEST_PpTAGCTL by a core; GO while PEND is set is ignored and sets COLLIDE (R575, R576). -/
def tagWrite (p : Fin 2) (w : World) (block : BitVec 5) (s : State) : State :=
  if s.chest.port[p].pend then s.modTag p fun t => { t with collide := true }
  else tagGo p block (decide (w = .NS)) none s

/-- A write to a tag data buffer; while PEND is set it is ignored and sets COLLIDE (R576). -/
def tagBuf (p : Fin 2) (k : Fin 8) (v : Word) (s : State) : State :=
  s.modTag p fun t => if t.pend then { t with collide := true } else { t with buf := t.buf.set k v }

/-- The port served next: the earlier GO (R576). -/
def tagNext (s : State) : Option (Fin 2) :=
  let a := s.chest.port[0]
  let b := s.chest.port[1]
  if a.pend && (!b.pend || decide (a.order ≤ b.order)) then some 0 else if b.pend then some 1 else none

/-- TAG_WRITE_COMPLETE: the 32 bytes of the port served are in the tag area, the metadata follow and RESULT is OK; a waiting HSP TAGWRITE
is answered OK (R575, R578). -/
def tagWriteComplete (s : State) : State :=
  match tagNext s with
  | none => s
  | some p =>
    let t := s.chest.port[p]
    let s := memPut (0x30002000 + 32 * t.target) (t.buf.toList.flatMap wordBytes) s
    let s := tagRecord t.target t.ns s
    let s := s.modTag p fun t => { t with pend := false, result := 1, hsp := none }
    match t.hsp with
    | some (sid, rtag) => hspReply sid 0x33 rOk rtag [] s
    | none => s

/-- A write to CHEST_PpTAGLOCK locks the segments whose bits are 1 (R577). -/
def tagLock (seg : BitVec 8) (s : State) : State := tagSetLocks (tagLocks s ||| seg) s

/-! ### Meanings -/

/-- TAG_WRITE by a core of a world; the other world's write is a FAULT_WORLD (Table 4.5, R575). -/
def execTagWrite (p : Fin 2) (w : World) (block : BitVec 5) (s : State) : Res :=
  .next (coreRegWrite w (0x40150120 + 0x100 * p.val) (fun _ => decide (w = tagWorld p)) (fld block.toNat 0 5 ||| bit true 31) (tagWrite p w block) s)
def execTagWriteComplete (s : State) : Res := .next (tagWriteComplete s)
/-- TAG_LOCK by a core of a world; the other world's write is a FAULT_WORLD (Table 4.5, R577). -/
def execTagLock (p : Fin 2) (w : World) (seg : BitVec 8) (s : State) : Res :=
  .next (coreRegWrite w (0x40150128 + 0x100 * p.val) (fun _ => decide (w = tagWorld p)) (seg.setWidth 32) (tagLock seg) s)
def execLifetimeWrite (s : State) : Res := .next (lifetimeWrite s)

end Sys2Proof.Machine
end

