-- ==== Sys2Proof/Machine/LoopLaws.lean ====
section
/-! DEFINITION. Machine/LoopLaws.lean: the rule of every stage type (06_loop_laws.md R168-R194, Table 6.3; R230-R233, Table 8.4). -/
namespace Sys2Proof.Machine
open Sys2Proof

/-- What a stage reads: its descriptor, active bank and state words, inputs, and the word 6 and STATUS of the stage in LINK. -/
structure StageIn where
  d : StageDesc := {}
  bank : List Word := []
  st : List Word := []
  x0 : Int := 0
  x1 : Int := 0
  /-- The sample is of a RUNNING channel (R167). -/
  run : Bool := false
  /-- Accumulators keep their values: HELD and DRAINING (R168). -/
  frozen : Bool := false
  /-- First evaluation in RUNNING after a START (RAMP INIT). -/
  first : Bool := false
  linkY : Word := 0
  linkStat : Word := 0
  /-- Version and value that an IMPORT latched, and the version it last saw (R167, R179). -/
  lat : Option (Nat × Word) := none
  seen : Option Nat := none
  /-- The injection running on an INJ stage. -/
  inj : Option Inj := none
  /-- The deck's regulated band in codes (HYSC). -/
  band : Nat := 0
deriving DecidableEq, Repr, Inhabited

/-- What an evaluation gives: the output, the state words it writes, and what STATUS records. -/
structure StageEv where
  y : Int := 0
  st : List (Nat × Word) := []
  sat : Bool := false
  ovf : Bool := false
  /-- LIM_HI and LIM_LO of a LIMIT stage. -/
  lim : Option (Bool × Bool) := none
  stale : Option Bool := none
  es : Option Int := none
deriving DecidableEq, Repr, Inhabited

/-- Bank word k. -/
def StageIn.b (a : StageIn) (k : Nat) : Word := a.bank.getD k 0
/-- Bank word k as a signal. -/
def StageIn.bs (a : StageIn) (k : Nat) : Int := sInt (a.b k)
/-- State word k. -/
def StageIn.w (a : StageIn) (k : Nat) : Word := a.st.getD k 0
/-- State word k as a signal. -/
def StageIn.s (a : StageIn) (k : Nat) : Int := sInt (a.w k)
/-- The exact error e = x0 - x1 (R169). -/
def StageIn.e (a : StageIn) : Int := a.x0 - a.x1
/-- Shift of Q word k. -/
def StageIn.q (a : StageIn) (k : Nat) : Int := qShift (a.b 7) k

/-! ### Fixed point (R171) -/

/-- Σ x_i C_i 2^(s_i - 31) + addend, exact, rounded once; not yet saturated. -/
def qSum (terms : List (Int × (Word × Int))) (add : Int) : Int :=
  rneShift (terms.foldl (fun (n : Int) t => n + t.1 * sInt t.2.1 * 2 ^ (t.2.2 + 16).toNat) (add * 2 ^ 47)) 47

/-- An output and whether it saturated (R169, R174). -/
def satOut (raw : Int) : Int × Bool := (sat32 raw, decide (sat32 raw ≠ raw))

/-! ### Hysteretic laws -/

def evHys2 (a : StageIn) : StageEv :=
  let lvl : Word := if a.e > a.bs 0 then 1 else if a.e < -a.bs 0 then 0 else a.w 0
  { y := if lvl = 1 then a.bs 2 else a.bs 1, st := [(0, lvl)] }

def evHys3 (a : StageIn) : StageEv :=
  let lvl : Word :=
    if a.e > a.bs 0 then 1 else if a.e < -a.bs 0 then 2
    else if a.w 0 = 1 ∧ a.e ≤ a.bs 1 then 0
    else if a.w 0 = 2 ∧ a.e ≥ -a.bs 1 then 0 else a.w 0
  { y := if lvl = 1 then a.bs 4 else if lvl = 2 then a.bs 2 else a.bs 3, st := [(0, lvl)] }

/-! ### Accumulators with anti-windup (R181, R182, R168) -/

/-- STOP skips the update (R182). -/
def stopSkips (a : StageIn) (inc : Int) : Bool :=
  let inv := a.d.opt / 4 % 2 == 1
  (getb a.linkStat 17 && (if inv then decide (inc < 0) else decide (inc > 0))) ||
  (getb a.linkStat 18 && (if inv then decide (inc > 0) else decide (inc < 0)))

/-- The accumulator after an increment, and whether it saturated. -/
def accNext (a : StageIn) (acc inc : Int) : Int × Bool :=
  if a.frozen || (a.d.opt % 4 == 1 && stopSkips a inc) then (acc, false)
  else
    let v := satOut (acc + inc)
    (if a.d.opt % 4 = 2 then clampI (a.bs 2) (a.bs 3) v.1 else v.1, v.2)

def evHysi (a : StageIn) : StageEv :=
  let inc : Int := if a.e > a.bs 0 then a.bs 1 else if a.e < -a.bs 0 then -a.bs 1 else 0
  let v := accNext a (a.s 0) inc
  { y := v.1, st := [(0, toW v.1)], sat := v.2 }

/-- INT: the increment is Mul(e, Ki); y is formed with one rounding (log entry 48). -/
def evInt (a : StageIn) : StageEv :=
  let inc := satOut (qSum [(a.e, (a.b 0, a.q 0))] 0)
  let v := accNext a (a.s 0) inc.1
  let y := satOut (qSum [(v.1, (a.b 1, a.q 1))] a.x0)
  { y := y.1, st := [(0, toW v.1)], sat := (inc.2 && !a.frozen) || v.2 || y.2 }

/-! ### HYSC (R177) -/

/-- The sector that an evaluation uses: under VSEL bits [2:0] of the LINK stage's output, 6 and 7 keeping the previous one. -/
def hyscSector (a : StageIn) : Nat :=
  if a.d.opt % 2 = 1 then (let v := getf a.linkY 0 3; if v ≥ 6 then getf (a.w 0) 0 3 else v) else getf (a.w 0) 0 3

/-- The 12-bit code of a reference, and whether it was clamped. -/
def dacCode (x : Int) : Nat × Bool :=
  let v := 2048 + rne x 1048576
  ((clampI 0 4095 v).toNat, decide (clampI 0 4095 v ≠ v))

/-- The references U, V and W of a HYSC stage, W absent under NO_W. -/
def hyscRefs (opt : Nat) (x0 x1 : Int) : List Int := [x0, x1] ++ (if opt / 2 % 2 = 1 then [] else [-(x0 + x1)])

def evHysc (a : StageIn) : StageEv :=
  { y := sat32 ((a.band : Int) * 1048576), st := [(0, fld (hyscSector a) 0 3)]
    sat := (hyscRefs a.d.opt a.x0 a.x1).any fun x => (dacCode x).2 }

/-! ### Block floating point (R170, R172) -/

/-- The mantissa of an M word or of a state word, times 2^23. -/
def mant (w : Word) : Int := sInt w / 256
/-- A signed byte. -/
def sByte (v : Nat) : Int := if v % 256 < 128 then (v % 256 : Nat) else ((v % 256 : Nat) : Int) - 256
/-- Coefficient exponent Ec. -/
def StageIn.ec (a : StageIn) : Int := sByte (getf (a.b 7) 0 8)
/-- State exponent Es. -/
def StageIn.es (a : StageIn) : Int := sByte (getf (a.w 7) 24 8)

/-- v 2^p in units of 2^f, for f at most p. -/
def atExp (v p f : Int) : Int := v * 2 ^ (p - f).toNat

/-- State values, as multiples of 2^e, as mantissas with a shared exponent: the mantissas times 2^23, Es, and whether the exponent
overflowed (R172). -/
def blockNorm (vals : List Int) (e : Int) : List Int × (Int × Bool) :=
  let m := vals.foldl (fun (n : Nat) v => max n v.natAbs) 0
  if m = 0 then (vals.map fun _ => 0, (0, false))
  else
    let es0 := ((m.log2 + 1 : Nat) : Int) + e
    let at_ (es : Int) : List Int := vals.map fun v => rneShift v (es - e - 23)
    let es := if (at_ es0).any fun v => decide (v.natAbs ≥ 8388608) then es0 + 1 else es0
    if es > 127 then ((at_ 127).map (clampI (-8388608) 8388607), (127, true))
    else if es < -128 then (vals.map fun _ => 0, (0, false))
    else (at_ es, (es, false))

/-- A block-float evaluation: output and state from exact values in units of 2^e. -/
def blockEv (y : Int) (vals : List Int) (e : Int) : StageEv :=
  let o := satOut (rneShift y (-e))
  let n := blockNorm vals e
  { y := o.1, st := (List.range n.1.length).map fun k => (k, toW (n.1.getD k 0 * 256))
    sat := o.2 || n.2.2, ovf := n.2.2, es := some n.2.1 }

/-! ### FILT and MODEL -/

def evFilt (a : StageIn) : StageEv :=
  if a.d.blockFp then
    let u := min 0 (a.es - 23)
    let e := a.ec - 23 + u
    let c (k : Nat) : Int := mant (a.b k)
    let x (k : Nat) : Int := atExp (mant (a.w k)) (a.es - 23) u
    let y := c 0 * atExp a.x0 0 u + c 1 * x 0 + c 2 * x 1 - c 3 * x 2 - c 4 * x 3
    let f := min (min 0 (a.es - 23)) e
    let old (k : Nat) : Int := atExp (mant (a.w k)) (a.es - 23) f
    { blockEv (atExp y e f) [atExp a.x0 0 f, old 0, atExp y e f, old 2] f with }
  else
    let y := satOut (qSum [(a.x0, (a.b 0, a.q 0)), (a.s 0, (a.b 1, a.q 1)), (a.s 1, (a.b 2, a.q 2)),
      (-a.s 2, (a.b 3, a.q 3)), (-a.s 3, (a.b 4, a.q 4))] 0)
    { y := y.1, st := [(0, toW a.x0), (1, a.w 0), (2, toW y.1), (3, a.w 2)], sat := y.2 }

def evModel (a : StageIn) : StageEv :=
  if a.d.blockFp then
    let u := min 0 (a.es - 23)
    let e := a.ec - 23 + u
    let y := mant (a.b 0) * atExp (mant (a.w 0)) (a.es - 23) u + mant (a.b 1) * atExp a.x0 0 u + atExp (mant (a.b 2)) 0 u
    blockEv y [y] e
  else
    let y := satOut (qSum [(a.s 0, (a.b 0, a.q 0)), (a.x0, (a.b 1, a.q 1))] (a.bs 6))
    { y := y.1, st := [(0, toW y.1)], sat := y.2 }

/-! ### LIMIT, RAMP, SUM, SCALE -/

def evLimit (a : StageIn) : StageEv :=
  let dyn := a.d.opt / 8 % 2 == 1
  let hi := if dyn then min (a.bs 1) (max a.x1 0) else a.bs 1
  let lo := if dyn then max (a.bs 0) (-max a.x1 0) else a.bs 0
  let fh := decide (max a.x0 lo > hi)
  let fl := decide (a.x0 < lo)
  { y := min (max a.x0 lo) hi, st := [(0, if fh || fl then BitVec.ofNat 32 (incSat 4294967295 (a.w 0).toNat) else a.w 0)]
    lim := some (fh, fl) }

def evRamp (a : StageIn) : StageEv :=
  if a.first && a.d.opt % 2 == 1 then { y := a.x0 }
  else
    let y := satOut (a.s 6 + min (max (a.x0 - a.s 6) (-a.bs 1)) (a.bs 0))
    { y := y.1, sat := y.2 }

def evSum (a : StageIn) : StageEv :=
  let y := satOut ((if a.d.opt % 2 = 1 then -a.x0 else a.x0) + (if a.d.opt / 2 % 2 = 1 then -a.x1 else a.x1) + a.bs 6)
  { y := y.1, sat := y.2 }

def evScale (a : StageIn) : StageEv :=
  let y := satOut (qSum [(a.x0, (a.b 0, a.q 0))] (a.bs 6))
  { y := y.1, sat := y.2 }

/-! ### INJ (R230-R233) -/

/-- sin(2 pi p / 2^32) in units of 2^-64, by its series on the first quadrant (R232). -/
def sinFix (p : Nat) : Int :=
  let r := p % 1073741824
  let t := if p / 1073741824 % 2 = 1 then 1073741824 - r else r
  let x : Int := (t : Int) * 28976077832308491369 / 1073741824
  let x2 : Int := x * x / 18446744073709551616
  let v := ((List.range 14).foldl (fun (a : Int × Int) (k : Nat) =>
    (a.1 + a.2, -(a.2 * x2 / 18446744073709551616) / (((2 * k + 2) * (2 * k + 3) : Nat) : Int))) (0, x)).1
  if p / 2147483648 % 2 = 1 then -v else v

/-- The value of a sine sample: within 1 LSB + |AMP| 2^-18 of rne(AMP sin) (R232); where in that range it falls is free (log entry
6). -/
def sineVal (ph : Word) (amp : Int) : Int :=
  let v := rne (amp * sinFix ph.toNat) 18446744073709551616
  let tol : Int := 1 + ((amp.natAbs / 262144 : Nat) : Int)
  clampI (v - tol) (v + tol) (Config.sine ph amp)

/-- Taps of the PRBS generator (Table 8.5). -/
def prbsTaps (order : Nat) : List Nat :=
  match order with
  | 9 => [9, 5] | 10 => [10, 7] | 11 => [11, 9] | 12 => [12, 6, 4, 1] | 13 => [13, 4, 3, 1]
  | 14 => [14, 5, 3, 1] | 15 => [15, 14] | 16 => [16, 15, 13, 4] | 17 => [17, 14] | 18 => [18, 11]
  | 19 => [19, 6, 2, 1] | 20 => [20, 17] | 21 => [21, 19] | 22 => [22, 21] | _ => [23, 18]

/-- One shift of the generator: b1 is bit 0 (R233). -/
def prbsShift (order : Nat) (x : Nat) : Nat :=
  let b := (prbsTaps order).foldl (fun (n : Nat) k => n + (if x.testBit (k - 1) then 1 else 0)) 0 % 2
  (x * 2 + b) % 2 ^ order

/-- FTW(n) of CHIRP: F0 + floor((F1 - F0) n / DUR), with the product in signed 64-bit arithmetic (Table 8.4). -/
def chirpFtw (j : Inj) (n : Nat) : Word :=
  let p := (BitVec.ofInt 64 (((j.c4.toNat : Int) - j.c3.toNat) * n)).toInt
  toW ((j.c3.toNat : Int) + p / (j.dur : Int))

/-- State words 0 to 5 of an INJ stage at the start of an injection (R230, R232, R233). -/
def injStart (j : Inj) : List (Nat × Word) :=
  let w0 : Word := match j.src with
    | 2 => j.c4
    | 3 => let x := j.c4.toNat % 2 ^ getf j.c3 0 5; BitVec.ofNat 32 (if x = 0 then 1 else x)
    | _ => 0
  let w2 : Word := match j.src with | 2 => j.c3 | 4 => j.c3 | _ => 0
  [(0, w0), (1, 0), (2, w2), (3, 0), (4, if j.src = 3 then 0 else toW j.amp), (5, 1)]

/-- One injected sample: s[n] and the state words after it (Table 8.4). -/
def injNext (a : StageIn) (j : Inj) : Int × List (Nat × Word) :=
  let n1 : Nat × Word := (1, a.w 1 + 1)
  match j.src with
  | 0 => (j.amp, [n1, (4, toW j.amp)])
  | 1 =>
    let lvl := a.s 4
    let c := (a.w 3).toNat + 1
    (lvl, if c ≥ j.c3.toNat then [n1, (3, 0), (4, toW (-lvl))] else [n1, (3, BitVec.ofNat 32 c)])
  | 2 => let v := sineVal (a.w 0) j.amp; (v, [n1, (0, a.w 0 + a.w 2), (4, toW v)])
  | 3 =>
    let order := getf j.c3 0 5
    let x := (a.w 0).toNat
    let c := (a.w 3).toNat
    let lvl := if c = 0 then (if x.testBit (order - 1) then j.amp else -j.amp) else a.s 4
    let x' := if c = 0 then prbsShift order x else x
    (lvl, [n1, (0, BitVec.ofNat 32 x'), (3, if c + 1 ≥ getf j.c3 16 16 then 0 else BitVec.ofNat 32 (c + 1)), (4, toW lvl)])
  | _ =>
    let f := chirpFtw j (a.w 1).toNat
    let v := sineVal (a.w 0) j.amp
    (v, [n1, (0, a.w 0 + f), (2, f), (4, toW v)])

def evInj (a : StageIn) : StageEv :=
  match a.inj with
  | none => { y := a.x0 }
  | some j =>
    let r := injNext a j
    let y := satOut (a.x0 + r.1)
    { y := y.1, st := r.2, sat := y.2 }

/-! ### Ports -/

def evXfer (a : StageIn) : StageEv := { y := if a.run then a.x0 else sInt a.d.hold }

/-- IMPORT: a version that the source has not changed, or nothing at all, keeps the last value and is STALE (R179). -/
def evImport (a : StageIn) : StageEv :=
  match a.lat with
  | some (v, w) => if a.seen = some v then { y := a.s 6, stale := some true } else { y := sInt w, stale := some false }
  | none => { y := a.s 6, stale := some true }

/-- The rule of Table 6.3 (R175). -/
def evStage (a : StageIn) : StageEv :=
  match a.d.type with
  | .hys2 => evHys2 a
  | .hys3 => evHys3 a
  | .hysi => evHysi a
  | .int => evInt a
  | .hysc => evHysc a
  | .filt => evFilt a
  | .model => evModel a
  | .limit => evLimit a
  | .ramp => evRamp a
  | .sum => evSum a
  | .scale => evScale a
  | .inj => evInj a
  | .cap => { y := a.x0 }
  | .xfer => evXfer a
  | .imp => evImport a

/-- STATUS after an evaluation, saturations apart (R173). -/
def statAfter (v : StageEv) (w : Word) : Word :=
  let put (b : Bool) (k : Nat) (w : Word) : Word := (w &&& ~~~(1#32 <<< k)) ||| bit b k
  let w := if v.ovf then put true 16 w else w
  let w := match v.lim with | some (h, l) => put h 17 (put l 18 w) | none => w
  let w := match v.stale with | some b => put b 19 w | none => w
  match v.es with | some e => (w &&& 0x00FFFFFF#32) ||| fld (e % 256).toNat 24 8 | none => w

/-- An evaluation is stored in its record: state words, y in word 6, STATUS, and the counters of R174. -/
def storeEv (r : Nat) (v : StageEv) (s : State) : State :=
  let s := v.st.foldl (fun s kw => setSt r kw.1 kw.2 s) s
  let s := setSt r 7 (statAfter v (stWord s r 7)) (setSt r 6 (toW v.y) s)
  if v.sat then countSat r s else s

end Sys2Proof.Machine
end

