-- ==== Sys2Proof/Machine/ImageParse.lean ====
section
/-! DEFINITION. Machine/ImageParse.lean: the sections of an image: their layouts, their ranges, and the structural checks of step 15
(03_boot_image.md Tables 3.3, 3.4, 3.9; R644, R645; each chapter's section tables). A value outside a stated range gives none. -/
namespace Sys2Proof.Machine
open Sys2Proof

/-- Keep a value when a check holds. -/
def keepIf {α : Type} (c : Bool) (x : α) : Option α := if c then some x else none

/-- The n bytes at an offset are 0. -/
def zeros (b : List Byte) (ofs n : Nat) : Bool := (slice b ofs n).all fun x => decide (x = 0)

/-- v lies in lo to hi. -/
def inR (lo hi v : Nat) : Bool := decide (lo ≤ v) && decide (v ≤ hi)

/-- One byte. -/
def u8 (b : List Byte) (o : Nat) : Nat := leAt b o 1
/-- Two bytes. -/
def u16 (b : List Byte) (o : Nat) : Nat := leAt b o 2
/-- Four bytes. -/
def u32 (b : List Byte) (o : Nat) : Nat := leAt b o 4

/-! ### Section table (R81, R82, Tables 3.3, 3.4) -/

/-- A section table entry. -/
structure SecEntry where
  type : Nat
  world : Nat
  zero : Nat
  ofs : Nat
  len : Nat
  load : Nat
deriving DecidableEq, Repr, Inhabited

/-- The entries of the section table. -/
def secTable (img : List Byte) (n : Nat) : List SecEntry :=
  (List.range n).map fun i =>
    let a := 0x100 + 16 * i
    { type := u8 img a, world := u8 img (a + 1), zero := u16 img (a + 2), ofs := u32 img (a + 4), len := u32 img (a + 8), load := u32 img (a + 12) }

/-- The section types of Table 3.4. -/
def secTypes : List Nat := [0x01, 0x02, 0x03, 0x04, 0x05, 0x10, 0x20, 0x21, 0x30, 0x40, 0x41, 0x42, 0x43, 0x50, 0x51, 0x52, 0x60, 0x70, 0x7F]

/-- Strictly ascending. -/
def ascending : List Nat → Bool
  | a :: b :: t => decide (a < b) && ascending (b :: t)
  | _ => true

/-- Two extents do not overlap. -/
def apart (a b : SecEntry) : Bool := decide (a.ofs + a.len ≤ b.ofs) || decide (b.ofs + b.len ≤ a.ofs)

/-- Every two sections are apart. -/
def allApart : List SecEntry → Bool
  | [] => true
  | a :: t => (t.all fun b => apart a b) && allApart t

/-- The section table meets R81 and Table 3.4 (step 11). -/
def tableOk (img : List Byte) (imgLen n : Nat) : Bool :=
  let l := secTable img n
  let has (t : Nat) : Bool := l.any fun e => e.type == t
  let body := l.filter fun e => e.type != 0x7F
  ascending (l.map SecEntry.type) &&
  (match l.getLast? with | some e => e.type == 0x7F && e.ofs == 0 && e.len == 0 && e.load == 0 | none => false) &&
  (l.all fun e => secTypes.contains e.type && e.zero == 0 && e.world == (if e.type = 0x10 then 1 else 0)) &&
  (body.all fun e => e.ofs % 16 == 0 && decide (0x100 + 16 * n ≤ e.ofs) && decide (1 ≤ e.len) && decide (e.ofs + e.len ≤ imgLen) &&
    (e.load == 0 || e.type == 0x10)) &&
  allApart body && has 0x01 && has 0x02 && has 0x30 && (has 0x20 || !has 0x21)

/-- The bytes of a section, none when it is absent. -/
def section_ (img : List Byte) (l : List SecEntry) (t : Nat) : Option (List Byte) :=
  (l.find? fun e => e.type == t).map fun e => slice img e.ofs e.len

/-! ### Sections 0x01 to 0x04 and 0x10 -/

/-- Section 0x01 (Table 18.4, R509). -/
def parsePmu (b : List Byte) : Option PmuCfg :=
  let f := u8 b 2
  keepIf (b.length == 16 && inR 3300 3600 (u16 b 0) && decide (f ≤ 1) && zeros b 3 1 && decide (u16 b 4 ≤ 450) && decide (u16 b 6 ≤ 450) &&
      decide (u16 b 8 ≤ 250) && zeros b 10 6)
    { vinOv := u16 b 0, vbatFitted := f % 2 == 1, v5Ma := u16 b 4, v33Ma := u16 b 6, v18Ma := u16 b 8 }

/-- Section 0x02 (Table 17.3, R479). -/
def parseClk (b : List Byte) : Option ClkCfg :=
  let t := sleAt b 2 2
  keepIf (b.length == 16 && decide (u8 b 0 ≤ 2) && decide (u8 b 1 ≤ 3) && decide (-2000 ≤ t) && decide (t ≤ 2000) && zeros b 4 12)
    { aonSrc := u8 b 0, refo := BitVec.ofNat 2 (u8 b 1), trim := t }

/-- Section 0x03: bits 26-31 are 0; the fixed-secure bits are forced to 0 (R36, R113). -/
def parseBwt (b : List Byte) : Option Word :=
  keepIf (b.length == 4 && decide (u32 b 0 < 2 ^ 26)) (BitVec.ofNat 32 (u32 b 0) &&& ~~~0x00400108#32)

/-- One region entry with its reserved attribute bits cleared (Table 4.2, R11). -/
def regionOf (b : List Byte) (n : Nat) : Region :=
  { base := BitVec.ofNat 32 (u32 b (8 * n)), attr := BitVec.ofNat 32 (u32 b (8 * n + 4)) &&& 0x8F1F#32 }

/-- The conditions of R116 on an enabled entry. -/
def regionOk (r : Region) : Bool :=
  let z := getf r.attr 0 5
  let a := r.base.toNat
  let e := a + 2 ^ z
  !getb r.attr 15 || (inR 12 20 z && a % 2 ^ z == 0 &&
    ((decide (0x10000000 ≤ a) && decide (e ≤ 0x10100000)) || (decide (0x20100000 ≤ a) && decide (e ≤ 0x20140000)) ||
     (decide (0x30008000 ≤ a) && decide (e ≤ 0x30040000))))

/-- Section 0x04 (R116, Table 4.2). -/
def parseRegions (b : List Byte) : Option (Vector Region 32) :=
  let v : Vector Region 32 := Vector.ofFn fun (i : Fin 32) => regionOf b i.val
  keepIf (b.length == 256 && v.toList.all regionOk) v

/-- An address lies in a region that grants non-secure execute (R84, R117). -/
def nsExec (v : Vector Region 32) (a : Nat) : Bool :=
  match v.toList.find? fun r => rgnHas r a with
  | some r => getb r.attr 8 && getb r.attr 11
  | none => false

/-- The load range of section 0x10 is aligned, in core SRAM, and NS-executable throughout (R84); regions are at least 4 KiB. -/
def loadOk (v : Vector Region 32) (a len : Nat) : Bool :=
  a % 4 == 0 && decide (0x10000000 ≤ a) && decide (a + len ≤ 0x10100000) &&
  (List.range ((a % 4096 + len + 4095) / 4096)).all fun k => nsExec v (max a ((a / 4096 + k) * 4096))

/-! ### Templates (Tables 5.7, 5.8; R146, R170, R176-R178, R182, R225, R290) -/

/-- Stage type codes (Table 5.8). -/
def stageTypeOf (v : Nat) : Option StageType :=
  match v with
  | 0x01 => some .hys2 | 0x02 => some .hys3 | 0x03 => some .hysi | 0x04 => some .int | 0x05 => some .hysc
  | 0x10 => some .filt | 0x11 => some .model | 0x12 => some .limit | 0x13 => some .ramp | 0x14 => some .sum
  | 0x15 => some .scale | 0x16 => some .inj | 0x17 => some .cap | 0x18 => some .xfer | 0x19 => some .imp
  | _ => none

/-- OPT of a stage type (R176). -/
def optOk (t : StageType) (o : Nat) : Bool :=
  match t with
  | .hysi | .int => decide (o ≤ 7) && o % 4 != 3
  | .hysc => decide (o ≤ 3)
  | .limit => o == 0 || o == 8
  | .ramp => decide (o ≤ 1)
  | .sum => decide (o ≤ 3)
  | _ => o == 0

/-- PORT of a stage type (R177, R178, Table 6.5, R290). -/
def portOk (t : StageType) (kind idx : Nat) : Bool :=
  match t with
  | .hysc => kind == 0 && decide (idx < 4)
  | .xfer => (kind == 1 && decide (idx ≤ 1)) || (kind == 2 && decide (idx < 32)) || (kind == 3 && decide (idx < 8)) ||
      (kind == 4 && decide (idx < 4)) || (kind == 5 && decide (idx < 64) && !inR 28 31 idx)
  | .imp => (kind == 5 && decide (idx < 64)) || (kind == 6 && (decide (idx < 0x14) || inR 0x20 0x23 idx)) || (kind == 7 && decide (idx < 16)) ||
      (kind == 8 && decide (idx < 16)) || (kind == 9 && decide (idx ≤ 1)) || (kind == 10 && idx == 0) ||
      (kind == 11 && decide (idx < 64) && decide (idx % 8 < 4))
  | _ => kind == 0 && idx == 0

/-- The eight words of a bank. -/
def bankWords (b : List Byte) (ofs : Nat) : List Word := (List.range 8).map fun k => BitVec.ofNat 32 (u32 b (ofs + 4 * k))

/-- A stage descriptor at an offset; i is its index. -/
def parseStage (b : List Byte) (ofs i : Nat) : Option StageDesc :=
  (stageTypeOf (u8 b ofs)).bind fun t =>
    let fmt := u8 b (ofs + 1)
    let in0 := u8 b (ofs + 2)
    let in1 := u8 b (ofs + 3)
    let opt := u8 b (ofs + 5)
    let port := u16 b (ofs + 6)
    let inOk (x : Nat) : Bool := x == 0xFF || (decide (x < i) && decide (t ≠ .imp))
    let d : StageDesc := {
      type := t, blockFp := fmt == 1, in0 := in0, in1 := in1, link := u8 b (ofs + 4), opt := opt, kind := port / 4096, idx := port % 4096
      hold := BitVec.ofNat 32 (u32 b (ofs + 8)), bankA := bankWords b (ofs + 0x10), bankB := bankWords b (ofs + 0x30) }
    keepIf ((fmt == 0 || (fmt == 1 && (decide (t = .filt) || decide (t = .model)))) && inOk in0 && inOk in1 && optOk t opt &&
      portOk t d.kind d.idx && zeros b (ofs + 12) 4 && bankOk t d.blockFp d.bankA && bankOk t d.blockFp d.bankB) d

/-- The SUP field (Table 8.1). -/
def parseSup (b : List Byte) (o : Nat) : Sup :=
  { plModel := u8 b o, plMeas := u8 b (o + 1), plN := u16 b (o + 2), plThr := u32 b (o + 4)
    feRef := u8 b (o + 8), feFb := u8 b (o + 9), feTime := u16 b (o + 10), feLimit := u32 b (o + 12) }

/-- The rules of R225. -/
def supOk (t : Template) : Bool :=
  let p := t.sup
  let n := t.stages.length
  (p.plModel == 0xFF || (decide (p.plModel < n) && decide ((t.stages.getD p.plModel {}).type = .model) && decide (p.plMeas < n) &&
    decide (1 ≤ p.plN) && inR 1 2147483647 p.plThr)) &&
  (p.feRef == 0xFF || (decide (p.feRef < n) && (p.feFb == 0xFF || decide (p.feFb < n)) && decide (p.feLimit ≤ 2147483647))) &&
  (!t.reactSs1 || t.axisReq)

/-- LINK of stage i: the LIMIT stage of STOP, under VSEL another stage of the template, else 0xFF or a LIMIT stage (R177, R182, Table
5.8). -/
def linkOk (t : Template) (i : Nat) (d : StageDesc) : Bool :=
  let isLimit := decide (d.link < t.stages.length) && decide ((t.stages.getD d.link {}).type = .limit)
  match d.type with
  | .hysi | .int => isLimit || (d.link == 0xFF && d.opt % 4 != 1)
  | .hysc => if d.opt % 2 = 1 then decide (d.link < t.stages.length) && d.link != i else d.link == 0xFF || isLimit
  | _ => d.link == 0xFF || isLimit

/-- Bridges named by the HYSC stages of a template. -/
def hyscBridges (t : Template) : List Nat := t.stages.filterMap fun d => if d.type = .hysc then some d.idx else none

/-- Board words written by the XFER stages of a template. -/
def boardWrites (t : Template) : List Nat := t.stages.filterMap fun d => if d.type = .xfer ∧ d.kind = 5 then some d.idx else none

/-- No value twice. -/
def noRepeat : List Nat → Bool
  | [] => true
  | a :: t => !t.contains a && noRepeat t

/-- The rules of a template as a whole (R146, R177, R225). -/
def templateOk (t : Template) : Bool :=
  (decide (t.bridges = 0) || t.drive) && (!t.drive || t.axisReq) && (!t.axisReq || !t.anyWorld) && supOk t &&
  ((List.range t.stages.length).all fun i => linkOk t i (t.stages.getD i {})) && noRepeat (hyscBridges t) &&
  t.stages.all fun d => decide (d.type ≠ .hysc) || (decide (t.tick ≤ 2) && t.bridges.getLsbD d.idx && (d.opt / 2 % 2 == 0 || d.idx == 3))

/-- The stages from index i. -/
def parseStages (b : List Byte) (ofs : Nat) : Nat → Nat → Option (List StageDesc)
  | _, 0 => some []
  | i, n + 1 => (parseStage b ofs i).bind fun d => (parseStages b (ofs + 80) (i + 1) n).map fun l => d :: l

/-- A template at an offset of section 0x20. -/
def parseTemplate (b : List Byte) (o : Nat) : Option Template :=
  let n := u8 b (o + 4)
  let fl := u8 b (o + 7)
  let pc := u8 b (o + 6)
  if inR 1 9 (u8 b o) && decide (u8 b (o + 1) ≤ 7) && inR 1 1024 (u16 b (o + 2)) && inR 1 16 n && decide (u8 b (o + 5) ≤ 1) &&
      (decide (pc ≤ 2) || pc == 0xFF) && decide (fl ≤ 15) && decide (u8 b (o + 8) ≤ 15) && decide (u8 b (o + 9) ≤ 15) && zeros b (o + 11) 1 &&
      zeros b (o + 14) 2 && zeros b (o + 0x34) 12 && decide (o + 64 + 80 * n ≤ b.length) then
    (parseStages b (o + 64) 0 n).bind fun st =>
      let t : Template := {
        type := u8 b o, tick := Fin.ofNat 8 (u8 b (o + 1)), div := u16 b (o + 2), anyWorld := u8 b (o + 5) == 1, pclass := pc
        drive := fl % 2 == 1, axisReq := fl / 2 % 2 == 1, bumpless := fl / 4 % 2 == 1, reactSs1 := fl / 8 % 2 == 1
        bridges := BitVec.ofNat 4 (u8 b (o + 8)), encs := BitVec.ofNat 4 (u8 b (o + 9)), fns := BitVec.ofNat 8 (u8 b (o + 10))
        ais := BitVec.ofNat 16 (u16 b (o + 12)), fos := BitVec.ofNat 32 (u32 b (o + 16)), pNom := u16 b (o + 0x14), pMin := u16 b (o + 0x16)
        sup := parseSup b (o + 0x18), name := slice b (o + 0x28) 12, stages := st }
      keepIf (templateOk t) t
  else none

/-- Map a partial function over a list, none where it gives none. -/
def allSome {α β : Type} (f : α → Option β) : List α → Option (List β)
  | [] => some []
  | a :: t => (f a).bind fun x => (allSome f t).map fun l => x :: l

/-- Section 0x20 (R145): COUNT, three zero bytes, and the offsets. -/
def parseTemplates (b : List Byte) : Option (List Template) :=
  let n := u8 b 0
  if inR 1 64 n && zeros b 1 3 && decide (4 + 4 * n ≤ b.length) then
    allSome (fun i => let o := u32 b (4 + 4 * i); if o % 16 = 0 then parseTemplate b o else none) (List.range n)
  else none

/-! ### Mode table (Tables 2.9-2.12, R60, R650) -/

/-- VALUE lies in the range of R650. -/
def valueOk (signed : Bool) (width : Nat) (v : Word) : Bool :=
  if signed then decide (-(2 ^ (width - 1) : Int) ≤ sInt v) && decide (sInt v ≤ 2 ^ (width - 1) - 1) else decide (v.toNat < 2 ^ width)

/-- A condition entry (Table 2.12). -/
def parseCond (b : List Byte) (o : Nat) : Option CondEntry :=
  let a := u32 b o
  let lsb := u8 b (o + 4)
  let w := u8 b (o + 5)
  let op := u8 b (o + 6)
  let signed := op / 16 % 2 == 1
  let v : Word := BitVec.ofNat 32 (u32 b (o + 8))
  keepIf (a % 4 == 0 && inR 0x40000000 0x4019FFFF a && decide (lsb ≤ 31) && inR 1 32 w && decide (lsb + w ≤ 32) && decide (op % 8 ≤ 5) &&
      (op == op % 8 || op == op % 8 + 16) && zeros b (o + 7) 1 && valueOk signed w v)
    { addr := BitVec.ofNat 32 a, lsb := lsb, width := w, op := op % 8, signed := signed, value := v }

/-- A binding (R145). -/
def parseBind (b : List Byte) (o : Nat) : Binding :=
  { stage := u8 b o, item := u8 b (o + 1), banks := u8 b (o + 2), zero := u8 b (o + 3), value := BitVec.ofNat 32 (u32 b (o + 4)) }

/-- A channel entry (Table 2.11); pool is the pool's bytes. -/
def parseChan (ts : List Template) (b pool : List Byte) (o : Nat) : Option ChanEntry :=
  let ti := u8 b o
  let fl := u8 b (o + 2)
  let ax := u8 b (o + 3)
  let bo := u32 b (o + 4)
  let bl := u16 b (o + 8)
  (ts[ti]?).bind fun t =>
    keepIf (decide (1 ≤ u8 b (o + 1)) && decide (fl ≤ 7) && (decide (ax ≤ 3) || ax == 0xFF) && zeros b (o + 10) 6 && bl % 8 == 0 &&
        decide (bl ≤ 256) && (bl == 0 || decide (bo + bl ≤ pool.length)) && !((t.drive || t.axisReq || decide (t.bridges ≠ 0)) && ax == 0xFF))
      { template := ti, key := u8 b (o + 1), xferOk := fl % 2 == 1, autostart := fl / 2 % 2 == 1, bankB := fl / 4 % 2 == 1
        axis := if h : ax < 4 then some ⟨ax, h⟩ else none, binds := (List.range (bl / 8)).map fun k => parseBind pool (bo + 8 * k) }

/-- No two axes that a recipe configures share a bridge, a brake output or an RST_IN (R284). -/
def axesApart (axes : List AxisCfg) (cfg : Vector (Option Nat) 4) : Bool :=
  (fins 4).all fun (i : Fin 4) => (fins 4).all fun (j : Fin 4) =>
    match cfg[i].bind fun k => axes[k]?, cfg[j].bind fun k => axes[k]? with
    | some a, some b => decide (i = j) || (decide (a.bridges &&& b.bridges = 0) && decide (a.brakes &&& b.brakes = 0) && decide (a.rstIn ≠ b.rstIn))
    | _, _ => true

/-- A recipe entry (Table 2.10) with its rules (R60, R177, R180, R284, Table 3.9). -/
def parseRecipe (ts : List Template) (axes : List AxisCfg) (b pool : List Byte) (i : Nat) : Option Recipe :=
  let o := 0x10 + 64 * i
  let fl := u8 b (o + 0x0D)
  let nch := u8 b (o + 0x0E)
  let nco := u8 b (o + 0x0F)
  let co := u32 b (o + 0x10)
  let qo := u32 b (o + 0x14)
  let cfg : Vector (Option Nat) 4 := Vector.ofFn fun (k : Fin 4) => let v := u16 b (o + 0x18) / 16 ^ k.val % 16; if v = 15 then none else some v
  if u8 b (o + 0x0C) == i && decide (fl ≤ 3) && decide (nco ≤ 16) && (nch == 0 || decide (co + 16 * nch ≤ pool.length)) &&
      (nco == 0 || decide (qo + 12 * nco ≤ pool.length)) && zeros b (o + 0x1A) 38 &&
      (cfg.toList.all fun v => match v with | some k => decide (k < axes.length) | none => true) && axesApart axes cfg then
    (allSome (fun k => parseChan ts pool pool (co + 16 * k)) (List.range nch)).bind fun chans =>
    (allSome (fun k => parseCond pool (qo + 12 * k)) (List.range nco)).bind fun conds =>
      let tm (e : ChanEntry) : Template := ts.getD e.template {}
      keepIf (noRepeat (chans.map ChanEntry.key) && decide (chans.foldl (fun (n : Nat) e => n + (tm e).stages.length) 0 ≤ 2048) &&
          noRepeat (chans.flatMap fun e => hyscBridges (tm e)) && noRepeat (chans.flatMap fun e => boardWrites (tm e)))
        { name := slice b o 12, nsSelect := fl % 2 == 1, watchOk := fl / 2 % 2 == 1, chans := chans, conds := conds, axisCfg := cfg }
  else none

/-- Section 0x21 (Table 2.9). -/
def parseModes (ts : List Template) (axes : List AxisCfg) (b : List Byte) : Option ModeTable :=
  let n := u8 b 0
  let df := u8 b 1
  let po := u32 b 4
  let pl := u32 b 8
  if inR 1 16 n && (decide (df < n) || df == 0xFF) && decide (u8 b 2 ≤ 1) && zeros b 3 1 && zeros b 12 4 && decide (0x10 + 64 * n ≤ b.length) &&
      decide (po + pl ≤ b.length) then
    (allSome (parseRecipe ts axes b (slice b po pl)) (List.range n)).map fun l =>
      { dflt := if df = 0xFF then none else some df, restore := u8 b 2 == 1, recipes := l }
  else none

/-! ### Section 0x30 (Tables 9.1, 10.1, 10.2, 11.5-11.7; R248, R283, R284) -/

/-- Four values of two bytes. -/
def four16 (b : List Byte) (o : Nat) : Vector Nat 4 := Vector.ofFn fun (i : Fin 4) => u16 b (o + 2 * i.val)
/-- Four values of one byte. -/
def four8 (b : List Byte) (o : Nat) : Vector Nat 4 := Vector.ofFn fun (i : Fin 4) => u8 b (o + i.val)

/-- The deck record (Table 9.1). -/
def parseDeck (b : List Byte) : Option DeckRecord :=
  let r : DeckRecord := {
    range := BitVec.ofNat 16 (u16 b 0), b3store := u8 b 2 == 1, osr8 := four8 b 4, tdead := four16 b 8, tmin := four16 b 0x10
    tblank := four16 b 0x18, oc := four16 b 0x20, dcOv := four16 b 0x28, dcUv := four16 b 0x30, ntcTrip := four8 b 0x38
    ntcWarn := four8 b 0x3C, ntcR25 := u16 b 0x40, ntcB := u16 b 0x42, tstoe := u16 b 0x44 }
  keepIf (decide (r.range &&& 0x8888#16 = 0) && decide (u8 b 2 ≤ 1) && zeros b 3 1 && (r.osr8.toList.all (inR 8 32)) &&
    (r.tdead.toList.all (inR 8 400)) && (r.tmin.toList.all (inR 20 800)) && (r.tblank.toList.all (inR 20 320)) &&
    (r.oc.toList.all (inR 1 2047)) && (r.dcOv.toList.all (inR 1 4095)) && (r.dcUv.toList.all (inR 0 4095)) &&
    ((fins 4).all fun (i : Fin 4) => r.ntcTrip[i] == 0 || (inR 40 150 r.ntcTrip[i] && decide (r.ntcWarn[i] < r.ntcTrip[i]))) &&
    inR 100 10000 r.ntcR25 && inR 2000 5000 r.ntcB && inR 10 1000 r.tstoe && zeros b 0x46 10) r

/-- A source byte (Table 10.1): bits [1:0] and bit 4. -/
def srcOf (v : Nat) : Src := { port := Fin.ofNat 4 v, abs := v / 16 % 2 == 1 }
/-- A source byte with no other bit set. -/
def srcOk (v : Nat) : Bool := v == v % 4 || v == v % 4 + 16

/-- Select inputs, reset and feedback inputs of a record (R284). -/
def usedInputs (c : AxisCfg) : List Nat :=
  (c.slsSel.toList.filter fun v => decide (v < 16)) ++ (if c.sdiDir ≠ 0 ∧ c.sdiSel < 16 then [c.sdiSel] else []) ++ [c.rstIn.val] ++
    (match c.bkfbIn with | some k => [k.val] | none => [])

/-- An axis record with its cross-check record (Tables 10.1, 11.7). -/
def parseAxis (b : List Byte) : Option AxisCfg :=
  let p1 := u8 b 1
  let p2 := u8 b 2
  let fl := u8 b 5
  let rst := u8 b 0x0A
  let fb := u8 b 0x0B
  let sf := u8 b 0x1A
  let dir := u8 b 0x1B
  let c : AxisCfg := {
    spd := srcOf (u8 b 0), pos1 := if p1 = 0xFF then none else some (srcOf p1), pos2 := if p2 = 0xFF then none else some (srcOf p2)
    bridges := BitVec.ofNat 4 (u8 b 3), brakes := BitVec.ofNat 4 (u8 b 4), stopSs1 := fl % 2 == 1, slpReq := fl / 2 % 2 == 1, swRst := fl / 4 % 2 == 1
    stoIn := BitVec.ofNat 16 (u16 b 6), ss1In := BitVec.ofNat 16 (u16 b 8), rstIn := Fin.ofNat 16 rst
    bkfbIn := if fb = 0xFF then none else some (Fin.ofNat 16 fb), slsSel := four8 b 0x0C, slsLim := four16 b 0x10, slsTol := u16 b 0x18
    tuneIdx := Fin.ofNat 4 sf, tuneEn := sf / 4 % 2 == 1, homeIdx := Fin.ofNat 4 (sf / 16), homeEn := sf / 64 % 2 == 1
    sdiDir := dir, sdiSel := u8 b 0x1C, sdiTol := u16 b 0x1E, dec := u32 b 0x20, ss1Dly := u16 b 0x24, ss1Tol := u16 b 0x26
    sstill := u16 b 0x28, sstillT := u16 b 0x2A, bkApply := u16 b 0x2C, bkRel := u16 b 0x2E, bkfbT := u16 b 0x30, slpTr := u16 b 0x32
    slpLo := sleAt b 0x34 4, slpHi := sleAt b 0x38 4, slpDec := u32 b 0x3C, slpTol := u32 b 0x40
    xcRatio := sleAt b 0x50 4, xcTol := u32 b 0x54, xcWin := u16 b 0x58, xc2Tol := u16 b 0x5A, xc2Ratio := sleAt b 0x5C 4 }
  let used (j : Fin 4) : Bool := c.slsSel[j] != 0xFE
  keepIf (srcOk (u8 b 0) && (p1 == 0xFF || srcOk p1) && (p2 == 0xFF || srcOk p2) && decide (u8 b 3 ≤ 15) && decide (u8 b 4 ≤ 15) &&
    decide (fl ≤ 7) && decide (rst ≤ 15) && (decide (fb ≤ 15) || fb == 0xFF) && (c.slsSel.toList.all fun v => decide (v ≤ 15) || decide (v ≥ 0xFE)) &&
    ((fins 4).all fun (j : Fin 4) => !used j || c.slsLim[j] != 0) && decide (1 ≤ c.slsTol) && sf / 8 % 2 == 0 && decide (sf < 128) &&
    decide (dir ≤ 2) && (dir == 0 || ((decide (c.sdiSel ≤ 15) || c.sdiSel == 0xFF) && decide (1 ≤ c.sdiTol))) && zeros b 0x1D 1 &&
    decide (1 ≤ c.dec) && decide (c.ss1Dly ≤ 1000) && decide (1 ≤ c.ss1Tol) && decide (c.sstill ≤ c.ss1Tol) && inR 1 1000 c.sstillT &&
    decide (c.bkApply ≤ 1000) && decide (c.bkRel ≤ 2000) && inR 10 1000 c.bkfbT && inR 1 1000 c.slpTr && decide (c.slpLo < c.slpHi) &&
    decide (1 ≤ c.slpDec) && zeros b 0x44 12 && decide (1 ≤ c.xcTol) && inR 10 1000 c.xcWin && decide (1 ≤ c.xc2Tol) &&
    (!c.tuneEn || used c.tuneIdx) && (!c.homeEn || used c.homeIdx) &&
    ((usedInputs c).all fun k => !c.stoIn.getLsbD k && !c.ss1In.getLsbD k)) c

/-- The kind of a safe output (Table 10.2). -/
def soKindOf (v : Nat) : SoKind := if v = 1 then .permit else if v = 2 then .belowSls else .unused

/-- The safe I/O and diagnostic records (Tables 10.2, 11.6). -/
def parseSafeIo (b d : List Byte) : Option SafeIo :=
  let so (k : Nat) : Nat := u8 b (0x14 + k)
  let nib (k : Nat) : Nat := u8 d (k / 2) / 16 ^ (k % 2) % 16
  let x : SafeIo := {
    type3 := BitVec.ofNat 16 (u16 b 0), tsif := Vector.ofFn fun (i : Fin 16) => u8 b (4 + i.val)
    soAxis := Vector.ofFn fun (i : Fin 4) => Fin.ofNat 4 (so i.val), soKind := Vector.ofFn fun (i : Fin 4) => soKindOf (so i.val / 16)
    tpMap := Vector.ofFn fun (i : Fin 16) => if nib i.val = 15 then none else some (Fin.ofNat 4 (nib i.val))
    tpWidth := u16 d 8, tpInt := u16 d 10, opWidth := u16 d 12, opInt := u16 d 14, onpEn := BitVec.ofNat 8 (u8 d 16) }
  keepIf (zeros b 2 2 && (x.tsif.toList.all (inR 1 16)) && ((List.range 4).all fun k => so k / 4 % 4 == 0 && decide (so k / 16 ≤ 2)) &&
    zeros b 0x18 8 && ((List.range 16).all fun k => decide (nib k < 4) || nib k == 15) && inR 100 400 x.tpWidth && inR 100 5000 x.tpInt &&
    inR 100 800 x.opWidth && inR 25 3000 x.opInt && zeros d 17 15) x

/-- CRC-32C of section 0x30 over all but its last four bytes (step 13, R328). -/
def safetyCrcOk (b : List Byte) : Bool :=
  decide (8 ≤ b.length) && decide (crc32c (b.take (b.length - 4)) = BitVec.ofNat 32 (u32 b (b.length - 4)))

/-- Section 0x30 (Table 11.5). -/
def parseSafety (b : List Byte) : Option (DeckRecord × (SafeIo × List AxisCfg)) :=
  let n := u8 b 10
  if u32 b 4 == b.length && b.length == 0xA0 + 96 * n + 4 && u16 b 8 == 1 && inR 1 15 n && zeros b 11 5 then
    (parseDeck (slice b 0x10 80)).bind fun dk =>
    (parseSafeIo (slice b 0x60 32) (slice b 0x80 32)).bind fun io =>
    (allSome (fun i => parseAxis (slice b (0xA0 + 96 * i) 96)) (List.range n)).map fun ax => (dk, (io, ax))
  else none

/-! ### Sections 0x40 to 0x43 (Tables 15.1, 15.4-15.6; R645) -/

/-- A section 0x40 entry. -/
def parseFo (b : List Byte) : Option FoCfg :=
  let m := u8 b 0
  if m = 0 then some {}
  else
    let hz := u16 b 4
    keepIf (decide (m ≤ 3) && decide (u8 b 1 ≤ 3) && decide (u8 b 2 ≤ 1) && decide (u8 b 3 ≤ 1) && (hz == 0 || (inR 10 2000 hz && m != 3)) &&
        (if m = 3 then inR 100 500 (u16 b 6) else u16 b 6 == 0) && decide (u8 b 8 ≤ 15) && inR 1 100 (u8 b 9) && zeros b 10 6)
      { mode := m, offSrc := u8 b 1 % 2 == 1, noStretch := u8 b 1 / 2 % 2 == 1, faultOn := u8 b 2 == 1, idleOn := u8 b 3 == 1, pwmHz := hz
        holdMa := u16 b 6, retry := u8 b 8, retryT := u8 b 9 }

/-- A section 0x41 entry. -/
def parseFan (b : List Byte) : Option FanCfg :=
  if u8 b 0 % 2 = 0 then some {}
  else
    let so := u8 b 6
    let pr := u8 b 7
    keepIf (u8 b 0 % 16 == 1 && inR 1 4 (u8 b 1) && inR 100 10000 (u16 b 2) && inR 1 1024 (u16 b 4) && (decide (so ≤ 31) || so == 0xFF) &&
        (decide (pr ≤ 7) || pr == 0xFF) && decide (u16 b 8 < u16 b 10) && decide (u16 b 12 ≤ 1024) && decide (u16 b 14 ≤ 1024))
      { use := true, axes := BitVec.ofNat 4 (u8 b 0 / 16), ppr := u8 b 1, minRpm := u16 b 2, checkDuty := u16 b 4
        supplyFo := if h : so < 32 then some ⟨so, h⟩ else none, pair := if h : pr < 8 then some ⟨pr, h⟩ else none
        iLo := u16 b 8, iHi := u16 b 10, faultDuty := u16 b 12, idleDuty := u16 b 14 }

/-- A section 0x42 entry. -/
def parseAi (b : List Byte) : Option AiCfg :=
  if u8 b 0 = 0 then some {}
  else keepIf (decide (u8 b 0 ≤ 2) && decide (u8 b 1 ≤ 3) && zeros b 2 2) { mode := u8 b 0, avg := u8 b 1 }

/-- A section 0x43 entry. -/
def parseEnc (b : List Byte) : Option EncCfg :=
  if u8 b 0 = 0 then some {}
  else
    keepIf (decide (u8 b 0 ≤ 3) && inR 10 32 (u8 b 1) && decide (u8 b 2 ≤ 7) && inR 2 16 (u8 b 3) && inR 100 2000 (u16 b 4) && inR 50 10000 (u16 b 6) &&
        inR 5 60 (u8 b 8) && decide (u8 b 9 ≤ 1) && decide (u8 b 10 ≤ 1) && zeros b 11 5)
      { inc := u8 b 0 % 2 == 1, abs := u8 b 0 / 2 == 1, bits := u8 b 1, gray := u8 b 2 % 2 == 1, errBit := u8 b 2 / 2 % 2 == 1
        errLow := u8 b 2 / 4 == 1, filt := u8 b 3, khz := u16 b 4, per := u16 b 6, tmono := u8 b 8, zlatch := u8 b 9 == 1, dir := u8 b 10 == 1 }

/-- The n entries of w bytes of a section of exactly n * w bytes. -/
def entries {α : Type} (f : List Byte → Option α) (w n : Nat) (b : List Byte) : Option (List α) :=
  if b.length = w * n then allSome (fun i => f (slice b (w * i) w)) (List.range n) else none

/-- A vector of a list, with a default past its end. -/
def vecOf {α : Type} (n : Nat) (d : α) (l : List α) : Vector α n := Vector.ofFn fun (i : Fin n) => l.getD i.val d

/-- The indices that meet a test, as a mask. -/
def maskOf {α : Type} (n w : Nat) (v : Vector α n) (p : α → Bool) : BitVec w := BitVec.ofNat w (packBits (v.toList.map p))

/-! ### Sections 0x50, 0x51, 0x52, 0x60, 0x70 -/

/-- Section 0x50 (Table 12.2). -/
def parseSpm (b : List Byte) : Option SpmCfg :=
  keepIf (b.length == 32 && decide (u8 b 0 ≤ 2) && zeros b 1 1 && inR 1 45 (u16 b 8) && inR 100 60000 (u16 b 10) && decide (u16 b 14 ≤ 1000) &&
      decide (u16 b 16 ≤ 1000) && zeros b 18 14)
    { source := u8 b 0, fullKw := u16 b 2, fallbackKw := u16 b 4, reduceKw := u16 b 6, redRamp := u16 b 8, hspTimeout := u16 b 10
      regenKw := u16 b 12, derateFan := u16 b 14, derateHot := u16 b 16 }

/-- Section 0x52 (Table 12.3). -/
def parseLift (b : List Byte) : Option LiftCfg :=
  let eta := inR 500 1000
  keepIf (b.length == 48 && decide (u8 b 0 ≤ 3) && decide (u8 b 1 ≤ 15) && zeros b 2 2 && decide (u16 b 6 < u16 b 8) && decide (u16 b 8 ≤ u16 b 4) &&
      eta (u16 b 0x16) && eta (u16 b 0x18) && eta (u16 b 0x1A) && zeros b 0x1C 4 && decide (1 ≤ u16 b 0x2C) && zeros b 0x2E 2)
    { axis := Fin.ofNat 4 (u8 b 0), storeAi := Fin.ofNat 16 (u8 b 1), vFs := u16 b 4, vMin := u16 b 6, vMax := u16 b 8, cDf := u16 b 10
      eRes := u32 b 12, pStMax := u16 b 16, chopKw := u16 b 18, pLoss := u16 b 20, etaUp := u16 b 0x16, etaDown := u16 b 0x18, etaSt := u16 b 0x1A
      ratedKg := u32 b 0x20, tackleKg := u32 b 0x24, nmPerCount := u32 b 0x28, vMinLift := u16 b 0x2C }

/-- Section 0x51 (Table 13.3). -/
def parseHl (b : List Byte) : Option HlCfg :=
  let role := u8 b 3 % 4
  let m := u8 b 4
  keepIf (b.length == 32 && decide (u8 b 0 ≤ 7) && inR 2 8 (u8 b 1) && decide (u8 b 0 < u8 b 1) && decide (u8 b 2 < u8 b 1) && decide (role ≤ 2) &&
      decide (u8 b 3 ≤ 15) && (if role = 2 then decide (m < u8 b 1) else m == 0xFF) && decide (u8 b 5 ≤ 100) && decide (1 ≤ u16 b 6) &&
      decide (1 ≤ u32 b 8) && decide (1 ≤ u32 b 12) && zeros b 16 16)
    { node := Fin.ofNat 8 (u8 b 0), nnodes := u8 b 1, keeper := Fin.ofNat 8 (u8 b 2), role := role, group := u8 b 3 / 4
      master := if h : m < 8 then some ⟨m, h⟩ else none, droop := u8 b 5, ringId := u16 b 6, tRated := u32 b 8, vRated := u32 b 12 }

/-- Two ranges of numbers do not overlap. -/
def rangesApart (a n b m : Nat) : Bool := n == 0 || m == 0 || decide (a + n ≤ b) || decide (b + m ≤ a)

/-- A four-octet address, first octet at the lowest offset. -/
def ip4 (b : List Byte) (o : Nat) : Nat := beNat (slice b o 4)

/-- The rules of R453 on identifiers and board words. The heartbeat of this node is one identifier. -/
def netOk (c : NetCfg) : Bool :=
  let jn := if c.joyId.isSome then 1 else 0
  let jid := c.joyId.getD 0
  rangesApart (c.hbBase + c.node) 1 jid jn && rangesApart (c.hbBase + c.node) 1 c.tankBase c.tankN && rangesApart jid jn c.tankBase c.tankN &&
  (c.tankN == 0 || (inR 32 63 c.tankWord && decide (c.tankWord + c.tankN ≤ 64))) && (jn == 0 || inR 32 61 c.joyWord) &&
  rangesApart c.tankWord c.tankN c.joyWord (3 * jn) &&
  (List.range 32).all fun k => !c.hostWords.getLsbD k ||
    !((c.tankN != 0 && inR c.tankWord (c.tankWord + c.tankN - 1) (32 + k)) || (jn == 1 && inR c.joyWord (c.joyWord + 2) (32 + k)))

/-- Section 0x60 (Table 16.1, R453). -/
def parseNet (b : List Byte) : Option NetCfg :=
  let j := u16 b 0x24
  let phy := u16 b 0x1C
  let mb := u8 b 0x1E
  let c : NetCfg := {
    ethEn := BitVec.ofNat 2 (u8 b 0), mbEn := BitVec.ofNat 2 (u8 b 1), canEn := BitVec.ofNat 2 (u8 b 2), node := u8 b 3
    ip := #v[ip4 b 4, ip4 b 0x10], mask := #v[ip4 b 8, ip4 b 0x14], gw := #v[ip4 b 12, ip4 b 0x18], phy := #v[phy % 32, phy / 256 % 32]
    dataMbps := mb, joyTmo := u8 b 0x1F, hbMs := u16 b 0x20, hbBase := u16 b 0x22, joyId := if j = 0xFFFF then none else some j
    tankBase := u16 b 0x26, tankN := u8 b 0x28, tankWord := u8 b 0x29, joyWord := u8 b 0x2A, tankTmo := u16 b 0x2C, sessTmo := u16 b 0x2E
    hostWords := BitVec.ofNat 32 (u32 b 0x30) }
  keepIf (b.length == 64 && decide (u8 b 0 ≤ 3) && decide (u8 b 1 ≤ 3) && decide (u8 b 2 ≤ 3) && decide (c.node ≤ 63) &&
    decide (phy &&& 0x1F1F = phy) && (mb == 1 || mb == 2 || mb == 4 || mb == 5) && (c.joyId.isNone || inR 1 50 c.joyTmo) && inR 10 1000 c.hbMs &&
    decide (c.hbBase < 2048) && (j == 0xFFFF || decide (j < 2048)) && decide (c.tankBase < 2048) && decide (c.tankN ≤ 32) && zeros b 0x2B 1 &&
    inR 100 10000 c.tankTmo && inR 1 600 c.sessTmo && zeros b 0x34 12 && netOk c) c

/-- Section 0x70 (Table 20.2, R553), with the analog inputs and field outputs of the image. -/
def parseWatch (ai : Vector AiCfg 16) (fo : Vector FoCfg 32) (b : List Byte) : Option WatchCfg :=
  let win (k : Nat) (j : Nat) : Nat := u16 b (0x20 + 8 * k + 2 * j)
  let w : WatchCfg := {
    period := u16 b 0, resume := u8 b 2 == 1, encKeep := BitVec.ofNat 4 (u8 b 3), siWake := BitVec.ofNat 16 (u16 b 4)
    aiEn := BitVec.ofNat 16 (u16 b 6), wbWake := BitVec.ofNat 16 (u16 b 8)
    wakeCfg := Vector.ofFn fun (i : Fin 4) => u16 b 10 / 16 ^ i.val % 16, fanWatch := BitVec.ofNat 8 (u8 b 12)
    foWatch := BitVec.ofNat 32 (u32 b 16), lower := Vector.ofFn fun (i : Fin 16) => win i.val 0
    upper := Vector.ofFn fun (i : Fin 16) => win i.val 1, hyst := Vector.ofFn fun (i : Fin 16) => win i.val 2 }
  keepIf (b.length == 160 && decide (1 ≤ w.period) && decide (u8 b 2 ≤ 1) && decide (u8 b 3 ≤ 15) && zeros b 13 3 && zeros b 20 12 &&
    (w.wakeCfg.toList.all fun v => decide (v ≤ 4)) &&
    ((fins 32).all fun (n : Fin 32) => !w.foWatch.getLsbD n || fo[n].mode == 3 || (fo[n].mode == 1 && fo[n].pwmHz == 0)) &&
    ((fins 16).all fun (k : Fin 16) => !w.wbWake.getLsbD k || ai[k].mode == 1) &&
    ((fins 16).all fun (k : Fin 16) => zeros b (0x26 + 8 * k.val) 2 && (!w.aiEn.getLsbD k ||
      (ai[k].mode != 0 && decide (w.lower[k] < w.upper[k]) && decide (2 * w.hyst[k] ≤ w.upper[k] - w.lower[k]))))) w

/-! ### The image as a whole -/

/-- What the sections of an image give. -/
structure Parsed where
  pmu : PmuCfg := {}
  clk : ClkCfg := {}
  bwt : Word := 0x03803E20
  rgn : Vector Region 32 := .replicate 32 {}
  img : Img := {}
  /-- The program of section 0x10 and its load address. -/
  app : Option (Nat × List Byte) := none
deriving DecidableEq, Repr, Inhabited

/-- Parse an optional section: some none when it is absent. -/
def optSec {α : Type} (img : List Byte) (l : List SecEntry) (t : Nat) (f : List Byte → Option α) : Option (Option α) :=
  match section_ img l t with
  | none => some none
  | some b => (f b).map some

/-- Checks across sections (Table 3.9): R269, R382, R431, R436, Table 12.3. -/
def crossOk (i : Img) : Bool :=
  let b3 := i.templates.flatMap fun t => t.stages.filter fun d => decide (d.type = .hysc) && d.idx == 3
  let storeOk := if i.deck.b3store then i.lift.isSome && b3.all (fun d => d.opt == 2) else i.lift.isNone && b3.all (fun d => d.opt / 2 % 2 == 0)
  let hlOk := match i.spm, i.hl with
    | some p, some h => decide (p.source = 2) == decide (h.keeper ≠ h.node)
    | _, _ => true
  let supplies := (i.fan.toList.filter fun f => f.use).filterMap fun f => f.supplyFo.map Fin.val
  let fanOk := noRepeat supplies && supplies.all fun n =>
    let c := (i.fo.toList)[n]?.getD {}
    c.mode == 1 && c.pwmHz == 0 && i.templates.all fun t => !t.fos.getLsbD n
  let aiOk := match i.spm with | some p => p.source != 0 || i.ai[15].mode == 1 | none => true
  let stOk := match i.spm, i.lift with | some p, some l => p.source != 0 || l.storeAi.val != 15 | _, _ => true
  storeOk && hlOk && fanOk && aiOk && stOk

/-- The structural checks of step 15 and what they let through; none fails with CONTENT. -/
def parseImage (img : List Byte) (l : List SecEntry) (nsDebug : Bool) : Option Parsed := do
  let pmuB ← section_ img l 0x01
  let clkB ← section_ img l 0x02
  let safB ← section_ img l 0x30
  let pmu ← parsePmu pmuB
  let clk ← parseClk clkB
  let bwt ← optSec img l 0x03 parseBwt
  let rgn ← optSec img l 0x04 parseRegions
  let rgn := rgn.getD (.replicate 32 {})
  let app := (l.find? fun e => e.type == 0x10).map fun e => (e.load, slice img e.ofs e.len)
  let _ ← match app with | some x => keepIf (loadOk rgn x.1 x.2.length) () | none => some ()
  let ts ← optSec img l 0x20 parseTemplates
  let ts := ts.getD []
  let saf ← parseSafety safB
  let mode ← optSec img l 0x21 (parseModes ts saf.2.2)
  let fo ← optSec img l 0x40 (entries parseFo 16 32)
  let fan ← optSec img l 0x41 (entries parseFan 16 8)
  let ai ← optSec img l 0x42 (entries parseAi 4 16)
  let enc ← optSec img l 0x43 (entries parseEnc 16 4)
  let fo : Vector FoCfg 32 := vecOf 32 {} (fo.getD [])
  let fan : Vector FanCfg 8 := vecOf 8 {} (fan.getD [])
  let ai : Vector AiCfg 16 := vecOf 16 {} (ai.getD [])
  let enc : Vector EncCfg 4 := vecOf 4 {} (enc.getD [])
  let spm ← optSec img l 0x50 parseSpm
  let hl ← optSec img l 0x51 parseHl
  let lift ← optSec img l 0x52 parseLift
  let net ← optSec img l 0x60 parseNet
  let watch ← optSec img l 0x70 (parseWatch ai fo)
  let i : Img := {
    nsDebug := nsDebug, appLoad := app.map fun x => BitVec.ofNat 32 x.1, templates := ts, mode := mode, safetyId := BitVec.ofNat 32 (u32 safB 0)
    safetyHash := sha256 safB, deck := saf.1, safeIo := saf.2.1, axes := saf.2.2, pmuBytes := pmuB, clkBytes := clkB
    fo := fo, fan := fan, ai := ai, enc := enc, foEn := maskOf 32 32 fo fun c => c.mode != 0, fnEn := maskOf 8 8 fan fun c => c.use
    encEn := maskOf 4 4 enc fun c => c.inc || c.abs, aiEn := maskOf 16 16 ai fun c => c.mode != 0
    spm := spm, hl := hl, lift := lift, net := net, watch := watch }
  keepIf (crossOk i) { pmu := pmu, clk := clk, bwt := bwt.getD 0x03803E20, rgn := rgn, img := i, app := app }

end Sys2Proof.Machine
end

