-- ==== Sys2Proof/Machine/ShipPower.lean ====
section
/-! DEFINITION. Machine/ShipPower.lean: the ship-power manager, START with its power grant and safety release, and lift admission
(12_ship_power_and_lift.md; R149, R159, R291, R374, R375). -/
namespace Sys2Proof.Machine
open Sys2Proof

/-! ### Budget (R336-R339) -/

/-- An analog input scaled to a range: 4-20 mA or 0-10 V onto 0 to full, as a fraction (R436). -/
def aiScaled (s : State) (n : Fin 16) (full : Nat) : Nat × Nat :=
  if s.img.ai[n].mode = 1 then ((s.ain[n].val - 10000) * full, 40000) else (s.ain[n].val * full, 50000)

/-- The node is the HarovLink keeper (Table 13.3). -/
def isKeeper (s : State) : Bool := match s.img.hl with | some h => decide (h.node = h.keeper) | none => false

/-- The tokens a node may spend: TAKEN less its own unaccepted offer, and on the keeper less its free pool (R374, R375). -/
def hlHolding (s : State) : Nat :=
  s.hl.taken - (match s.hl.offer with | some o => o.2 | none => 0) - (if isKeeper s then s.hl.pool else 0)

/-- The source value and SPM_STAT.SRC (R336, R337). -/
def spmSource (s : State) (c : SpmCfg) : Nat × Nat :=
  match c.source with
  | 0 =>
    if s.ain[15].wb then (c.fallbackKw, 3)
    else let x := aiScaled s 15 c.fullKw; (min (x.1 / x.2) c.fullKw, 0)
  | 1 => if s.spm.hostOk then (s.spm.hostBud, 1) else (c.fallbackKw, 3)
  | _ => (hlHolding s, 2)

/-- DERATE_FAN applies (R338, R435). -/
def fanDerate (s : State) : Bool := s.fan.toList.any fun f => decide (f.st = .stall) || decide (f.st = .tachLost)

/-- Per-mille derating factors in force (R338). -/
def derateOf (s : State) (c : SpmCfg) : Nat × Nat :=
  (if fanDerate s then c.derateFan else 1000, if s.pmu.hot then c.derateHot else 1000)

/-- The reduce-ramp limit, none without one (R339). -/
def rampLimit (s : State) (c : SpmCfg) : Option Nat :=
  match s.spm.ramp with
  | none => none
  | some (a0, k) =>
    if a0 ≤ c.reduceKw ∨ k ≥ c.redRamp then some c.reduceKw
    else some (Config.roundFree ((a0 * c.redRamp - (a0 - c.reduceKw) * k : Nat) : Int) c.redRamp).toNat

/-- The budget of the source after derating and the reduce ramp (R338): on the keeper it is the group budget B (R375). -/
def sourceBudget (s : State) (c : SpmCfg) : Nat :=
  let d := derateOf s c
  let a := (spmSource s c).1 * d.1 * d.2 / 1000000
  match rampLimit s c with | some l => min a l | none => a

/-- The local budget A (R338, R375). -/
def budgetNow (s : State) : Nat :=
  match s.img.spm with
  | none => 0
  | some c => if isKeeper s then hlHolding s else sourceBudget s c

/-! ### Consumers and Procedure 12.1 -/

/-- A slot is a consumer of a class: from START until it leaves RUNNING. -/
def isConsumer (s : State) (cls : Nat) (x : Slot) : Bool :=
  decide ((slotTemplate s x).pclass = cls) && (x.startPend || decide (x.st = .running))

/-- The consumers of a class, by slot. -/
def consumers (s : State) (cls : Nat) : List (Fin 256) := (fins 256).filter fun (i : Fin 256) => isConsumer s cls s.chn.slots[i]

/-- The sum of P_MIN of the P0 consumers. -/
def p0Min (s : State) : Nat := (consumers s 0).foldl (fun (n : Nat) (i : Fin 256) => n + (slotTemplate s s.chn.slots[i]).pMin) 0

/-- The sum of the requests of all consumers (Table 13.2, WANT). -/
def requestSum (s : State) : Nat :=
  [0, 1, 2].foldl (fun (n : Nat) (c : Nat) => (consumers s c).foldl (fun (n : Nat) (i : Fin 256) => n + s.chn.slots[i].pNom) n) 0

/-- The P0 minimums exceed A, or the ring carries CRIT (R344, R374). -/
def critNow (s : State) : Bool := decide (p0Min s > budgetNow s) || s.hl.crit

/-- Shares of a remainder: floor(D * Rm / sum of D), the spare kW one each in order to those that lack some; all of D when it fits. -/
def shares (rm : Nat) (l : List (Fin 256 × Nat)) : List (Fin 256 × Nat) :=
  let sum := l.foldl (fun n x => n + x.2) 0
  if sum ≤ rm then l
  else
    let fl := l.map fun x => (x.1, (x.2, x.2 * rm / sum))
    let spare := rm - fl.foldl (fun n x => n + x.2.2) 0
    (fl.foldl (fun (a : List (Fin 256 × Nat) × Nat) x =>
      if a.2 > 0 ∧ x.2.2 < x.2.1 then (a.1 ++ [(x.1, x.2.2 + 1)], a.2 - 1) else (a.1 ++ [(x.1, x.2.2)], a.2)) ([], spare)).1

/-- The grants of the P0 and P1 consumers, in ascending slot order (Procedure 12.1). -/
def grants01 (s : State) (a : Nat) : List (Fin 256 × Nat) :=
  let c0 := consumers s 0
  let rm := a - p0Min s
  let l := (fins 256).filterMap fun (i : Fin 256) =>
    let x := s.chn.slots[i]
    if isConsumer s 0 x then some (i, x.pNom - (slotTemplate s x).pMin)
    else if isConsumer s 1 x then some (i, x.pNom) else none
  (shares rm l).map fun x => if c0.contains x.1 then (x.1, x.2 + (slotTemplate s s.chn.slots[x.1]).pMin) else x

/-- What is left for P2 (Procedure 12.1). -/
def rest2 (s : State) (a : Nat) : Nat := a - p0Min s - ((grants01 s a).foldl (fun n x => n + x.2) 0 - p0Min s)

/-- The grants of the P2 consumers in ascending START order: whole or nothing (Procedure 12.1); none while PREF_TRIP_N or
POWER_CRITICAL (R340, R344), and none to a slot that has been shed (R343). -/
def grants2 (s : State) (a : Nat) (off : Bool) : List (Fin 256 × Nat) :=
  let l := sortBy (fun (i j : Fin 256) => decide (s.chn.slots[i].startOrder ≤ s.chn.slots[j].startOrder)) (consumers s 2)
  (l.foldl (fun (x : List (Fin 256 × Nat) × Nat) (i : Fin 256) =>
    let r := s.chn.slots[i].pNom
    if !off && !s.chn.slots[i].pShed && decide (r ≤ x.2) then (x.1 ++ [(i, r)], x.2 - r) else (x.1 ++ [(i, 0)], x.2)) ([], rest2 s a)).1

/-- PSTAT of a grant (R342): 1 FULL, 2 CURTAILED, 3 REFUSED. -/
def pstatOf (req grant : Nat) : Nat := if grant = 0 then 3 else if grant < req then 2 else 1

/-- Every grant of an allocation. -/
def allGrants (s : State) : List (Fin 256 × Nat) :=
  match s.img.spm with
  | none => (fins 256).filterMap fun (i : Fin 256) =>
      let x := s.chn.slots[i]
      if isConsumer s 0 x || isConsumer s 1 x || isConsumer s 2 x then some (i, x.pNom) else none
  | some _ => let a := budgetNow s; grants01 s a ++ grants2 s a (s.spm.prefTrip || critNow s || s.spm.crit)

/-- A consumer that must stop goes HELD at its next boundary; a START still waiting is cancelled. -/
def Slot.shed (x : Slot) : Slot :=
  let run := decide (x.st = .running)
  { x with holdPend := x.holdPend || run, pShed := x.pShed || run, startPend := false, autoPend := false }

/-- What POWER_CRITICAL does to P1: the non-safety SS1 on the axis of every drive channel, in whatever state, and HELD for a consumer that is
none (R344). -/
def critStops (s : State) : State :=
  (fins 256).foldl (fun (s : State) (i : Fin 256) =>
    let x := s.chn.slots[i]
    if x.st = .free ∨ (slotTemplate s x).pclass ≠ 1 then s
    else if isDrive s x then (match x.axis with | some n => nonsafeSs1 n s | none => s)
    else if isConsumer s 1 x then s.modSlot i Slot.shed else s) s

/-- Store a grant and its status; a P2 consumer that cannot be served is shed (R342, R343). -/
def setGrant (s : State) (g : Fin 256 × Nat) : State :=
  let cls := (slotTemplate s s.chn.slots[g.1]).pclass
  let s := s.modSlot g.1 fun x => { x with grant := g.2, pstat := pstatOf x.pNom g.2 }
  if cls = 2 ∧ g.2 = 0 then s.modSlot g.1 Slot.shed else s

/-! ### The energy store (R346, R361) -/

/-- E_st in J as a fraction, P_st in kW, V in 0.1 V and SoC, from the store voltage (R346). -/
structure StoreVal where
  /-- Numerator and denominator of E_st in J. -/
  eNum : Nat := 0
  eDen : Nat := 1
  pSt : Nat := 0
  v : Nat := 0
  soc : Nat := 0
  /-- V is below VMAX (R355). -/
  belowMax : Bool := true
deriving DecidableEq, Repr, Inhabited

/-- The energy store (R346, R361). -/
def storeNow (s : State) (c : LiftCfg) : StoreVal :=
  let x := aiScaled s c.storeAi c.vFs
  let v := Config.roundFree ((10 * x.1 : Nat) : Int) x.2
  if s.ain[c.storeAi].wb then { v := v.toNat, belowMax := false }
  else
    -- V^2 - VMIN^2 in units of 1 / x.2^2 volts squared
    let d2 : Nat := x.2 * x.2
    let gain := x.1 * x.1 - c.vMin * c.vMin * d2
    let span := (c.vMax * c.vMax - c.vMin * c.vMin) * d2
    -- half C is cDf / 20 F; the bracket in J is gain * cDf / (20 * d2) - 1000 * eRes
    let br := gain * c.cDf - 20000 * c.eRes * d2
    let e := br * c.etaSt
    { eNum := e, eDen := 20 * d2 * 1000, pSt := if e > 0 then c.pStMax else 0, v := v.toNat
      soc := if gain ≥ span then 1000 else (Config.roundFree ((1000 * gain : Nat) : Int) span).toNat
      belowMax := decide (x.1 < c.vMax * x.2) }

/-- The store registers show the voltage on STORE_AI, where section 0x52 is present (R346). -/
def showStore (s : State) : State :=
  match s.img.lift with
  | none => s
  | some c =>
    let st := storeNow s c
    { s with spm := { s.spm with storeV := st.v, soc := st.soc, storeOk := !s.ain[c.storeAi].wb } }

/-! ### The allocation -/

/-- SPM_STAT.SRC and DERATE and SPM_BUDGET as they stand now (Table 12.4). -/
def spmShown (s : State) : Spm :=
  match s.img.spm with
  | none => s.spm
  | some c =>
    let d := derateOf s c
    { s.spm with
      src := (spmSource s c).2, a := budgetNow s, raw := (if isKeeper s then sourceBudget s c else (spmSource s c).1)
      derate := decide (d.1 < 1000) || decide (d.2 < 1000) }

/-- Procedure 12.1 and the registers it shows (R341, Table 12.4). -/
def spmAlloc (s0 : State) : State :=
  let s := showStore s0
  let gs := allGrants s
  let tot := gs.foldl (fun n x => n + x.2) 0
  let crit := match s.img.spm with | some _ => s.spm.crit || critNow s | none => false
  let s1 := gs.foldl setGrant { s with spm := { spmShown s with crit := crit, total := tot, p0min := p0Min s } }
  if crit then critStops s1 else s1

/-- What feeds the manager has changed: the store is shown, and where the budget or its source differs the allocation is re-run (R337, R341,
R346). -/
def spmRefresh (s0 : State) : State :=
  let s := showStore s0
  if spmShown s = s.spm then s else spmAlloc s

/-! ### The committed lift (R346-R355) -/

/-- T(v) of the forecast in seconds as a fraction, h in nm, v in mm/s, a in mm/s^2 (R349). -/
def liftT (h v a : Nat) : Nat × Nat := (h * a + v * v * 1000000, v * a * 1000000)

/-- E_need at a speed fits within factor/10 of E_avail (R349, R350, R352). -/
def energyFits (c : LiftCfg) (st : StoreVal) (m h v a g factor : Nat) : Bool :=
  let t := liftT h v a
  -- E_need in J: m * 9.81 * h / 10^9 * 1000 / ETA_UP + P_LOSS * 1000 * T
  let n1 := m * 981 * h
  let d1 := 100000000 * c.etaUp
  -- n1 / d1 + 1000 * pLoss * t.1 / t.2 <= factor / 10 * (eNum / eDen + 1000 * g * t.1 / t.2)
  let l := 10 * (n1 * t.2 * st.eDen + 1000 * c.pLoss * t.1 * d1 * st.eDen)
  let r := factor * (st.eNum * t.2 * d1 + 1000 * g * t.1 * st.eDen * d1)
  decide (l ≤ r)

/-- P_peak at a speed fits P_avail (R349, R350). -/
def powerFits (c : LiftCfg) (st : StoreVal) (m v a g : Nat) : Bool :=
  -- m * (9810 + a) / 1000 * v / 1000 * 1000 / etaUp W + pLoss kW <= g + pSt kW
  decide (m * (9810 + a) * v + c.pLoss * 1000000 * c.etaUp ≤ (g + st.pSt) * 1000000 * c.etaUp)

/-- P_reg at a speed fits the sink (R355). -/
def regenFits (c : LiftCfg) (spm : Option SpmCfg) (st : StoreVal) (m v : Nat) : Bool :=
  let s0 := (if st.belowMax then c.pStMax else 0) + (match spm with | some x => x.regenKw | none => 0)
  let sink := if s0 = 0 then c.chopKw else s0
  -- m * 9.81 * v / 1000 * etaDown / 1000 W
  decide (m * 981 * v * c.etaDown ≤ sink * 100000000000)

/-- Whether a speed of a lift fits (R350, R352, R355). -/
def speedFits (s : State) (c : LiftCfg) (l : Lift) (h g factor v : Nat) : Bool :=
  let st := storeNow s c
  if l.lower then regenFits c s.img.spm st l.mass v
  else energyFits c st l.mass h v l.acc g factor && powerFits c st l.mass v l.acc g

/-- The highest whole speed from lo to v that fits. -/
def bestSpeed (p : Nat → Bool) (lo : Nat) : Nat → Option Nat
  | 0 => none
  | v + 1 => if v + 1 < lo then none else if p (v + 1) then some (v + 1) else bestSpeed p lo v

/-- The lift ends: no offer, nothing committed (R354). -/
def liftEnd (st : Nat) (s : State) : State :=
  { s with spm := { s.spm with lift := none, liftSt := st, offer := 0, req := 0, remH := 0 } }

/-- The lift of a slot ends when the channel leaves RUNNING or its START is cancelled (R354, R365). -/
def liftDrop (i : Fin 256) (s : State) : State :=
  match s.spm.lift with
  | some l => if l.slot = i then liftEnd 0 s else s
  | none => s

/-- E_avail in kJ at a speed, rounded down (Worked example 12.1). -/
def eAvailKj (st : StoreVal) (h v a g : Nat) : Nat :=
  let t := liftT h v a
  (st.eNum * t.2 + 1000 * g * t.1 * st.eDen) / (1000 * st.eDen * t.2)

/-- Travel since START in counts: what the count has moved since the last evaluation is added modulo 2^32 (R352, R438). -/
def liftTravel (s : State) (l : Lift) : Int := l.trav + countDiff s.saf.ax[l.axis].p l.p0

/-- Height still to travel, in nm (R352). -/
def liftH (s : State) (c : LiftCfg) (l : Lift) : Nat := l.height * 1000000 - mag (liftTravel s l) * c.nmPerCount

/-- The travel of a lift is taken up to now. -/
def Lift.moved (s : State) (l : Lift) : Lift := { l with trav := liftTravel s l, p0 := s.saf.ax[l.axis].p }

/-- The stop of R353 begins. E_avail has no speed to be formed at: a free value (log entry 4). A lowering forms none. -/
def liftStopping (l : Lift) (s : State) : State :=
  let (w, s) := if l.lower then (BitVec.ofNat 32 s.spm.eAvail, s) else takeFree s
  { s with spm := { s.spm with offer := 0, liftSt := 3, eAvail := w.toNat } }

/-- SPM_EAVAIL after an evaluation at a speed: the forecast is a hoist's (R349). -/
def eAvailAt (s : State) (c : LiftCfg) (l : Lift) (h v g : Nat) : Nat :=
  if l.lower then s.spm.eAvail else eAvailKj (storeNow s c) h v l.acc g

/-- The channel of a lift runs or waits to: a lift whose START was cancelled is no longer committed (R54, R289, R354). -/
def liftLive (s : State) (l : Lift) : Bool := s.chn.slots[l.slot].startPend || decide (s.chn.slots[l.slot].st = .running)

/-- LIFT_REEVALUATE (R352, R353, R355, R359-R364). -/
def liftReevaluate (s0 : State) : State :=
  match s0.img.lift with
  | none => s0
  | some c =>
    let s := showStore s0
    match s.spm.lift with
    | none => s
    | some l =>
      let h := liftH s c l
      let g := s.chn.slots[l.slot].grant
      if h = 0 ∨ !liftLive s l then liftEnd 0 s
      else
        let s := { s with spm := { s.spm with lift := some (l.moved s), remH := (Config.roundFree (h : Int) 1000000).toNat } }
        if s.spm.liftSt = 3 then s
        else match bestSpeed (speedFits s c l h g 10) c.vMinLift l.speed with
          | some v => { s with spm := { s.spm with
              offer := v, liftSt := if v = l.speed then 1 else 2, eAvail := eAvailAt s c l h v g } }
          | none => liftStopping l s

/-- LIFT_HOLD_SHORT (R353): at standstill for SSTILL_T the load is held and the lift ends HELD_SHORT. -/
def liftHoldShort (s : State) : State :=
  match s.spm.lift with
  | some l =>
    match axisCfg s l.axis with
    | some a =>
      if s.spm.liftSt = 3 ∧ s.saf.ax[l.axis].stillCyc ≥ 2 * a.sstillT then liftEnd 4 (nonsafeSs1 l.axis s) else s
    | none => s
  | none => s

/-! ### START (R149, R158, R159, R291, R347-R350) -/

/-- The refusal of a safety release, with the INDEX of Table 10.4; none where the release may be asked (R291). -/
def releaseRefusal (s : State) (n : Fin 4) : Option Nat :=
  let a := s.saf.ax[n]
  let c := (axisCfg s n).getD {}
  if a.st = .releasing ∨ a.st = .released then none
  else if a.latch ∨ a.st = .unused then some 0
  else if !(inputDems c s.saf.siLvl).isEmpty then some 1
  else if c.slpReq && !verified c a && !homeSelected c s.saf.siLvl then some 2
  else if a.st = .ss1 ∨ a.st = .braking then some 3
  else none

/-- The bridges of a release: those of BRIDGES that a drive channel bound to the axis owns (R291). -/
def releaseBridges (s : State) (n : Fin 4) : BitVec 4 :=
  ((axisCfg s n).getD {}).bridges &&& (fins 256).foldl (fun (m : BitVec 4) (i : Fin 256) =>
    let x := s.chn.slots[i]
    if x.st ≠ .free ∧ x.axis = some n then m ||| x.bridges else m) 0

/-- Ask for the release of an axis (R291). -/
def askRelease (n : Fin 4) (s : State) : State :=
  let a := s.saf.ax[n]
  if a.st = .releasing ∨ a.st = .released then s
  else
    let m := releaseBridges s n
    s.modAxis n fun a => { a with st := .releasing, relStep := 1, relBridges := m }

/-- Count a START: the slot becomes a consumer and waits for its boundary. -/
def startMark (i : Fin 256) (s : State) : State :=
  let k := s.chn.starts + 1
  let s := { s with chn := { s.chn with starts := k } }
  s.modSlot i fun x => { x with startPend := true, pShed := false, plCnt := 0, feTimer := 0, startOrder := if x.startPend then x.startOrder else k }

/-- The lift profile of a START (Table 12.1): the first command word in breach. -/
def profileBad (s : State) (x : Slot) (c : ChnCall) : Option Nat :=
  let h := c.w[1].toNat
  let v := getf c.w[2] 0 16
  let a := getf c.w[2] 16 16
  match s.img.lift with
  | none => some 1
  | some l =>
    if !isDrive s x || decide (x.axis ≠ some l.axis) then some 1
    else if h = 0 ∨ h ≥ 2147483648 then some 2
    else if v = 0 ∨ a = 0 ∨ v * v > a * h then some 3
    else if c.w[3].toNat > 1 then some 4
    else if c.w[4] ≠ 0 then some 5 else none

/-- The mass latched at START with MSRC (R348, R413). -/
def liftMass (s : State) (c : LiftCfg) : Nat × Nat :=
  let cabOk := s.cab.run && decide (s.cab.causes = 0) && decide (0 < s.cab.fastVer)
  if cabOk then (c.tackleKg + (max 0 (rne (sInt s.cab.fast) 1000)).toNat, 0)
  else if s.spm.hostMass ≠ 0 then (c.tackleKg + s.spm.hostMass.toNat, 1)
  else (c.tackleKg + c.ratedKg, 2)

/-- The lift that a profile asks for. -/
def liftOf (s : State) (cfg : LiftCfg) (i : Fin 256) (c : ChnCall) : Lift :=
  { slot := i, axis := cfg.axis, height := c.w[1].toNat, speed := getf c.w[2] 0 16, acc := getf c.w[2] 16 16
    lower := getb c.w[3] 0, mass := (liftMass s cfg).1, p0 := s.saf.ax[cfg.axis].p }

/-- Lift admission (R350, R355): result, reason and the offered speed. -/
def liftAdmit (s : State) (cfg : LiftCfg) (l : Lift) (g : Nat) : Nat × Nat × Nat :=
  let h := l.height * 1000000
  let fits := speedFits s cfg l h g 9
  if fits l.speed then (rOk, 0, l.speed)
  else match bestSpeed fits cfg.vMinLift l.speed with
    | some v => (rCurtailed, 0, v)
    | none =>
      if l.lower || !powerFits cfg (storeNow s cfg) l.mass cfg.vMinLift l.acc g then (rPower, 0x0F, 0) else (rEnergy, 0x10, 0)

/-- Commit an admitted lift (R350). -/
def liftCommit (cfg : LiftCfg) (l : Lift) (v : Nat) (s : State) : State :=
  let g := s.chn.slots[l.slot].grant
  let s := showStore s
  { s with spm := { s.spm with
      lift := some l, liftSt := if v = l.speed then 1 else 2, offer := v, req := l.speed, remH := l.height
      msrc := (liftMass s cfg).2, eAvail := eAvailAt s cfg l (l.height * 1000000) v g } }

/-- The power answer of a START that is no lift, on an allocated state: PSTAT decides (R149, R342). -/
def powerRefused (s : State) (i : Fin 256) : Bool := decide ((slotTemplate s s.chn.slots[i]).pclass ≤ 2) && decide (s.chn.slots[i].pstat = 3)

/-- START is answered REFUSED_POWER whatever the allocation gives: P1 and P2 under POWER_CRITICAL, P2 under PREF_TRIP (R340,
R344). -/
def powerBarred (s : State) (x : Slot) : Bool :=
  let k := (slotTemplate s x).pclass
  ((s.spm.crit || (s.img.spm.isSome && critNow s)) && (decide (k = 1) || decide (k = 2))) || (s.spm.prefTrip && decide (k = 2))

/-- The own checks of START on a slot (R149, R152, R159, R291, R347): the answer and the state when it is accepted. -/
def startOwn (i : Fin 256) (c : ChnCall) (s : State) : Ans × State :=
  let x := s.chn.slots[i]
  let lift := getb c.w[0] 0
  let no (r q idx : Nat) : Ans := { result := r, reason := q, handle := c.handle, index := idx }
  match if lift then profileBad s x c else none with
  | some k => (no rBadTemplate 0x12 k, s)
  | none =>
    if lift && s.spm.lift.any (liftLive s) then (no rBusy 0x13 0xFF, s)
    else match x.axis.bind fun n => if isDrive s x then releaseRefusal s n else none with
      | some k => (no rSafety 0x11 k, s)
      | none =>
        match (fins 4).find? fun (b : Fin 4) => x.bridges.getLsbD b && !s.trst.adopted with
        | some b => (no rResource 0x08 b.val, s)
        | none =>
          let s1 := spmAlloc (startMark i s)
          if powerBarred s x || (!lift && powerRefused s1 i) then (no rPower 0x0F 0xFF, s)
          else
            let g := s1.chn.slots[i].grant
            let s2 := if isDrive s x then (match x.axis with | some n => askRelease n s1 | none => s1) else s1
            match if lift then s.img.lift else none with
            | none =>
              let r := if (slotTemplate s x).pclass ≤ 2 ∧ g < x.pNom then rCurtailed else rOk
              ({ okAns s2 i with result := r, rsp2 := fld g 0 16 }, s2)
            | some cfg =>
              let l := liftOf s cfg i c
              let a := liftAdmit s1 cfg l g
              if a.1 = rOk ∨ a.1 = rCurtailed then
                -- the admission is the answer, whatever the grant: the START stands (R350)
                let s3 := s2.modSlot i fun x => { x with startPend := true }
                ({ okAns s3 i with result := a.1, rsp2 := fld g 0 16, rsp3 := fld a.2.2 0 32 }, liftCommit cfg l a.2.2 s3)
              else (no a.1 a.2.1 0xFF, s)

/-- START on a port. -/
def startBody (c : ChnCall) (m : Mode) (s : State) : Ans × State :=
  match handleCheck m s opStart c fun x => decide (x.st = .armed) || decide (x.st = .held) with
  | .error a => (a, s)
  | .ok i => startOwn i c s

/-! ### Events -/

/-- POWER_CRITICAL_CLEAR (R344): the P0 minimums have fitted for 1 s. -/
def powerCriticalClear (s : State) : State :=
  if s.spm.crit && !critNow s then spmAlloc { s with spm := { s.spm with crit := false } } else s

/-- LOAD_RED_ASSERT (R339): the ramp starts from the budget in force. -/
def loadRedAssert (s : State) : State :=
  if s.spm.loadRed then s
  else spmAlloc { s with spm := { s.spm with loadRed := true, ramp := some (match s.img.spm with | some c => sourceBudget s c | none => 0, 0) } }

/-- REDUCE_RAMP_STEP (R339): one millisecond of the ramp. -/
def reduceRampStep (s : State) : State :=
  match s.spm.ramp, s.img.spm with
  | some (a, k), some c => if k < c.redRamp then spmAlloc { s with spm := { s.spm with ramp := some (a, k + 1) } } else s
  | _, _ => s

/-- HOSTBUD_TIMEOUT (R337). -/
def hostbudTimeout (s : State) : State := spmAlloc { s with spm := { s.spm with hostOk := false } }

/-- A write of SPM_HOSTBUD (R336, R337). -/
def hostBudWrite (kw : BitVec 16) (s : State) : State :=
  spmAlloc { s with spm := { s.spm with hostBud := kw.toNat, hostOk := true } }

/-- PREF_TRIP (R340). -/
def prefTrip (s : State) : State := spmAlloc { s with spm := { s.spm with prefTrip := true } }

def execSpmAllocation (s : State) : Res := .next (spmAlloc s)
def execPowerCriticalClear (s : State) : Res := .next (powerCriticalClear s)
def execLoadRedAssert (s : State) : Res := .next (loadRedAssert s)
def execLoadRedRelease (s : State) : Res := .next { s with spm := { s.spm with loadRed := false, ramp := none } }
def execReduceRampStep (s : State) : Res := .next (reduceRampStep s)
def execPrefTrip (s : State) : Res := .next (prefTrip s)
def execPrefTripRelease (s : State) : Res := .next { s with spm := { s.spm with prefTrip := false } }
def execHostbudTimeout (s : State) : Res := .next (hostbudTimeout s)
def execLiftReevaluate (s : State) : Res := .next (liftReevaluate s)
def execLiftHoldShort (s : State) : Res := .next (liftHoldShort s)

end Sys2Proof.Machine
end

