-- ==== Sys2Proof/Machine/ChannelPorts.lean ====
section
/-! DEFINITION. Machine/ChannelPorts.lean: what returns with a channel that leaves RUNNING or goes FREE, DESTROY, and the service of the
mailbox ports in rotation (05_channels_and_handles.md R141, R142, R147, R148, R155, R158; R223, R341). -/
namespace Sys2Proof.Machine
open Sys2Proof

/-! ### Leaving RUNNING, and DESTROY -/

/-- A channel has left RUNNING: its following-error timer, grant and lift go, and the allocation is run again (R228, R341, R342, R354, R365).
The grant is back from here, before the slot is FREE (log entry 103). A channel that has been shed shows REFUSED (R343). -/
def leftRunning (i : Fin 256) (s : State) : State :=
  spmAlloc (liftDrop i (s.modSlot i fun c => { c with feTimer := 0, grant := 0, pShed := false }))

/-- A slot goes FREE; where it still had a grant or asked for one, the allocation is run again without it (R147, R341). -/
def freeConsumer (i : Fin 256) (s : State) : State :=
  let c := s.chn.slots[i]
  let s' := freeSlot i s
  if c.startPend ∨ c.st = .running then spmAlloc (liftDrop i s') else s'

/-- DESTROY of a channel in a state that accepts it: FREE at completion, or DRAINING at the next boundary; a pending SWAP is
discarded (R148, R155). A sample that waits in the queue is evaluated under DRAINING (R223). -/
def destroyDo (i : Fin 256) (s : State) : State :=
  let x := s.chn.slots[i]
  if x.st = .held ∨ x.st = .running then
    match x.wait with
    | some w =>
      let s := s.modSlot i fun x => { x with
        st := .draining, swapPend := none, startPend := false, feTimer := 0, wait := some { w with run := false, frozen := true } }
      if x.startPend ∨ x.st = .running then leftRunning i s else s
    | none => s.modSlot i fun x => { x with destroyPend := true, swapPend := none }
  else freeConsumer i s

def destroyBody (c : ChnCall) (m : Mode) (s : State) : Ans × State :=
  match handleCheck m s opDestroy c fun x =>
      decide (x.st ≠ .draining) && !x.destroyPend && !(decide (x.st = .running) && isDrive s x) with
  | .error a => (a, s)
  | .ok i =>
    let h := handleOf s i
    let s := destroyDo i s
    ({ okAns s i with handle := h }, s)

/-! ### The ports (R141, R142) -/

/-- The call that the command words of a port make (Table 5.4). -/
def portCall (p : Fin 4) (cmd : Vector Word 8) : ChnCall :=
  { port := p, ns := getb cmd[0] 8, handle := cmd[0].extractLsb' 16 16
    w := #v[cmd[1], cmd[2], cmd[3], cmd[4], cmd[5], cmd[6], cmd[7]] }

/-- A command by its OP (Table 5.4); CAPTURE with TRIG 0xF is a stop (R237); an OP that is no command is answered BAD_TEMPLATE,
INDEX 0 (R152). -/
def runCall (op : Nat) (c : ChnCall) (m : Mode) (s : State) : Ans × State :=
  match op with
  | 1 => createBody c m s
  | 2 => armBody c m s
  | 3 => startBody c m s
  | 4 => holdBody c m s
  | 5 => releaseBody c m s
  | 6 => swapBody c m s
  | 7 => injectBody c m s
  | 8 => if getf c.w[0] 8 4 = 0xF then captureStopBody c m s else captureBody c m s
  | 9 => destroyBody c m s
  | 10 => queryBody c m s
  | _ => ({ result := rBadTemplate, reason := 0x12, handle := c.handle, index := 0 }, s)

/-- What a command left waiting for a boundary follows LOCKOUT where the device has entered it since the command was accepted (R158). -/
def underLockout (m : Mode) (r : Ans × State) : Ans × State :=
  if r.2.sys.mode.isLockout && !m.isLockout then (r.1, lockHolds r.2) else r

/-- The manager serves the command that waits on a port, under the mode in which it was accepted (R142, R158). -/
def portServe (p : Fin 4) (s : State) : State :=
  let q := s.chn.ports[p]
  portAnswer p q.cmd (underLockout q.goMode (runCall (getf q.cmd[0] 0 8) (portCall p q.cmd) q.goMode s))

/-- The ports in rotation, from the one after the port served last (R142). -/
def portRotation (s : State) : List (Fin 4) := [1, 2, 3, 4].map fun k => Fin.ofNat 4 (s.chn.last.val + k)

/-- The ready ports that the rotation serves before a port (R142). -/
def portsAhead (p : Fin 4) (s : State) : List (Fin 4) := ((portRotation s).takeWhile (· ≠ p)).filter fun q => s.chn.ports[q].pend

/-- The ready ports ahead of a port are served, in rotation. -/
def serveAhead (p : Fin 4) (s : State) : State := (portsAhead p s).foldl (fun s q => portServe q s) s

/-- The manager's next turn: the first ready port in rotation; none while the core domain is off. -/
def managerTurn (s : State) : State :=
  match (portRotation s).find? fun q => s.chn.ports[q].pend with
  | some q => if domDown s 1 then s else portServe q s
  | none => s

/-- The command that waits on a port is answered: the ready ports ahead of it in rotation are served, and then it is (R142). -/
def portFinish (p : Fin 4) (s : State) : State := if s.chn.ports[p].pend then portServe p (serveAhead p s) else s

/-- GO on a port (Table 5.2): PEND is set, and the manager serves the command in its turn; a GO while PEND is set sets COLLIDE (R142). -/
def portGo (p : Fin 4) (s : State) : State :=
  if s.chn.ports[p].pend then portCollide p s else s.modPort p fun q => { q with pend := true, goMode := s.sys.mode }

/-- A command that is waited for, from its words to its response (Table 5.3): with PEND set it is ignored and COLLIDE is set; otherwise the
ready ports ahead of it in rotation are served, and then it is. The ports of a core domain that is off take nothing. -/
def serve (op : Nat) (c : ChnCall) (s : State) : State :=
  if domDown s 1 then s
  else if s.chn.ports[c.port].pend then portCollide c.port s
  else portAnswer c.port (callWords op c) (runCall op c s.sys.mode (serveAhead c.port s))

/-! ### Meanings -/

def execCreate (c : ChnCall) (s : State) : Res := .next (serve opCreate c s)
def execArm (c : ChnCall) (s : State) : Res := .next (serve opArm c s)
def execStart (c : ChnCall) (s : State) : Res := .next (serve opStart c s)
def execLiftStart (c : ChnCall) (s : State) : Res := .next (serve opStart { c with w := c.w.set 0 (c.w[0] ||| 1#32) } s)
def execHold (c : ChnCall) (s : State) : Res := .next (serve opHold c s)
def execRelease (c : ChnCall) (s : State) : Res := .next (serve opRelease c s)
def execSwap (c : ChnCall) (s : State) : Res := .next (serve opSwap c s)
def execInject (c : ChnCall) (s : State) : Res := .next (serve opInject c s)
def execInjectStop (c : ChnCall) (s : State) : Res := .next (serve opInject { c with w := c.w.set 0 (c.w[0] ||| 0xF0#32) } s)
def execCapture (c : ChnCall) (s : State) : Res := .next (serve opCapture c s)
def execCaptureStop (c : ChnCall) (s : State) : Res := .next (serve opCapture { c with w := c.w.set 0 (c.w[0] ||| 0xF00#32) } s)
def execDestroy (c : ChnCall) (s : State) : Res := .next (serve opDestroy c s)
def execQuery (c : ChnCall) (s : State) : Res := .next (serve opQuery c s)

end Sys2Proof.Machine
end

