-- ==== Sys2Proof/Machine/Reset.lean ====
section
/-! DEFINITION. Machine/Reset.lean: a full reset of the logic island, and the start of the application core (R45, R50, R498, R505,
R579, R628). -/
namespace Sys2Proof.Machine
open Sys2Proof

/-- The application core starts at its entry point, when the image carries a program (R45, Table 3.4); its interrupt enables take
their reset values (R628, log entry 44). -/
def startApp (s : State) : State :=
  if s.img.appLoad.isSome then
    { s with sys := { s.sys with appRun := true, appStarted := true, mirqEn0 := 0, mirqEn1 := 0 } }
  else s

/-- Every waiting history entry is written (R327). -/
def flushHist (s : State) : State :=
  s.saf.hist.foldl (fun s e => histStore e s) { s with saf := { s.saf with hist := [] } }

/-- Causes still recorded when a power cycle, or a reset that is not a granted deliberate reset, ends them: history entries of KIND 5 (Table
11.4, log entry 45). -/
def endCauses (s : State) : State := s.saf.causes.foldl (fun s c => histPush c.code 5 c.unit c.detail s) s

/-- The metrology island runs on with the records it holds and a command in flight, which stays pending; the CABW proxy takes its reset values
(R19, R410, R422, R505). -/
def Cab.proxyReset (c : Cab) : Cab :=
  { c with
    fifo := [], pres := 1, collide := false, pend := c.cmd.isSome, ie := false, stShown := 0, fast := 0, fastA := 0, fastD := 0
    fastVer := 0, regOp := 0, regTag := 0, regArg := 0, ansCode := 0, ansTag := 0, ansOp := 0, ansDisp := false, ansValid := false
    rec_ := .replicate 28 0 }

/-- The proxy at wake: its registers take their reset values but IE, which the Drawer keeps, and the answer, which waits (R422, R562; log
entry 110). -/
def Cab.woken (c : Cab) : Cab :=
  { c.proxyReset with
    ie := c.ie, ansCode := c.ansCode, ansTag := c.ansTag, ansOp := c.ansOp, ansDisp := c.ansDisp, ansValid := c.ansValid }

/-- A full reset of the logic island, the always-on domain and the Drawer (R505): BOOT.POWERUP follows at the release of reset. The
Chest, the OTP bits, the cells of the PMU, the RTC count, the deck island and the metrology island are not reset. Increments of
the lifetime counters that wait are lost (R579). Only a power cycle ends the memory of a lockstep mismatch (R315). -/
def fullReset (c : RstCause) (s : State) : State :=
  { State.reset with
    pending := s.pending, now := s.now, freeCtr := s.freeCtr, otp := { s.otp with hash := s.otp.newHash, revoked := s.otp.newRevoked }, mem := s.mem, dk := s.dk
    cab := s.cab.proxyReset
    aon := { rtcAcc := s.aon.rtcAcc, wake := s.aon.wake }
    pmu := { cause := c, railId := s.pmu.railId, fails := s.pmu.fails, failRail := s.pmu.failRail, row := s.pmu.row, rtcLost := s.pmu.rtcLost
             rails := s.pmu.rails, started := s.pmu.started, pg := s.pmu.pg, porst := s.pmu.porst }
    saf := { lockstepSeen := s.saf.lockstepSeen && decide (c ≠ .sagLoss) }
    sys := { maintLowAt := s.sys.maintLowAt } }

/-- A full reset that the device performs itself or that a pin asks for: the causes end with it and the history is written first. -/
def fullResetEnd (c : RstCause) (s : State) : State := fullReset c (flushHist (endCauses s))

end Sys2Proof.Machine
end

