-- ==== Sys2Proof/Machine/Trestle.lean ====
section
/-! DEFINITION. Machine/Trestle.lean: frames, link-up, adoption and loss of the deck, sleep and wake, and the deck's supply
and clock (01_three_islands.md R22-R29, R33, R38-R42; R248, R250; R264, R486, R499). -/
namespace Sys2Proof.Machine
open Sys2Proof

/-! ### Frames (Table 1.3) -/

/-- The sync field 0xA7 and the CRC of an n-bit frame hold; the CRC covers every bit after the sync field (R22). DESIGN CHOICE (log
entry 94): a frame whose sync field is not 0xA7 counts as one whose CRC fails. -/
def frameOk (n : Nat) (f : BitVec n) : Bool :=
  decide (f.toNat / 2 ^ (n - 8) = 0xA7) &&
    decide (crc16 (bitsMsb (f.toNat / 2 ^ 16) (n - 24)) = BitVec.ofNat 16 f.toNat)

/-- Sequence number of a frame. -/
def frameSeq (n : Nat) (f : BitVec n) : BitVec 4 := BitVec.ofNat 4 (f.toNat / 2 ^ (n - 12))

/-- Type of a frame: 0 data, 1 idle, 2 training; a good frame of a reserved type is accepted and carries nothing (log entry 94). -/
def frameType (n : Nat) (f : BitVec n) : Nat := f.toNat / 2 ^ (n - 16) % 16

/-- Whether a frame is accepted, and how many frames before it are lost: those in between that were not already discarded and
counted for their CRC since the last good frame (R23). -/
def frameJudge (n : Nat) (f : BitVec n) (last : Option (BitVec 4)) (disc : Nat) : Bool × Nat :=
  if !frameOk n f then (false, 0)
  else match last with
    | none => (true, 0)
    | some l => if frameSeq n f = l then (false, 0) else (true, (frameSeq n f - l - 1).toNat - disc)

/-- Frames discarded for their CRC since the last good frame, after this one: an accepted frame starts the count anew, and one that
repeats the last sequence number stands for no frame in between. -/
def discNext (n : Nat) (f : BitVec n) (acc : Bool) (disc : Nat) : Nat :=
  if acc then 0 else if frameOk n f then disc else disc + 1

/-- Shift k bad frame periods into a window of 16 (R24). -/
def histBad (k : Nat) (h : BitVec 16) : BitVec 16 := (List.range k).foldl (fun h _ => h <<< 1 ||| 1#16) h

/-- The window after a frame: bad periods, then a good one when the frame is accepted. -/
def histNext (acc : Bool) (lost : Nat) (h : BitVec 16) : BitVec 16 :=
  if acc then histBad lost h <<< 1 else histBad 1 h

/-- Three or more bad frame periods of 16 (R24). -/
def crcLimit (h : BitVec 16) : Bool := decide (3 ≤ popcount16 h)

/-! ### Decimation (R250) -/

/-- One sample of a sinc3 filter of ratio osr: currents count +1 and -1, DC-link voltages 1 and 0 (log entry 20). -/
def Decim.step (osr : Nat) (dc : Bool) (b : Bool) (d : Decim) : Decim :=
  let x : Word := if b then 1 else if dc then 0 else -1
  let i1 := d.i1 + x
  let i2 := d.i2 + i1
  let i3 := d.i3 + i2
  if d.phase + 1 < osr then { d with i1 := i1, i2 := i2, i3 := i3, phase := d.phase + 1 }
  else
    let c1 := i3 - d.d1
    let c2 := c1 - d.d2
    let c3 := c2 - d.d3
    let y := Config.roundFree (sInt c3 * 2147483648) (osr * osr * osr)
    { d with i1 := i1, i2 := i2, i3 := i3, d1 := i3, d2 := c1, d3 := c2, phase := 0
             skip := d.skip - 1
             out := if d.skip = 0 then sat32 y else d.out
             count := if d.skip = 0 then d.count + 1 else d.count }

/-- Restart of every decimator: the first three outputs are discarded, at link-up and after each wake (R250). -/
def decimRestart (t : Trestle) : Trestle :=
  { t with dec := t.dec.map fun d => { out := d.out, count := d.count } }

/-- The 20 samples of one modulator in an up-frame: modulator 4n first, earliest sample first (log entry 20). -/
def frameSamples (f : BitVec 160) (m : Nat) : List Bool := bitsMsb (f.toNat / 2 ^ (64 + 20 * (3 - m))) 20

/-- The decimators of a lane take the samples of a data frame. -/
def decimTake (lane : Fin 4) (f : BitVec 160) (osr8 : Nat) (t : Trestle) : Trestle :=
  { t with dec := t.dec.mapFinIdx fun i d _ =>
      if i / 4 = lane.val then (frameSamples f (i % 4)).foldl (fun d b => d.step (8 * osr8) (decide (i % 4 = 3)) b) d else d }

/-! ### Link-up and adoption -/

/-- The deck record may be sent and the deck adopted: in BOOT.SELFTEST, or again under R29 (R27-R29). -/
def readopt (s : State) : Bool :=
  decide (s.sys.mode = .lockoutFault) && s.trst.everAdopted && s.saf.causes.any fun c => decide (c.code = cDeckLost)

def mayAdopt (s : State) : Bool :=
  s.sys.dkpresent && !s.trst.adopted && ((decide (s.sys.mode = .bootSelftest) && !s.trst.selftestOver) || readopt s)

/-- Send the deck record down the Trestle (R248). -/
def sendRecord (s : State) : State :=
  if s.trst.linkUp && mayAdopt s then { s with trst := { s.trst with recSent := true, recSends := s.trst.recSends + 1 } } else s

/-- The link is up when every up-lane has delivered 64 good frames in a row and HBU toggles (R27). A deck that reports link-up is awake:
a sleep command still in force ends there (R29, R33). -/
def linkCheck (s : State) : State :=
  if s.sys.dkpresent && !s.trst.adopted && !s.trst.linkUp && s.dk.hbu && s.trst.up.all fun l => decide (l.good ≥ 64) then
    sendRecord { s with
      trst := decimRestart { s.trst with linkUp := true, recSent := false, recSends := 0, sleepSent := false, sleep := false, wakeSent := false }
      dk := { s.dk with asleep := false } }
  else s

/-- Link-up starts again: every lane counts 64 good frames anew (R23, R27). -/
def linkRestart (s : State) : State :=
  { s with trst := { s.trst with linkUp := false, recSent := false, up := s.trst.up.map fun l => { l with good := 0 } } }

/-- The DK proxy takes the deck's status from the auxiliary field (Table 1.2; log entry 21). -/
def proxyTake (s : State) : State :=
  { s with trst := { s.trst with
      dnErrs := if s.trst.adopted then s.dk.dnErrs else s.trst.dnErrs
      dnHist := s.dk.dnHist
      statVer := s.trst.statVer + 1
      pxB3store := s.dk.cfg.b3store && s.dk.acked
      pxChop := s.dk.chop
      px := s.trst.px.mapFinIdx fun i p h =>
        let b := s.dk.br[i]
        { p with released := b.released, run := b.run, snap := if p.bfault && b.fault then b.snap else p.snap, ntcWarn := b.ntcWarn, h := b.h % 4096, n := b.lastN
                 temp := b.ntcTemp, ntcOpen := b.ntcOpen, ntcShort := b.ntcShort, flt := b.flt } } }

/-- Whether frame errors count: while the deck is adopted and linked, no sleep command is in force, and no wake command waits for the
deck's report of link-up (R23, R33). -/
def countsErrors (s : State) : Bool := s.trst.adopted && s.trst.linkUp && !s.trst.sleep && !s.trst.wakeSent

/-- UP_FRAME (R22-R24, R27, R250). The decimators run at the OSR that the image sets on the logic side (Table 9.1). DETAIL of
TRESTLE_CRC is the up-lane whose frame is at hand, also where a down-lane's reported count crossed the limit (DESIGN CHOICE, log
entry 95). -/
def upFrame (lane : Fin 4) (f : BitVec 160) (s : State) : State :=
  let l := s.trst.up[lane]
  let j := frameJudge 160 f l.last l.disc
  let counts := countsErrors s
  let bad := if j.1 then j.2 else 1
  let l' : UpLane :=
    { last := if j.1 then some (frameSeq 160 f) else l.last
      hist := if counts then histNext j.1 j.2 l.hist else l.hist
      disc := discNext 160 f j.1 l.disc
      errs := if counts then satNat 255 (l.errs + bad) else l.errs
      good := if j.1 then (if bad = 0 then satNat 64 (l.good + 1) else 1) else 0 }
  let s1 := if !counts && decide (bad ≠ 0) then linkRestart s else s
  let s2 := { s1 with trst := { s1.trst with up := s1.trst.up.set lane l' } }
  let s3 := if j.1 && decide (frameType 160 f = 0) then
      proxyTake { s2 with trst := decimTake lane f s2.img.deck.osr8[lane] s2.trst }
    else s2
  let s4 := linkCheck s3
  if counts && (crcLimit l'.hist || s4.trst.dnHist.any crcLimit) then raise cTrestleCrc 0xFF (fld lane 0 8) s4 else s4

/-- A pair of chopper values takes effect when the on-threshold is above the off-threshold and below DC_OV (R270). -/
def chopTake (s : State) : State :=
  match s.dk.chopOn, s.dk.chopOff with
  | some on, some off =>
    if sInt on > sInt off ∧ sInt on < dcCode s.dk.cfg.dcOv[3] then { s with dk := { s.dk with chopPair := some (on, off) } } else s
  | _, _ => s

/-- The deck loses the link: both chopper values and the pair in force are discarded (R270). -/
def chopDrop (d : Deck) : Deck := { d.chopStop with chopOn := none, chopOff := none, chopPair := none }

/-- The deck record as the secure core sends it: that of section 0x30, and under R29 the bridge faults with their snapshots that the
logic island holds (R248, R267). -/
def recordCmd (s : State) : DeckCmd :=
  .record s.img.deck (if s.sys.mode = .bootSelftest then .replicate 4 none else s.trst.px.map fun p => if p.bfault then some p.snap else none)

/-- A command group of the logic island: the update that a HYSC stage issued last, the value that a DECK port took last, a pre-release
test of the safety monitor, or the deck record in at most 10 frame periods (R23, R177, R178, R248, R254, Procedure 11.1). No other
words come down the lanes. -/
def downSent (s : State) (p : DownPart) : Bool :=
  match p.cmd with
  | .hysc u => decide (s.trst.hysc[u.bridge] = some u)
  | .chop off v => decide (s.trst.chopOut[if off then (1 : Fin 2) else 0] = some v)
  | .preTest b => s.trst.preTest[b]
  | .record _ _ => s.trst.recSent && decide (p.cmd = recordCmd s) && decide (p.frames ≤ 10)

/-- The deck applies a whole command group (R23, R248, R254, R263, R270). Leg W of the store bridge is never the HYSC stage's: its LO switch
is the chopper's, whatever RUN is (R256, R269, R270; DEDUCED, log entry 115). -/
def deckApply (c : DeckCmd) (s : State) : State :=
  match c with
  | .hysc u =>
    let store := s.dk.cfg.b3store && decide (u.bridge = 3)
    s.modBr u.bridge fun b =>
      let x := b.hysc { u with noW := u.noW || store }
      if store then { x with sw := x.sw.set 5 b.sw[5] } else x
  | .chop off v =>
    let d := s.dk
    let changed := if off then decide (d.chopOff ≠ some v) else decide (d.chopOn ≠ some v)
    let s := { s with dk := if off then { d with chopOff := some v } else { d with chopOn := some v } }
    if changed then chopTake s else s
  | .preTest b =>
    let s := s.modBr b fun x => { x.stop with testHold := true, gapSeen := false }
    if b = 3 then { s with dk := s.dk.chopStop } else s
  | .record r fs => { s with dk := { s.dk with got := some (r, fs) } }

/-- DOWN_FRAME: the deck receives a frame on DN0 or DN1; a group is applied once every frame that carries part of it has been
accepted, and dropped whole when one of them is discarded (R23). A group that the logic island has not sent carries nothing. -/
def downFrame (lane : Fin 2) (f : BitVec 80) (part : Option DownPart) (s : State) : State :=
  if !s.dk.clk || !s.dk.powered then s
  else
    let j := frameJudge 80 f s.dk.dnLast[lane] s.dk.dnDisc[lane]
    let counts := countsErrors s
    let bad := if j.1 then j.2 else 1
    let d := { s.dk with
      dnLast := if j.1 then s.dk.dnLast.set lane (some (frameSeq 80 f)) else s.dk.dnLast
      dnErrs := if counts then vmod s.dk.dnErrs lane fun n => satNat 255 (n + bad) else s.dk.dnErrs
      dnDisc := vmod s.dk.dnDisc lane (discNext 80 f j.1)
      dnHist := if counts then vmod s.dk.dnHist lane (histNext j.1 j.2) else s.dk.dnHist }
    let s := { s with dk := d }
    match part with
    | none => s
    | some p =>
      if !j.1 then { s with dk := { s.dk with groups := kvDel p.group s.dk.groups } }
      else if frameType 80 f ≠ 0 then s
      else match kvGet p.group s.dk.groups with
        | none =>
          if !downSent s p then s
          else if p.frames ≤ 1 then deckApply p.cmd s
          else { s with dk := { s.dk with groups := kvSet p.group { got := 1, cmd := p.cmd } s.dk.groups } }
        | some g =>
          if g.got + 1 ≥ p.frames then deckApply g.cmd { s with dk := { s.dk with groups := kvDel p.group s.dk.groups } }
          else { s with dk := { s.dk with groups := kvSet p.group { g with got := g.got + 1 } s.dk.groups } }

/-- DECK_RECORD_RESEND: no acknowledgement 200 microseconds after the record was sent (R248). -/
def deckRecordResend (s : State) : State := if s.trst.recSent then sendRecord s else s

/-- A bridge of the deck at the acknowledgement of the record: in BOOT.SELFTEST its latch and snapshot clear; otherwise it keeps its own
and latches again what was sent with the record (R248, R267). -/
def DkBridge.acked (selftest : Bool) (sent : Option Snap) (b : DkBridge) : DkBridge :=
  if selftest then { b with fault := false, snap := {} }
  else if b.fault then b
  else match sent with
    | some n => { b.stop with fault := true, snap := n }
    | none => b

/-- B3 with the record's B3STORE: no bridge is released before the acknowledgement (R248), so B3 begins a changed role off, with RUN 0 (DEDUCED, log
entry 115). -/
def DkBridge.role (changed : Bool) (b : DkBridge) : DkBridge := if changed then { b.stop with run := false } else b

/-- DECK_RECORD_ACK: the deck acknowledges a whole record that it has received; the logic island adopts the deck where R27 or R29 lets
it, and otherwise refuses (R28). -/
def deckRecordAck (s : State) : State :=
  match s.dk.got with
  | none => s
  | some (r, fs) =>
    let selftest := decide (s.sys.mode = .bootSelftest)
    let changed := decide (r.b3store ≠ s.dk.cfg.b3store)
    let d := if changed then s.dk.chopStop else s.dk
    let d := { d with
      got := none, cfg := r, acked := true, dnHist := .replicate 2 0, trip := if selftest then .replicate 4 false else s.dk.trip
      br := d.br.mapFinIdx fun i b h => (b.acked selftest fs[i]).role (changed && i == 3) }
    let s1 := { s with dk := d }
    if s.trst.recSent && s.trst.linkUp && mayAdopt s then
      { s1 with trst := { s1.trst with
          adopted := true, everAdopted := true, recSent := false
          up := s1.trst.up.map fun l => { l with hist := 0 }, dnHist := .replicate 2 0 } }
    else s1

/-- The deck turns a bridge off on carrier loss and notes it (R264, R268, R275). -/
def DkBridge.carrierGone (kind : Nat) (t : Word) (b : DkBridge) : DkBridge :=
  { (b.stop.noteLoss kind t) with ka := false, gapSeen := b.testHold || b.gapSeen }

/-- CARRIER_LOSS: no edge on KAn for 2 microseconds (R25, R264). The deck reports the gap of a pre-release test by it. -/
def carrierLoss (b : Fin 4) (t : Word) (s : State) : State :=
  if s.dk.powered then
    let s := s.modBr b (DkBridge.carrierGone 6 t)
    if b = 3 then { s with dk := s.dk.chopStop } else s
  else s

/-- HBD_TIMEOUT: no edge on HBD for 8 microseconds, treated as loss of all four carriers, except while a sleep command is in
force (R26, R33); the link is lost, so the chopper values go (R270). -/
def hbdTimeout (t : Word) (s : State) : State :=
  if s.dk.powered && !s.dk.asleep then
    { s with dk := chopDrop { s.dk with hbd := false, br := s.dk.br.map (DkBridge.carrierGone 7 t) } }
  else s

/-- The deck is lost: no longer adopted, link-up starts again, DECK_LOST is raised (R26, R39). -/
def deckLost (s : State) : State :=
  let s1 := linkRestart { s with trst := { s.trst with adopted := false } }
  raise cDeckLost 0xFF 0 s1

/-- DECK_LOST: no HBU edge from an adopted deck for 8 microseconds, unless a sleep command is in force (R26, R33). -/
def deckLostEvent (s : State) : State := if s.trst.adopted && !s.trst.sleep then deckLost s else s

/-- FRAME_RATE_WINDOW: the up-lane frames of a 1 ms window are judged against 980-1 020 (R27, Table 17.5). -/
def frameRateWindow (count : Nat) (s : State) : State :=
  if s.trst.adopted && !s.trst.sleep && (decide (count < 980) || decide (count > 1020)) then deckLost s else s

/-- HBU_PAUSE: before adoption, an HBU pause of 8 microseconds restarts link-up, and no code is raised (R27). -/
def hbuPause (s : State) : State := if s.trst.adopted then s else linkRestart s

/-- DECK_SLEEP: the deck takes the sleep command and acknowledges it; from then it is in force on both sides (R33, R270). -/
def deckSleep (s : State) : State :=
  if s.trst.sleepSent && s.dk.powered && s.dk.clk then
    { s with
      trst := { s.trst with sleep := true, sleepSent := false, linkUp := false }
      dk := chopDrop { s.dk with asleep := true, br := s.dk.br.map DkBridge.stop } }
  else s

/-- DECK_WAKE: the deck takes the wake command and reports link-up: it drives its outputs again with every gate command off
and STOE low, and the decimators start anew (R33, R250). -/
def deckWake (s : State) : State :=
  if s.trst.wakeSent && s.dk.powered && s.dk.clk then
    { s with
      trst := decimRestart { s.trst with
        sleep := false, wakeSent := false, linkUp := true, up := s.trst.up.map fun l => { l with last := none, hist := 0, disc := 0, good := 64 } }
      dk := { s.dk with asleep := false, hbd := true, br := s.dk.br.map DkBridge.stop
                        dnLast := .replicate 2 none, dnHist := .replicate 2 0, dnDisc := .replicate 2 0 } }
  else s

/-- The deck after its own power-up: every gate command off, every STOE low, no record, no latch, training frames and HBU (R27,
R267, R486, R499). -/
def deckFresh (s : State) : Deck := { powered := true, clk := true, hbu := true, hbd := hbdToggles s }

/-- DECK_POWER_UP: VDK has been above 13.5 V for 1 ms (R499). -/
def deckPowerUp (s : State) : State := if s.dk.powered then s else { s with dk := deckFresh s }

/-- VDK_FAIL: VDK below 13.2 V for 5 microseconds: gate commands off, STOE low, HBU stops; the deck loses its own latches (R267,
R499). DECK_LOST follows as its own event. -/
def vdkFail (s : State) : State := { s with dk := {} }

/-- CLK_DK_LOSS: the monitor forces every gate command off and STOE low; the up-lanes and HBU stop (R486). -/
def clkDkLoss (s : State) : State :=
  let d := s.dk.chopStop
  { s with dk := { d with clk := false, hbu := false, br := d.br.map DkBridge.stop } }

/-- CLK_DK_RETURN: the deck restarts as at its own power-up (R486). -/
def clkDkReturn (s : State) : State := if s.dk.powered && !s.dk.clk then { s with dk := deckFresh s } else s

/-! ### Meanings -/

def execUpFrame (lane : Fin 4) (f : BitVec 160) (s : State) : Res := .next (upFrame lane f s)
def execDownFrame (lane : Fin 2) (f : BitVec 80) (p : Option DownPart) (s : State) : Res := .next (downFrame lane f p s)
def execDeckRecordResend (s : State) : Res := .next (deckRecordResend s)
def execDeckRecordAck (s : State) : Res := .next (deckRecordAck s)
def execHbdTimeout (t : Word) (s : State) : Res := .next (hbdTimeout t s)
def execDeckLost (s : State) : Res := .next (deckLostEvent s)
def execFrameRateWindow (count : Nat) (s : State) : Res := .next (frameRateWindow count s)
def execDeckSleep (s : State) : Res := .next (watchTokens (deckSleep s))
def execDeckWake (s : State) : Res := .next (deckWake s)
def execDeckPowerUp (s : State) : Res := .next (deckPowerUp s)
def execVdkFail (s : State) : Res := .next (vdkFail s)
def execCarrierLoss (b : Fin 4) (t : Word) (s : State) : Res := .next (carrierLoss b t s)
def execClkDkLoss (s : State) : Res := .next (clkDkLoss s)
def execClkDkReturn (s : State) : Res := .next (clkDkReturn s)
def execHbuPause (s : State) : Res := .next (hbuPause s)

end Sys2Proof.Machine
end

