-- ==== Sys2Proof/Machine/Modes.lean ====
section
/-! DEFINITION. Machine/Modes.lean: recipe requests and recipe changes, LOCKOUT.MAINT, and the deliberate reset
(02_modes_and_recipes.md; 11_safety_diagnostics_lockout.md R325-R326, R330, R335). -/
namespace Sys2Proof.Machine
open Sys2Proof

/-! ### Recipes (Tables 2.9-2.12) -/

/-- Recipe k of the mode table. -/
def recipeAt (s : State) (k : Nat) : Option Recipe := s.img.mode.bind fun m => m.recipes[k]?

/-- The restored recipe is the one that the end of BOOT activates (R58). -/
def bootRestores (s : State) : Bool :=
  match s.img.mode with
  | none => false
  | some m => m.restore && decide (s.save.restore = 1) && s.save.restRcp.isSome

/-- The recipe that the end of BOOT activates (R58). -/
def bootRecipe (s : State) : Option Nat :=
  match s.img.mode with
  | none => none
  | some m => if bootRestores s then s.save.restRcp else m.dflt

/-- A restored recipe creates no KEY marked DESTROYED and takes the BANK recorded for each KEY (R539). -/
def restoreEntries (l : List (Nat × (Bool × Bool))) (r : Recipe) : Recipe :=
  { r with chans := r.chans.filterMap fun e => match kvGet e.key l with
      | some (bankB, gone) => if gone then none else some { e with bankB := bankB }
      | none => some e }

/-- The recipe that a change makes: as the mode table has it, or as restored at the end of BOOT. -/
def recipeMade (s : State) (asked : Bool) (k : Nat) : Option Recipe :=
  (recipeAt s k).map fun r => if !asked && bootRestores s then restoreEntries s.save.restKeys r else r

/-- The active recipe, none while RCP_VALID is 0. -/
def activeRecipe (s : State) : Option Recipe := if s.sys.rcpValid then recipeAt s s.sys.recipe else none

/-- The entry of a recipe with the KEY and TEMPLATE of another entry (R59). -/
def sameEntry (r : Recipe) (e : ChanEntry) : Option ChanEntry := r.chans.find? fun x => decide (x.key = e.key) && decide (x.template = e.template)

/-- Entries of a recipe without a match in another, with their numbers. -/
def newEntries (old : Option Recipe) (r : Recipe) : List (Nat × ChanEntry) :=
  (List.range r.chans.length).filterMap fun i => match r.chans[i]? with
    | some e => if ((old.bind fun o => sameEntry o e)).isSome then none else some (i, e)
    | none => none

/-- Channels of the old recipe that a change destroys (R59); one destroyed through the Channel Manager is skipped. -/
def goingSlots (s : State) (r : Recipe) : List (Fin 256) :=
  match activeRecipe s with
  | none => []
  | some o => o.chans.filterMap fun e => if (sameEntry r e).isSome then none else keySlot s e.key

/-- Kept channels: slot, old entry and new entry (R59). -/
def keptSlots (s : State) (r : Recipe) : List (Fin 256 × (ChanEntry × ChanEntry)) :=
  match activeRecipe s with
  | none => []
  | some o => o.chans.filterMap fun e => match sameEntry r e, keySlot s e.key with
    | some n, some i => some (i, (e, n))
    | _, _ => none

/-! ### Checks of R61 -/

/-- An entry condition holds (R60, R650): the secure core reads the register in the secure world; a field that cannot be read does not
hold (log entry 46). -/
def condHolds (s : State) (c : CondEntry) : Bool :=
  let a := c.addr.toNat
  match target a with
  | .periph b o =>
    if domDown s (blockDomain b) then false
    else match regRead s 0 .S b o with
      | none => false
      | some x =>
        let f := getf x c.lsb c.width
        let sx (v w : Nat) : Int := if v < 2 ^ (w - 1) then (v : Int) else (v : Int) - (2 ^ w : Nat)
        let l : Int := if c.signed then sx f c.width else f
        let r : Int := if c.signed then sInt c.value else c.value.toNat
        match c.op with
        | 0 => decide (l = r) | 1 => decide (l ≠ r) | 2 => decide (l < r) | 3 => decide (l ≤ r) | 4 => decide (l > r) | _ => decide (l ≥ r)
  | _ => false

/-- A channel at rest (R53). -/
def atRest (c : Slot) : Bool := decide (c.st = .created) || decide (c.st = .armed) || decide (c.st = .held) || decide (c.st = .faulted)

/-- Check 6: the lowest slot in breach. -/
def restBreach (s : State) (r : Recipe) : Option (Fin 256) :=
  let bad1 := (goingSlots s r).filter fun i => isDrive s s.chn.slots[i] && !atRest s.chn.slots[i]
  let bad2 := (keptSlots s r).filterMap fun k =>
    let c := s.chn.slots[k.1]
    if isDrive s c && !atRest c && !(k.2.1.xferOk && k.2.2.xferOk) then some k.1 else none
  (fins 256).find? fun i => bad1.contains i || bad2.contains i

/-- An axis has STO active on its bridges and its brakes applied (R53, R61 check 7). -/
def axisSafe (s : State) (n : Fin 4) : Bool :=
  let a := s.saf.ax[n]
  (decide (a.st = .sto) || decide (a.st = .unused)) && (match axisCfg s n with | some c => brakesApplied c s && decide (s.saf.ka &&& c.bridges = 0) | none => true)

/-- Check 7: the first axis whose configuration changes and that is not safe. -/
def axisBreach (s : State) (r : Recipe) : Option (Fin 4) :=
  (fins 4).find? fun (n : Fin 4) => decide (s.saf.ax[n].cfgIdx ≠ r.axisCfg[n]) && !axisSafe s n

/-- An axis takes a configuration (R63, R288, R313): LATCH and W are kept, a press under way is ignored, the position is as verified as
its port (R540). -/
def Axis.configure (img : Img) (unver absOk : BitVec 4) (new : Option Nat) (a : Axis) : Axis :=
  if a.cfgIdx = new then a
  else
    let c := new.bind fun i => img.axes[i]?
    { a with
      cfgIdx := new, st := if c.isSome then .sto else .unused, nonsafe := false, rstHighAt := none, slsCeil := none, gov := none, slsSelNow := 0
      relBridges := 0, relStep := 0, stillCyc := 0, xcOn := false
      unver := match c with | some c => (match c.pos1 with | some x => if x.abs then !absOk.getLsbD x.port else unver.getLsbD x.port | none => true) | none => false }

/-- The axis configurations of a recipe take effect. -/
def setAxes (r : Recipe) (s : State) : State :=
  { s with saf := { s.saf with ax := s.saf.ax.mapFinIdx fun i a h => a.configure s.img s.save.unver s.save.absOk (r.axisCfg[i]'h) } }

/-- The plan of a channel entry under the checks of CREATE (R61 check 8, R63). -/
def entryPlan (s : State) (e : ChanEntry) : Except Ans Plan :=
  createPlan s .S e.template ((e.axis.map Fin.val).getD 0xFF) e.bankB (some e.binds) []

/-- Check 8: the new channels are created one after the other on a copy of the device in which the destroyed ones are free and the new axis
configurations in force; the first refusal with its entry number. -/
def admitBreach (s : State) (r : Recipe) : Option (Nat × Ans) :=
  let s0 := setAxes r ((goingSlots s r).foldl (fun s i => freeSlot i s) s)
  ((newEntries (activeRecipe s) r).foldl (fun (x : State × Option (Nat × Ans)) e =>
    match x.2 with
    | some _ => x
    | none => match entryPlan x.1 e.2 with
      | .error a => (x.1, some (e.1, a))
      | .ok p => (createDo p e.2.key x.1, none)) (s0, none)).2

/-- The checks of R61 from check 2 on: RESULT, REASON, INDEX of the first failure. -/
def recipeRefusal (s : State) (w : World) (k : Nat) (asked : Bool) : Option (Nat × (Nat × Nat)) :=
  match recipeMade s asked k with
  | none => some (rMode, 0x5, 0xFF)
  | some r =>
    if asked ∧ w = .NS ∧ !r.nsSelect then some (rWorld, 0x5, 0xFF)
    else if asked ∧ s.sys.mode ≠ .operate then some (rMode, 0x1, 0xFF)
    else match r.conds.findIdx? fun c => !condHolds s c with
      | some i => some (rMode, 0x3, i)
      | none => match restBreach s r with
        | some i => some (rMode, 0x2, i.val)
        | none => match axisBreach s r with
          | some n => some (rSafety, 0x7, n.val)
          | none => (admitBreach s r).map fun x => (x.2.result, (0x6, x.1))

/-! ### The three steps of a change (R63) -/

/-- One new channel is created and armed; a non-drive one with AUTOSTART starts at its first boundary, in LOCKOUT after the return to
OPERATE, also where LOCKOUT comes between its START and that boundary (R63, R67). -/
def createEntry (e : ChanEntry) (s : State) : State :=
  match entryPlan s e with
  | .error _ => s
  | .ok p =>
    let s := armDo p.slot (createDo p e.key s)
    let s := { s with sys := { s.sys with keys := kvSet e.key (p.slot, s.chn.slots[p.slot].gen) s.sys.keys } }
    if e.autostart && !isDrive s s.chn.slots[p.slot] then
      let s := if s.sys.mode = .operate then (startOwn p.slot {} s).2 else s
      s.modSlot p.slot fun x => { x with autoPend := x.startPend || decide (s.sys.mode ≠ .operate) }
    else s

/-- A change ends: SWITCHING and RECIPE change, the request is answered (R63). -/
def recipeDone (s : State) : State :=
  match s.sys.change with
  | none => s
  | some c => modeDone { s with sys := { s.sys with change := none, switching := false, recipe := c.rcp, rcpValid := true } }

/-- After step 3's swaps: the change ends when none still waits. -/
def recipeProgress (s : State) : State :=
  match s.sys.change with
  | some c =>
    if c.step = 3 then
      let w := c.swaps.filter fun i => s.chn.slots[i].swapPend.isSome
      if w.isEmpty then recipeDone s else { s with sys := { s.sys with change := some { c with swaps := w } } }
    else s
  | none => s

/-- Step 3 for one kept channel: its bank swaps at its next boundary, at once for a channel that has none (R63, R185). -/
def keepSwap (k : Fin 256 × (ChanEntry × ChanEntry)) (s : State) : State :=
  let c := s.chn.slots[k.1]
  if c.bankB = k.2.2.bankB then s
  else if c.st = .running ∨ c.st = .held then
    let s := s.modSlot k.1 fun c => { c with swapPend := some 0 }
    match s.sys.change with
    | some x => { s with sys := { s.sys with change := some { x with swaps := x.swaps ++ [k.1] } } }
    | none => s
  else bankSwap k.1 0 s

/-- Steps 2 and 3: the axis configurations, the new channels, the swaps of the kept ones (R63). -/
def recipeBuild (s : State) : State :=
  match s.sys.change with
  | none => s
  | some c => match recipeMade s c.asked c.rcp with
    | none => s
    | some r =>
      let news := newEntries (activeRecipe s) r
      let kept := keptSlots s r
      let keep := r.chans.map ChanEntry.key
      let s := setAxes r { s with sys := { s.sys with keys := s.sys.keys.filter fun x => keep.contains x.1 } }
      let s := news.foldl (fun s e => createEntry e.2 s) s
      let s := { s with sys := { s.sys with change := some { c with step := 3, swaps := [] } } }
      recipeProgress (kept.foldl (fun s k => keepSwap k s) s)

/-- Every destroyed channel of the change is FREE. -/
def changeFreed (s : State) (c : RcpChange) : Bool := c.destroyed.all fun i => decide (s.chn.slots[i].st = .free)

/-- RECIPE_CREATE_CHANNELS: with every destroyed channel FREE, steps 2 and 3 run; in LOCKOUT.FAULT too (R63, R67). -/
def recipeCreateChannels (s : State) : State :=
  match s.sys.change with
  | some c => if c.step = 1 ∧ changeFreed s c then recipeBuild s else s
  | none => s

/-- SELECT_RECIPE (R61, R63, R65): on acceptance step 1 destroys the channels that leave. -/
def selectRecipe (by_ : Requester) (k : Nat) (s : State) : State :=
  modeAsk by_ actSelect k (fun s =>
    match recipeRefusal s (reqWorld by_) k true with
    | some (res, (reason, index)) => modeRefuse res reason (index % 256) s
    | none => match recipeAt s k with
      | none => s
      | some r =>
        let going := goingSlots s r
        let s := modeAccept s
        let s := { s with sys := { s.sys with switching := true, change := some { rcp := k, destroyed := going } } }
        going.foldl (fun s i => destroyDo i s) s) s

/-- A drive channel as a resume brings it back: HELD, also one that was ARMED or that a change made (R57, R537, log entry 98). -/
def Slot.resumed (drive : Bool) (c : Slot) : Slot :=
  if drive ∧ (c.st = .armed ∨ c.st = .running) then { c with st := .held, startPend := false, holdPend := false } else c

/-- Every channel after a resume. -/
def resumeHolds (s : State) : State := s.mapSlots fun c => c.resumed (isDrive s c)

/-- A change under way is carried to its end at once (R57): destroyed channels go FREE, the new ones are made, swaps take effect. -/
def recipeFinish (s : State) : State :=
  match s.sys.change with
  | none => s
  | some c =>
    let s := c.destroyed.foldl (fun s i => if s.chn.slots[i].st = .free then s else freeConsumer i s) s
    let s := if c.step = 1 then recipeBuild s else s
    match s.sys.change with
    | none => s
    | some c => recipeDone (c.swaps.foldl (fun s i => match s.chn.slots[i].swapPend with | some m => bankSwap i m s | none => s) s)

/-! ### Entry to OPERATE (R45, R58) -/

/-- Channels whose AUTOSTART waited for OPERATE start at their next boundary (R67). -/
def autoStarts (s : State) : State :=
  (fins 256).foldl (fun (s : State) (i : Fin 256) =>
    let x := s.chn.slots[i]
    if x.autoPend then
      let s := s.modSlot i fun x => { x with autoPend := false }
      if x.st = .armed then (startOwn i {} s).2 else s
    else s) s

/-- OPERATE is entered (Table 2.6a): the tables are locked, the application core starts when it does not run, the
HarovLink starts (R383). -/
def enterOperate (entry : Nat) (s : State) : State :=
  let s := if s.sys.mode.isBoot then tablesLock s else s
  let s := { s with sys := { s.sys with mode := .operate, entry := entry, lkBack := false } }
  let s := if s.sys.appRun then s else startApp s
  let s := if s.img.hl.isSome then { s with hl := { s.hl with on := true } } else s
  autoStarts (fieldsRefresh s)

/-- A refusal at the end of BOOT is shown in SYS_MODERES (R58). -/
def activateRefuse (rcp result reason index : Nat) (s : State) : State :=
  { s with sys := { s.sys with resAction := actSelect, resRcp := rcp, resResult := result, resReason := reason, resIndex := index } }

/-- RECIPE_ACTIVATE (R58): the recipe is checked and activated as a whole; a refusal is reported in SYS_MODERES, and so is a default of 0xFF,
which names no recipe below COUNT (check 2 of R61; log entry 47). Without a mode table there is nothing to activate. -/
def recipeActivate (s : State) : State :=
  match bootRecipe s with
  | none => if s.img.mode.isSome then activateRefuse 0xF rMode 0x5 0xFF s else s
  | some k => match recipeRefusal s .S k false with
    | some (res, (reason, index)) => activateRefuse k res reason (index % 256) s
    | none => recipeBuild { s with sys := { s.sys with change := some { rcp := k, asked := false } } }

/-- The end of BOOT: OPERATE with BOOT_DONE and the recipe of R58. -/
def bootDone (s : State) : State := recipeActivate (enterOperate enBootDone s)

/-! ### LOCKOUT.MAINT (R51, R71) -/

/-- MAINT_EN_N has been low for at least 100 ms. -/
def maintLow (s : State) : Bool := match s.sys.maintLowAt with | some t => decide (100000 ≤ s.now - t) | none => false

/-- ENTER_MAINT (R51, R61, Table 2.13): REASON 0x1 is for what 0x9 and 0xA do not cover. -/
def enterMaint (by_ : Requester) (s : State) : State :=
  modeAsk by_ actMaint 0 (fun s =>
    match by_ with
    | .core _ => modeRefuse rWorld 0xA 0xFF s
    | .hsp .NS => modeRefuse rWorld 0xA 0xFF s
    | .hsp .S =>
      if !maintLow s then modeRefuse rMode 0x9 0xFF s
      else if s.sys.mode ≠ .lockoutFault then modeRefuse rMode 0x1 0xFF s
      else
        let s := modeAccept s
        modeDone { s with sys := { s.sys with mode := .lockoutMaint, entry := enMaint }, flash := {} }) s

/-- MAINT_EN_LOW: MAINT_EN_N goes low (R51). -/
def maintEnLow (s : State) : State :=
  if s.sys.maintLowAt.isSome then s else { s with sys := { s.sys with maintLowAt := some s.now } }

/-- MAINT_EN_HIGH: in LOCKOUT.MAINT flash commands are refused from then on, also once the pin is low again; the mode stays (R71, R108, log
entry 99). -/
def maintEnHigh (s : State) : State :=
  { s with
    sys := { s.sys with maintLowAt := none }
    flash := { s.flash with barred := s.flash.barred || decide (s.sys.mode = .lockoutMaint) } }

/-! ### Deliberate reset (R50, R72, R326, R330, R335) -/

/-- A recorded cause is gone (Table 11.3). `failed` names the causes whose re-run diagnostic or capacitance check fails now. -/
def causeGone (failed : List Code) (s : State) (c : Cause) : Bool :=
  let b : Fin 4 := Fin.ofNat 4 c.unit.toNat
  match codeClass c.code with
  | 1 => match axisCfg s b with | some a => resetOk a b s | none => true
  | 2 => if c.code = cDeckLost then s.trst.adopted else !failed.contains c.code
  | 5 =>
    if c.code = cVinOv then !s.pmu.vinOv && !failed.contains c.code
    else if c.code = cThermal then s.pmu.temp.toList.all fun t => match t with | some t => decide (t < 115 * 256) | none => true
    else !failed.contains c.code
  | 6 => decide (s.trst.px[b].flt = 0) && !s.trst.px[b].ntcWarn
  | _ => false

/-- A press is refused: counted, and the history records the first cause still present (R326). -/
def pressRefuse (c : Option Cause) (s : State) : State :=
  let s := { s with saf := { s.saf with pressRefused := incSat 255 s.saf.pressRefused } }
  match c with
  | some c => histPush c.code 3 c.unit c.detail s
  | none => s

/-- What a granted reset clears: the causes, both copies of every bridge fault (R267), the halt of the safety monitor, and R484, whose PLL
relocks on XSYS. -/
def resetClears (s : State) : State :=
  let first := s.saf.causes.head?
  let s := match first with | some c => histPush c.code 2 c.unit c.detail s | none => histPush 0 2 0xFF 0 s
  { s with
    saf := { s.saf with causes := [], halted := false, alive := true }
    dk := { s.dk with br := s.dk.br.map fun b => { b with fault := false, snap := {} }, trip := .replicate 4 false }
    trst := { s.trst with px := s.trst.px.map fun b => { b with bfault := false, snap := {} } }
    clk := { s.clk with rc := false, fail := false, pllLock := true } }

/-- Entry to BOOT.SELFTEST: link-up is attempted from here, 64 good frames counted anew, for a deck that is not adopted (R27, Table 2.6a). -/
def selftestEnter (s : State) : State :=
  let s := { s with sys := { s.sys with mode := .bootSelftest } }
  if s.trst.adopted then s else linkRestart s

/-- LK_RESET_GRANT: the destination of R50. -/
def resetGrant (s : State) : State :=
  let s := resetClears s
  match s.sys.lkFrom with
  | .operate | .watch => enterOperate enLkReset s
  | .bootSelftest | .bootCharge =>
    selftestEnter { s with
      sys := { s.sys with entry := enLkReset, appRun := false, lkBack := true }
      boot := { s.boot with capCheck := false } }
  | _ => fullReset .lkrst (flushHist s)

/-- LKRST_PRESS: a press ends (R325, R326, R330, R335, R50, R72, R482). `fresh` are the causes that arise during the re-tests, each with its UNIT
and DETAIL: they are recorded, and the press is refused with the first cause still present. -/
def lkrstPress (failed : List Code) (fresh : List (Code × (BitVec 8 × Word))) (s0 : State) : State :=
  let s := { s0 with saf := { s0.saf with lkrst := true, pressArmed := true, pressAt := none } }
  match s0.saf.pressAt with
  | none => s
  | some t =>
    let d := s0.now - t
    if d < 500000 then { s with saf := { s.saf with pressShort := incSat 255 s.saf.pressShort } }
    else if d > 3000000 then { s with saf := { s.saf with pressLong := incSat 255 s.saf.pressLong } }
    else if s.sys.mode ≠ .lockoutFault then s
    else if s.sys.entry = enStrap ∨ causeNeeds s ≠ 0 then pressRefuse none s
    else if s.sys.lkFrom = .bootPowerup ∧ s.saf.causes.any (fun c => decide (c.code = cClockFail)) then
      pressRefuse (s.saf.causes.find? fun c => decide (c.code = cClockFail)) s
    else
      let new := fresh.map fun f => { code := f.1, unit := f.2.1, detail := f.2.2 : Cause }
      match (s.saf.causes.find? fun c => !causeGone failed s c).or new.head? with
      | some c => pressRefuse (some c) (raiseAll new s)
      | none => resetGrant s

/-! ### ENTER_WATCH (R53, R61, R74, R551) -/

/-- The lowest drive channel not at rest. -/
def restlessDrive (s : State) : Option (Fin 256) :=
  (fins 256).find? fun (i : Fin 256) => decide (s.chn.slots[i].st ≠ .free) && isDrive s s.chn.slots[i] && !atRest s.chn.slots[i]

/-- Why ENTER_WATCH is refused: REASON and INDEX. -/
def watchRefusal (s : State) : Option (Nat × Nat) :=
  if s.sys.mode ≠ .operate ∨ s.sys.switching then some (0x1, 0xFF)
  else if s.img.watch.isNone then some (0x8, 0xFF)
  else if (match activeRecipe s with | some r => !r.watchOk | none => false) then some (0x8, 0xFF)
  else match restlessDrive s with
    | some i => some (0x8, i.val)
    | none => if (fins 4).any (fun (n : Fin 4) => !axisSafe s n) || s.spm.lift.isSome then some (0x8, 0xFF) else none

/-- ENTER_WATCH: on acceptance the sleep command goes to an adopted deck, and the entry goes on from there. -/
def enterWatch (by_ : Requester) (s : State) : State :=
  modeAsk by_ actWatch 0 (fun s =>
    match watchRefusal s with
    | some (reason, index) => modeRefuse rMode reason index s
    | none =>
      let s := modeAccept s
      watchTokens { s with trst := { s.trst with sleepSent := s.trst.adopted }, aon := { s.aon with step := .deck } }) s

/-! ### Meanings -/

def execSelectRecipe (by_ : Requester) (rcp : BitVec 4) (s : State) : Res := .next (selectRecipe by_ rcp.toNat s)
def execEnterMaint (by_ : Requester) (s : State) : Res := .next (enterMaint by_ s)
def execRecipeCreateChannels (s : State) : Res := .next (recipeCreateChannels s)
def execLkrstPress (failed : List Code) (fresh : List (Code × (BitVec 8 × Word))) (s : State) : Res := .next (lkrstPress failed fresh s)
def execMaintEnHigh (s : State) : Res := .next (maintEnHigh s)
def execMaintEnLow (s : State) : Res := .next (maintEnLow s)

def execEnterWatch (by_ : Requester) (s : State) : Res := .next (enterWatch by_ s)

end Sys2Proof.Machine
end

