-- ==== Sys2Proof/Machine/Boot.lean ====
section
/-! DEFINITION. Machine/Boot.lean: reset release, the straps, the reading and verification of the image, the restore check, and the
sub-states of BOOT up to OPERATE (03_boot_image.md; 19_holdup_and_save.md R526, R538-R540; Table 2.8). -/
namespace Sys2Proof.Machine
open Sys2Proof

/-! ### Key store (R125) -/

/-- The 32 key bytes of an entry that is valid and whose CRC holds; none for one that counts as empty. -/
def keyEntry (s : State) (n : Nat) : Option (List Byte) :=
  let o := 0x1000 + 64 * n
  if leNat (chestBytes s (o + 0x20) 4) = 1 ∧ leNat (chestBytes s (o + 0x24) 4) = (crc32c (chestBytes s o 0x24)).toNat then some (chestBytes s o 32) else none

/-! ### Attempts on a chip select (R77, R85-R89, R648) -/

/-- The selected attempt starts with discovery. -/
def attemptOn (cs : Bool) (s : State) : State :=
  { s with boot := { s.boot with phase := .discovery, cs := cs, dAddr4 := false, density := 0, header := [], body := [] } }

/-- Entry to BOOT.IMAGE: both chip selects high, QSPI_CLK low; the OTP check; the first chip select (R77, R88, R89). -/
def imageEnter (s : State) : State :=
  let s := { s with sys := { s.sys with mode := .bootImage }, boot := { s.boot with csDriven := true, qspiDriven := true, halted := false } }
  if s.otp.ok then attemptOn (decide (s.sys.bootsel = 1)) s else raise cOtpCorrupt 0xFF 0 s

/-- RESET_RELEASE: the straps and the clocks are sampled at PORST_N release (R75, R76, R105, R482, R574, R579); `otp` says what the integrity
check of the OTP key-slot area finds at the entry to BOOT.IMAGE (R88). -/
def resetRelease (bootsel : BitVec 2) (dkpresent testN clocks otp : Bool) (s : State) : State :=
  if s.sys.mode ≠ .bootPowerup ∨ s.pmu.released ∨ s.pmu.rails ≠ .up then s
  else
    let s := { s with sys := { s.sys with bootsel := bootsel, dkpresent := dkpresent, testN := testN, entry := enPowerOn }
                      pmu := { s.pmu with released := true, porst := true, row := 0 }
                      otp := { s.otp with ok := otp } }
    let s := chestRelease (hbdBack s)
    let s := { s with boot := { s.boot with psk := #v[keyEntry s 4, keyEntry s 5] } }
    if !clocks then
      raise cClockFail 0xFF 0 { s with clk := { s.clk with rc := true, fail := true, nXsys := incSat 255 s.clk.nXsys } }
    else if bootsel = 3 ∨ !testN then lockoutEnter enStrap false s
    else imageEnter s

/-- The fault of a detail code (Table 3.5). -/
def imageFault (d : Nat) : Code :=
  if (7 ≤ d ∧ d ≤ 10) ∨ d = 12 then cImageSig else if d = 13 ∨ d = 14 then cSafetyBlockCrc else cImageFormat

/-- An attempt fails: its detail code is recorded, staged data, core SRAM and capture RAM are cleared, and the other flash is tried or
LOCKOUT.FAULT entered (R85, R86, R89, R91, R241, log entry 107). -/
def attemptFail (d : Nat) (s : State) : State :=
  let s := { s with
    boot := { s.boot with
      phase := .idle, header := [], body := []
      cs0Err := if s.boot.cs then s.boot.cs0Err else d, cs1Err := if s.boot.cs then d else s.boot.cs1Err }
    mem := memClear (memClear s.mem 0x10000000 0x10100000) 0x20100000 0x20140000 }
  let s := eccRange 0x20100000 0x40000 (eccRange 0x10000000 0x100000 s)
  if s.sys.bootsel = 2 ∧ s.boot.cs = false then attemptOn true s
  else raise (imageFault d) 0xFF (BitVec.ofNat 32 d) s

/-- A phase of BOOT.IMAGE runs. -/
def inPhase (p : BootPhase) (s : State) : Bool := decide (s.sys.mode = .bootImage) && decide (s.boot.phase = p) && !s.boot.halted

/-- The density in bytes that DWORD 2 of the BFPT states (Procedure 3.1; PRESUMED JESD216, log entry 51). -/
def flashDensity (dw2 : Word) : Nat := if getb dw2 31 then 2 ^ getf dw2 0 31 / 8 else (getf dw2 0 31 + 1) / 8

/-- The quad-enable requirement field of DWORD 15 names a bit (PRESUMED JESD216, log entry 51). -/
def namesQuadBit (dw15 : Word) : Bool := decide (1 ≤ getf dw15 20 3) && decide (getf dw15 20 3 ≤ 6)

/-- The detail code of Procedure 3.1, none where it passes. -/
def discoveryFail (f : FlashId) : Option Nat :=
  if f.id = 0 ∨ f.id = 0xFFFFFF then some 1
  else if !f.sfdp then some 2
  else if !getb f.dw1 22 then some 3
  else match f.dw15 with
    | some d => if namesQuadBit d && !f.qe then some 3 else none
    | none => none

/-- 4-byte addressing (Procedure 3.1). -/
def flash4Byte (f : FlashId) : Bool := getf f.dw1 17 2 == 2

/-- The quad-enable field of DWORD 15, where it names a bit. -/
def quadField (f : FlashId) : Option Nat := f.dw15.bind fun d => if namesQuadBit d then some (getf d 20 3) else none

/-- The status-register read that gives the quad-enable bit (Procedure 3.1; PRESUMED JESD216, log entry 51). -/
def quadRead (f : FlashId) : List (List Byte) :=
  match quadField f with
  | none => []
  | some q => [[if q = 2 then 0x05 else if q = 3 then 0x3F else 0x35]]

/-- How a clear quad-enable bit is set, by the method of its field (R95; PRESUMED JESD216, log entry 51). -/
def quadSet (f : FlashId) : List (List Byte) :=
  match quadField f with
  | none => []
  | some q =>
    if f.qe then []
    else
      let w : List Byte := match q with
        | 2 => [0x01, f.sr1 ||| 0x40]
        | 3 => [0x3E, f.sr2 ||| 0x80]
        | 6 => [0x31, f.sr2 ||| 0x02]
        | _ => [0x01, f.sr1, f.sr2 ||| 0x02]
      [[0x06], w, [0x05]]

/-- The commands of Procedure 3.1, up to the step that fails: the ID, the SFDP header, the parameter table, the quad-enable bit, and 4-byte
addressing; in a maintenance session a clear quad-enable bit is set, in BOOT it fails (R77, R78, R95). A 0 byte stands for dummy cycles. -/
def flashProbe (maint : Bool) (f : FlashId) : List (List Byte) :=
  if f.id = 0 ∨ f.id = 0xFFFFFF then [[0x9F]]
  else if !f.sfdp then [[0x9F], [0x5A, 0, 0, 0, 0]]
  else
    let l : List (List Byte) := [[0x9F], [0x5A, 0, 0, 0, 0], [0x5A] ++ beBytes 3 f.bfpt.toNat ++ [0]]
    if !getb f.dw1 22 then l
    else if (quadField f).isSome && !f.qe && !maint then l ++ quadRead f
    else l ++ quadRead f ++ quadSet f ++ (if flash4Byte f then [[0xB7]] else [])

/-- The address bytes of a flash command. -/
def flashAddr (a4 : Bool) (a : Nat) : List Byte := beBytes (if a4 then 4 else 3) a

/-- A 1-1-4 fast read: the command, its address and the dummy cycles (R78). -/
def flashFastRead (a4 : Bool) (a : Nat) : List Byte := (0x6B : Byte) :: flashAddr a4 a ++ [0]

/-- The controller sends commands to the selected flash. -/
def flashSend (l : List (List Byte)) (s : State) : State := { s with flash := { s.flash with sent := l } }

/-- FLASH_DISCOVERY: steps 1-3 of Table 3.5. -/
def flashDiscovery (f : FlashId) (s0 : State) : State :=
  let s := flashSend (flashProbe false f) s0
  if !inPhase .discovery s0 then s0
  else match discoveryFail f with
    | some d => attemptFail d s
    | none => { s with boot := { s.boot with phase := .header, dAddr4 := flash4Byte f, density := flashDensity f.dw2 } }

/-- The detail code of steps 4-9 for a header, none where all pass (R79-R81, R87, Table 3.2). -/
def headerFail (s : State) (h : List Byte) : Option Nat :=
  let n := u16 h 0x0C
  let len := u32 h 8
  let slot := u8 h 0x48
  if u32 h 0 ≠ 0x49565754 then some 4
  else if u16 h 4 ≠ 2 ∨ u16 h 6 ≠ 256 ∨ !zeros h 0x49 119 ∨ u16 h 0x0E / 2 ≠ 0 then some 5
  else if len % 16 ≠ 0 ∨ !inR 2 32 n ∨ len < 0x100 + 16 * n ∨ len > 0x1000000 ∨ len > s.boot.density then some 6
  else if slot > 3 ∨ slotState s (Fin.ofNat 4 slot) ≠ 1 then some 7
  else match keyEntry s slot with
    | none => some 8
    | some k =>
      if beNat (sha256 k) ≠ s.otp.hash[Fin.ofNat 4 slot] then some 8
      else if edVerify k (slice h 0 0xC0) (slice h 0xC0 64) then none else some 9

/-- IMAGE_HEADER_CHECK: the 256 header bytes are read in one burst and steps 4-9 made. -/
def imageHeaderCheck (header : List Byte) (s : State) : State :=
  if !inPhase .header s then s
  else
    let s := flashSend [flashFastRead s.boot.dAddr4 0] s
    let h := slice header 0 256
    match headerFail s h with
    | some d => attemptFail d s
    | none => { s with boot := { s.boot with phase := .body, header := h } }

/-- BODY_READ: the body is read in one burst, and step 10. -/
def bodyRead (body : List Byte) (s0 : State) : State :=
  let s := flashSend [flashFastRead s0.boot.dAddr4 0x100] s0
  if !inPhase .body s0 then s0
  else if body.length = u32 s.boot.header 8 - 256 ∧ sha256 body = slice s.boot.header 0x28 32 then { s with boot := { s.boot with phase := .commit, body := body } }
  else attemptFail 10 s

/-- A secure-core patch carries the vendor's signature over the rest of its section (R83). -/
def patchOk (b : List Byte) : Bool := decide (64 ≤ b.length) && edVerify Config.vendorKey (b.drop 64) (b.take 64)

/-- Steps 11-15: the detail code of the first failure, or what the image configures. -/
def commitCheck (h img : List Byte) : Except Nat Parsed :=
  let n := u16 h 0x0C
  let l := secTable img n
  let saf := (section_ img l 0x30).getD []
  if !tableOk img (u32 h 8) n then .error 11
  else if (match section_ img l 0x05 with | some p => !patchOk p | none => false) then .error 12
  else if !safetyCrcOk saf then .error 13
  else if u32 saf 0 ≠ u32 h 0x1C then .error 14
  else match parseImage img l (u16 h 0x0E % 2 == 1) with
    | some p => .ok p
    | none => .error 15

/-! ### Restore after a full loss (R538-R540) -/

/-- Bytes of a save slot. -/
def slotBytes (s : State) (b : Bool) : List Byte := chestBytes s (if b then 0x5000 else 0x4000) 1792

/-- A save record is valid (R534). -/
def recordValid (r : List Byte) : Bool :=
  u32 r 0 == 0x53565754 && u16 r 4 == 1 && u16 r 6 == 1792 && u32 r 0x6FC == (crc32c (slice r 0 0x6FC)).toNat

/-- The slot of the newest valid record: false A, true B (R534). -/
def newestSlot (s : State) : Option Bool :=
  let a := slotBytes s false
  let b := slotBytes s true
  if recordValid a then (if recordValid b && decide (u32 b 8 > u32 a 8) then some true else some false)
  else if recordValid b then some true else none

/-- The restore result (Table 19.4). -/
def restoreResult (s : State) : Nat :=
  if s.pmu.cause ≠ .sagLoss then 0
  else match newestSlot s with
    | none => if sagCount s = 0 then 0 else 3
    | some b =>
      let r := slotBytes s b
      if u32 r 0x0C ≠ sagCount s then 2
      else if u32 r 0x18 = s.boot.safeId.toNat ∧ u32 r 0x1C = s.boot.imgId0.toNat ∧ u32 r 0x20 = s.boot.imgId1.toNat then 1 else 4

/-- An axis takes LATCH, CAUSE and CIDX of a record (R539). -/
def Axis.restored (r : List Byte) (n : Nat) (a : Axis) : Axis :=
  let o := 0x40 + 16 * n
  { a with latch := u8 r (o + 2) % 2 == 1, cause := u8 r (o + 3) % 16, cidx := u8 r (o + 3) / 16 }

/-- The channels a record holds: KEY, bank B, destroyed (Table 19.3). -/
def recordKeys (r : List Byte) : List (Nat × (Bool × Bool)) :=
  (List.range 256).filterMap fun k =>
    let o := 0x280 + 4 * k
    if k = 0 ∨ u32 r o = 0xFFFFFFFF then none else some (k, (u8 r (o + 1) / 16 % 2 == 1, u8 r (o + 1) / 32 % 2 == 1))

/-- The recipe a record names: NEWRCP while STEP is not 0 (R538). -/
def recordRcp (r : List Byte) : Option Nat :=
  let k := if u8 r 0x14 = 0 then u8 r 0x12 else u8 r 0x13
  if k = 0xFF then none else some k

/-- What RESTORED brings back (R539, R540): latches, incremental counts, the recipe and its channels; every port is UNVERIFIED until an
absolute position passes its comparison. -/
def restoreApply (r : List Byte) (s : State) : State :=
  { s with
    saf := { s.saf with ax := s.saf.ax.mapFinIdx fun i a _ => a.restored r i }
    enc := s.enc.mapFinIdx fun i e _ => { e with count := BitVec.ofNat 32 (u32 r (0x84 + 16 * i)) }
    save := { s.save with restRcp := recordRcp r, restKeys := recordKeys r
                          verify := (absPorts s).map fun p => (p, BitVec.ofNat 32 (u32 r (0x88 + 16 * p.val))) } }

/-- Both slots are checked and SAVE_STAT.RESTORE, NEWEST, VALID and SAVE_SEQ set (R538). -/
def restoreCheck (s : State) : State :=
  let va := recordValid (slotBytes s false)
  let vb := recordValid (slotBytes s true)
  let nb := newestSlot s
  let res := restoreResult s
  let s := { s with save := { s.save with
    restore := res, newest := nb.getD false, valid := BitVec.ofNat 2 (packBits [va, vb]), unver := 0xF, absOk := 0
    seq := match nb with | some b => BitVec.ofNat 32 (u32 (slotBytes s b) 8) | none => 0 } }
  match nb with
  | some b => if res = 1 then restoreApply (slotBytes s b) s else s
  | none => s

/-! ### Commit -/

/-- The identity registers and SYS_BOOTSTAT of the running image (Tables 3.6, 3.7). -/
def identify (h : List Byte) (b : Boot) : Boot :=
  { b with
    src := if b.cs then 1 else 0, fallback := b.cs && decide (b.cs0Err ≠ 0x10), addr4 := b.dAddr4, keySlot := u8 h 0x48
    cs0Err := if b.cs then b.cs0Err else 0, cs1Err := if b.cs then 0 else b.cs1Err
    imgId0 := BitVec.ofNat 32 (u32 h 0x10), imgId1 := BitVec.ofNat 32 (u32 h 0x14), safeId := BitVec.ofNat 32 (u32 h 0x1C)
    imgTime0 := BitVec.ofNat 32 (u32 h 0x20), imgTime1 := BitVec.ofNat 32 (u32 h 0x24), choxo := BitVec.ofNat 32 (u16 h 0x1A + 65536 * u16 h 0x18)
    loaded := true, phase := .done, header := [], body := [] }

/-- The read-once release (R90). -/
def qspiRelease (s : State) : State := { s with boot := { s.boot with csDriven := true, qspiDriven := false, locked := true } }

/-- What the image configures takes effect (R86, R113). -/
def applyImage (h : List Byte) (p : Parsed) (s : State) : State :=
  { s with
    img := p.img
    sec := { s.sec with bwt := p.bwt, rgn := p.rgn }
    pmu := { s.pmu with cfg := p.pmu }
    clk := { s.clk with cfg := p.clk, refo := p.clk.refo }
    boot := identify h s.boot
    fio := { s.fio with out := s.fio.out.mapFinIdx fun i o hi => { o with retryLeft := (p.img.fo[i]'hi).retry } }
    mem := match p.app with | some (a, bs) => memSetBytes s.mem a bs | none => s.mem }

/-- IMAGE_COMMIT: steps 11-15; on success the image is applied, the flash released and BOOT.SELFTEST begins (R86, R90, R538). -/
def imageCommit (s : State) : State :=
  if !inPhase .commit s then s
  else
    let h := s.boot.header
    match commitCheck h (h ++ s.boot.body) with
    | .error d => attemptFail d s
    | .ok p =>
      selftestEnter (spmRefresh (restoreCheck (qspiRelease (applyImage h p s))))

/-! ### SELFTEST and CHARGE (R92, R523, R526) -/

/-- SELFTEST_DONE: BOOT.CHARGE begins, the charger starts, and the outputs take the states of R603. -/
def selftestDone (s : State) : State :=
  if s.sys.mode ≠ .bootSelftest ∨ s.boot.halted then s
  else fieldsRefresh { s with
    sys := { s.sys with mode := .bootCharge }
    trst := { s.trst with selftestOver := true }
    boot := { s.boot with capCheck := false }
    save := { s.save with charge := true } }

/-- BOOT.CHARGE runs. -/
def charging (s : State) : Bool := decide (s.sys.mode = .bootCharge) && !s.boot.halted

/-- VSAVE_FULL: with SAVE_READY set and VSAVE at 45 V the capacitance check starts; the charger stops for it. -/
def vsaveFull (v : BitVec 16) (s : State) : State :=
  let s := { s with save := { s.save with vsave := v.toNat } }
  if charging s && s.save.ready && !s.boot.capCheck then { s with boot := { s.boot with capCheck := true }, save := { s.save with charge := false } }
  else s

/-- The capacitance in whole microfarads from V1 and V2 in mV; none where there is no drop (R526, log entry 5). -/
def capacitance (v1 v2 : Nat) : Option Nat := if v1 ≤ v2 then none else some (Config.roundFree 50000 (v1 - v2)).toNat

/-- SAVE_CAP after a check; without a drop the value is free (log entry 4). -/
def capShow (v1 v2 : Nat) (s : State) : State :=
  match capacitance v1 v2 with
  | some c => { s with save := { s.save with capC := c % 65536, capDrop := v1 - v2, cwarn := decide (100 ≤ c) && decide (c < 110), vsave := v2 / 10 } }
  | none =>
    let (w, s) := takeFree s
    { s with save := { s.save with capC := getf w 0 16, capDrop := 0, cwarn := false, vsave := v2 / 10 } }

/-- CAPACITANCE_CHECK_DONE: C is judged by Table 19.1; a pass with SAVE_READY ends BOOT (R48, R92, R526). -/
def capacitanceCheckDone (v1 v2 : BitVec 16) (s : State) : State :=
  if !charging s || !s.boot.capCheck then s
  else
    let low := match capacitance v1.toNat v2.toNat with | some c => decide (c < 100) | none => false
    let s := capShow v1.toNat v2.toNat { s with boot := { s.boot with capCheck := false }, save := { s.save with charge := true } }
    if low then raise cHoldupLow 0xFF 0 s else if s.save.ready then bootDone s else s

/-- CHARGE_TIMEOUT: BOOT.CHARGE has not ended within 5 s (R92). -/
def chargeTimeout (s : State) : State :=
  if charging s then raise cHoldupLow 0xFF 0 { s with boot := { s.boot with capCheck := false }, save := { s.save with charge := true } } else s

/-- BOOT_SAG_RESTART: BOOT goes on after a sag (Table 2.8, R99, R545): the core domain is back, link-up starts again. -/
def bootSagRestart (s : State) : State :=
  if !s.boot.halted then s
  else
    let s := { s with
      boot := { s.boot with halted := false, capCheck := false, csDriven := true }
      save := { s.save with active := false, coreOff := false, fromVsave := false, act := false, step := .none }
      pmu := { s.pmu with pg := 0xF }
      fab := {} }
    let s := hbdBack s
    if s.boot.chargeBack then
      { s with sys := { s.sys with mode := .bootCharge }, save := { s.save with charge := true }, boot := { s.boot with chargeBack := false } }
    else if s.boot.loaded then
      selftestEnter s
    else imageEnter s

/-! ### Meanings -/

def execResetRelease (bootsel : BitVec 2) (dkpresent testN clocks otp : Bool) (s : State) : Res := .next (resetRelease bootsel dkpresent testN clocks otp s)
def execFlashDiscovery (f : FlashId) (s : State) : Res := .next (flashDiscovery f s)
def execImageHeaderCheck (h : List Byte) (s : State) : Res := .next (imageHeaderCheck h s)
def execBodyRead (b : List Byte) (s : State) : Res := .next (bodyRead b s)
def execImageCommit (s : State) : Res := .next (imageCommit s)
def execSelftestDone (s : State) : Res := .next (selftestDone s)
def execVsaveFull (v : BitVec 16) (s : State) : Res := .next (vsaveFull v s)
def execCapacitanceCheckDone (v1 v2 : BitVec 16) (s : State) : Res := .next (capacitanceCheckDone v1 v2 s)
def execChargeTimeout (s : State) : Res := .next (chargeTimeout s)
def execBootSagRestart (s : State) : Res := .next (bootSagRestart s)

end Sys2Proof.Machine
end

