-- ==== Sys2Proof/Machine/FieldIo.lean ====
section
/-! DEFINITION. Machine/FieldIo.lean: field outputs, fans, analog inputs, encoder ports, GPIO and the serial ports
(15_field_io.md; R496; R540 for the comparison of absolute positions). -/
namespace Sys2Proof.Machine
open Sys2Proof

/-- A field code is recorded in FIO_EVT and in RSP2.FAULT of the channels concerned (R442). -/
def fieldEvent (code : Code) (index : Nat) (p : Slot → Bool) (s : State) : State :=
  let s := { s with fio := { s.fio with evIndex := index, evCode := code, evValid := true } }
  s.mapSlots fun c => if decide (c.st ≠ .free) && p c then { c with fault := code } else c

/-! ### Field outputs (R425-R430) -/

/-- Change one output. -/
def State.modFo (s : State) (n : Fin 32) (f : FoOut → FoOut) : State := { s with fio := { s.fio with out := vmod s.fio.out n f } }

/-- The first ms milliseconds from turn-on. -/
def FoOut.within (ms now : Nat) (o : FoOut) : Bool := decide (now < o.onAt + 1000 * ms)

/-- The current limit of the switch in mA, by mode and time from turn-on (Table 15.2). -/
def foLimit (c : FoCfg) (now : Nat) (o : FoOut) : Nat :=
  if c.mode = 2 ∧ o.within 20 now then 2000 else if c.mode = 3 ∧ o.within 50 now then 1600 else 900

/-- The most that the switch lets through: its limit, and HOLD_MA, to which it regulates a valve after the peak (Table 15.2). -/
def foCeiling (c : FoCfg) (now : Nat) (o : FoOut) : Nat := if c.mode = 3 ∧ !o.within 50 now then c.holdMa else foLimit c now o

/-- One output takes its current of this millisecond; a PWM output keeps its value where no on-phase of the millisecond, a stretched pulse
among them, was 60 microseconds long (R427). -/
def FoOut.measure (c : FoCfg) (now : Nat) (i : Option (BitVec 12)) (o : FoOut) : FoOut :=
  match i with
  | none => o
  | some i =>
    if o.st = 2 && !onTimeAtLeast c o.duty 60 && !decide (now < o.strTo + 1000) then o else { o with i := min i.toNat (foCeiling c now o) }

/-- FO_MEASURE: none for an output without an on-phase to measure in this millisecond. -/
def foMeasure (cur : Vector (Option (BitVec 12)) 32) (s : State) : State :=
  { s with fio := { s.fio with out := s.fio.out.mapFinIdx fun i o h => o.measure (s.img.fo[i]'h) s.now (cur[i]'h) } }

/-- Inside the inrush window of a lamp output: the first 20 ms (Table 15.2). -/
def inInrush (s : State) (n : Fin 32) : Bool := s.img.fo[n].mode == 2 && s.fio.out[n].within 20 s.now

/-- What a short does to an output: off, counted, a retry after RETRY_T or LATCHED (R428). -/
def FoOut.shorted (c : FoCfg) (now : Nat) (o : FoOut) : FoOut :=
  { o with
    duty := 0, shorts := incSat 65535 o.shorts, short := true, shortAt := some now, late := false, st := if o.retryLeft = 0 then 4 else 3
    retryLeft := o.retryLeft - 1 }.judge c

/-- FO_SHORT: an output that is on has been at its limit for 100 microseconds outside an inrush window, or its switch overheats; in
WATCH the short is a wake source too (R554, R570). -/
def foShort (n : Fin 32) (hot : Bool) (s : State) : State :=
  let o := s.fio.out[n]
  if (o.st = 1 ∨ o.st = 2) ∧ (hot ∨ !inInrush s n) then
    let s := fieldEvent cFoShort n.val (fun c => c.fos.getLsbD n) (s.modFo n (FoOut.shorted s.img.fo[n] s.now))
    if s.sys.mode = .watch then wakeDetect 7 n.val { s with aon := { s.aon with shorted := s.aon.shorted ||| (1#32 <<< n.val) } } else s
  else s

/-- FO_RETRY: RETRY_T after a short the output takes its command again, as a fresh turn-on (R428). -/
def foRetry (n : Fin 32) (s : State) : State :=
  if s.fio.out[n].st = 3 ∧ s.sys.mode ≠ .watch then foRefresh n (s.modFo n fun o => { o with st := 0, short := false }) else s

/-- FO_RETRY_RESET: the output has run 10 s without a short. -/
def foRetryReset (n : Fin 32) (s : State) : State :=
  let o := s.fio.out[n]
  if o.st = 1 ∨ o.st = 2 then s.modFo n fun o => { o with retryLeft := s.img.fo[n].retry } else s

/-- An output is owned by an S channel. -/
def foOwnedS (s : State) (n : Fin 32) : Bool :=
  match foOwner s n with | some i => decide (s.chn.slots[i].world = .S) | none => false

/-- FO_CLEAR on one output: LATCHED clears (R428, R429). -/
def foClearOne (w : World) (mask : Word) (s : State) (n : Fin 32) : State :=
  if mask.getLsbD n && decide (s.fio.out[n].st = 4) && !(decide (w = .NS) && foOwnedS s n) then
    foRefresh n (s.modFo n fun o => { o with st := 0, short := false })
  else s

/-- The effect of a write to FIO_FOCLR. -/
def foClearDo (w : World) (mask : Word) (s : State) : State := (fins 32).foldl (foClearOne w mask) s

/-- The number of the period that an instant falls into, from the last turn-on: a PWM period, or the 10 ms of a steady output (Table 15.3; log
entry 36). -/
def FoOut.period (c : FoCfg) (t : Nat) (o : FoOut) : Nat := if c.pwmHz = 0 then (t - o.onAt) / 10000 else (t - o.onAt) * c.pwmHz / 1000000

/-- A short has fallen into the present period: no observation is taken (R443). -/
def FoOut.shortNow (c : FoCfg) (now : Nat) (o : FoOut) : Bool := o.shortAt.any fun t => o.period c t == o.period c now

/-- A stretched pulse is observed 40 microseconds after its on-edge: it runs on to 60 microseconds, and the next period follows (Table 15.3,
R446). -/
def FoOut.stretch (c : FoCfg) (now : Nat) (o : FoOut) : FoOut := { o with strTo := now + 20, strNext := now + 1000000 / c.pwmHz - 40 }

/-- An observation of an output by method m: three in a row raise or clear LAMP_OPEN, which keeps its value where no method applies (R430). -/
def FoOut.observe (c : FoCfg) (now m : Nat) (bad : Bool) (o : FoOut) : FoOut :=
  if m = 0 then o.judge c
  else
    let o := if m = 3 then o.stretch c now else o
    let oc := if bad then incSat 3 o.openCnt else 0
    let gc := if bad then 0 else incSat 3 o.goodCnt
    { o with untested := false, method := m, openCnt := oc, goodCnt := gc, opened := if oc = 3 then true else if gc = 3 then false else o.opened }

/-- OPEN_LOAD_OBSERVE: suspended while VFO is low (R444), and not taken in the period of a short (R443). -/
def openLoadObserve (n : Fin 32) (bad : Bool) (s : State) : State :=
  let c := s.img.fo[n]
  if c.mode = 0 ∨ s.fio.vfoLow ∨ s.sys.mode = .watch ∨ s.fio.out[n].shortNow c s.now then s
  else
    let o := s.fio.out[n]
    let o' := o.observe c s.now (openMethod c o) bad
    let s := s.modFo n fun _ => o'
    if o'.opened && !o.opened then fieldEvent cLampOpen n.val (fun c => c.fos.getLsbD n) s else s

/-! ### Fans (R432-R435) -/

/-- Change one fan. -/
def State.modFan (s : State) (n : Fin 8) (f : FanUnit → FanUnit) : State := { s with fan := vmod s.fan n f }

/-- The speed of a tach period in microseconds (R432, log entry 5). -/
def tachRpm (c : FanCfg) (period : Nat) : Nat := if period = 0 then 65535 else satNat 65535 (Config.roundFree 60000000 (period * c.ppr)).toNat

/-- TACH_PULSE: a pulse of at least 50 microseconds gives the speed and ends spin-up or a kick (R432, R433, R447). -/
def tachPulse (n : Fin 8) (width : Nat) (period : Option Nat) (s : State) : State :=
  if width < 50 then s
  else
    let c := s.img.fan[n]
    let s := s.modFan n fun f => { f with
      rpm := match period with | some p => tachRpm c p | none => f.rpm
      st := if f.st = .spinUp ∨ f.st = .kick then .running else f.st }
    fanRefresh n s

/-- Axes that two fans of a PAIR stop when both are in FAN_STALL (R435). -/
def pairAxes (s : State) (n : Fin 8) : BitVec 4 :=
  (fins 8).foldl (fun (m : BitVec 4) (q : Fin 8) =>
    if (decide (s.img.fan[n].pair = some q) || decide (s.img.fan[q].pair = some n)) && decide (s.fan[q].st = .stall) then
      m ||| s.img.fan[n].axes ||| s.img.fan[q].axes
    else m) 0

/-- A fan is held at 100 % with FAN_STALL: the budget is derated, and the loss of a pair stops its axes (R338, R433-R435). -/
def fanStall (n : Fin 8) (s : State) : State :=
  let s := fanRefresh n (s.modFan n fun f => { f with st := .stall })
  let s := spmRefresh (fieldEvent cFanStall n.val (fun c => c.fns.getLsbD n) s)
  (fins 4).foldl (fun (s : State) (a : Fin 4) => if (pairAxes s n).getLsbD a then nonsafeSs1 a s else s) s

/-- FAN_SPIN_TIMEOUT: no tach pulse within tSPIN: a kick, or FAN_STALL after the third (R433). -/
def fanSpinTimeout (n : Fin 8) (s : State) : State :=
  if s.fan[n].st ≠ .spinUp then s
  else if s.fan[n].kicks < 3 then fanRefresh n (s.modFan n fun f => { f with st := .kick, kicks := f.kicks + 1 })
  else fanStall n s

/-- FAN_KICK_END: 2 s of a kick are over; the commanded duty returns (R433). -/
def fanKickEnd (n : Fin 8) (s : State) : State :=
  if s.fan[n].st = .kick then fanRefresh n (s.modFan n fun f => { f with st := .spinUp }) else s

/-- The supply current of a fan lies in its running range (R434). -/
def supplyRuns (s : State) (n : Fin 8) : Bool :=
  let c := s.img.fan[n]
  match c.supplyFo with
  | some o => decide (c.iLo ≤ s.fio.out[o].i) && decide (s.fio.out[o].i ≤ c.iHi)
  | none => false

/-- FAN_TACH_TIMEOUT: a RUNNING fan has been below MIN_RPM for 2 s: TACH_LOST or FAN_STALL (R434). -/
def fanTachTimeout (n : Fin 8) (rpm : BitVec 16) (s : State) : State :=
  if s.fan[n].st ≠ .running ∨ s.img.fan[n].minRpm ≤ rpm.toNat then s
  else
    let s := s.modFan n fun f => { f with rpm := rpm.toNat }
    if supplyRuns s n then
      spmRefresh (fieldEvent cTachLost n.val (fun c => c.fns.getLsbD n) (fanRefresh n (s.modFan n fun f => { f with st := .tachLost })))
    else fanStall n s

/-- FAN_RECOVER: at or above MIN_RPM for 5 s FAN_STALL and TACH_LOST clear (R435). -/
def fanRecover (n : Fin 8) (rpm : BitVec 16) (s : State) : State :=
  if (s.fan[n].st = .stall ∨ s.fan[n].st = .tachLost) ∧ s.img.fan[n].minRpm ≤ rpm.toNat then
    spmRefresh (fanRefresh n (s.modFan n fun f => { f with rpm := rpm.toNat, st := .running }))
  else s

/-! ### Analog inputs (R436, R437) -/

/-- A result of an input: value, wire break and over-range. -/
def AiUnit.result (c : AiCfg) (v : Nat) (a : AiUnit) : AiUnit :=
  let lo := if c.mode = 1 ∧ v < 9000 then incSat 3 a.lowCnt else 0
  let ok := if c.mode = 1 ∧ v > 9500 then incSat 3 a.okCnt else 0
  { a with
    val := v, acc := 0, n := 0, ver := a.ver + 1, lowCnt := lo, okCnt := ok
    wb := if lo = 3 then true else if ok = 3 then false else a.wb
    ovr := if v > 52500 then true else if v < 51250 then false else a.ovr }

/-- One scan of an input: the result is the mean of 2^AVG scans (Table 15.5); an input that is off reads 0. -/
def AiUnit.scan (c : AiCfg) (code : BitVec 16) (a : AiUnit) : AiUnit :=
  if c.mode = 0 then {}
  else
    let acc := a.acc + code.toNat
    if a.n + 1 < 2 ^ c.avg then { a with acc := acc, n := a.n + 1 }
    else a.result c (Config.roundFree acc (2 ^ c.avg)).toNat

/-- The converter and the ports run: the core domain is on. -/
def coreRuns (s : State) : Bool := !s.save.coreOff && decide (s.sys.mode ≠ .watch)

/-- AI_SCAN: all 16 inputs; a new wire break is recorded, and the ship-power budget follows (R337, R436, R437). -/
def aiScan (codes : Vector (BitVec 16) 16) (s : State) : State :=
  if !coreRuns s then s
  else
    let old := s.ain
    let s := { s with ain := s.ain.mapFinIdx fun i a h => a.scan (s.img.ai[i]'h) (codes[i]'h) }
    let s := (fins 16).foldl (fun (s : State) (n : Fin 16) =>
      if s.ain[n].wb && !old[n].wb then fieldEvent cAinBreak n.val (fun c => c.ais.getLsbD n) s else s) s
    spmRefresh s

/-! ### Encoder ports (R438-R440) -/

/-- Change one port. -/
def State.modEnc (s : State) (p : Fin 4) (f : EncPort → EncPort) : State := { s with enc := vmod s.enc p f }

/-- Entries down to the first that is at least 1 ms old. -/
def trailTrim (now : Nat) : List (Nat × Word) → List (Nat × Word)
  | [] => []
  | x :: t => if x.1 + 1000 ≤ now then [x] else x :: trailTrim now t

/-- The source of the movement takes a new value (R440). -/
def trailPush (now : Nat) (old new : Word) (l : List (Nat × Word)) : List (Nat × Word) :=
  (now, new) :: trailTrim now (if l.isEmpty then [(0, old)] else l)

/-- The count of a port takes a value. -/
def EncPort.setCount (now : Nat) (v : Word) (e : EncPort) : EncPort := { e with count := v, trail := trailPush now e.count v e.trail }

/-- An edge of a port: counted, or ILLEGAL where A and B change together (R438). Edges closer than 100 ns set OVERSPEED, and the count is
then not guaranteed: it is the free value `x` (R623, log entries 4, 69). -/
def EncPort.edge (c : EncCfg) (now : Nat) (back both close : Bool) (x : Word) (e : EncPort) : EncPort :=
  let e := if both then { e with illegal := true } else e
  if close then EncPort.setCount now x { e with overspeed := true }
  else if both then e
  else e.setCount now (if back != c.dir then e.count - 1 else e.count + 1)

/-- The counter of a port stays powered in WATCH (R564, Table 20.2). -/
def encKept (s : State) (p : Fin 4) : Bool := match s.img.watch with | some w => w.encKeep.getLsbD p | none => false

/-- The safety monitor, which decodes the balls itself, finds a source failed: ENC_CROSSCHECK on every axis that uses it (R285, R316). -/
def sourceFails (x : Src) (s : State) : State :=
  if !diagOn s || decide (s.fab.dom[1] ≠ .on) then s
  else (fins 4).foldl (fun (s : State) (n : Fin 4) => match axisCfg s n with
    | some c => if c.spd = x ∨ c.pos1 = some x ∨ c.pos2 = some x then raise cEncCrosscheck (BitVec.ofNat 8 n) 0 s else s
    | none => s) s

/-- ENC_COUNT_EDGE: a port with ENC_KEEP counts through WATCH (R564). A and B that change together are an illegal transition for the safety
monitor as well (R316). -/
def encCountEdge (p : Fin 4) (back both close : Bool) (s : State) : State :=
  let s := if both then sourceFails { port := p } s else s
  if s.img.enc[p].inc && (coreRuns s || (decide (s.sys.mode = .watch) && encKept s p)) then
    let (x, s) := if close then takeFree s else (0, s)
    s.modEnc p (EncPort.edge s.img.enc[p] s.now back both close x)
  else s

/-- ENC_Z_EDGE (Table 15.8). -/
def encZEdge (p : Fin 4) (s : State) : State :=
  let c := s.img.enc[p]
  if (c.inc || c.abs) && coreRuns s then s.modEnc p fun e => { e with zseen := true, zlat := if c.zlatch then e.count else e.zlat } else s

/-- Binary of a Gray code of n bits. -/
def grayToBin (n g : Nat) : Nat := ((bitsMsb g n).foldl (fun (x : Nat × Bool) b => let v := x.2 != b; (2 * x.1 + (if v then 1 else 0), v)) (0, false)).1

/-- The position of a good frame. -/
def absPos (c : EncCfg) (data : Word) : Nat :=
  let d := data.toNat % 2 ^ c.bits
  if c.gray then grayToBin c.bits d else d

/-- The difference of two absolute positions modulo 2^ABS_BITS. -/
def absDiff (c : EncCfg) (a b : Word) : Nat :=
  let m := 2 ^ c.bits
  let d := (a.toNat + (m - b.toNat % m)) % m
  min d (m - d)

/-- Tolerances of the axes that use an absolute port as position source 1 (R540). -/
def posTols (s : State) (p : Fin 4) : List Nat :=
  (fins 4).filterMap fun (n : Fin 4) => match axisCfg s n with
    | some c => if c.pos1 = some { port := p, abs := true } then some c.xcTol else none
    | none => none

/-- The axes of a verified absolute port are no longer UNVERIFIED. -/
def axesVerified (p : Fin 4) (s : State) : State :=
  (fins 4).foldl (fun (s : State) (n : Fin 4) => match axisCfg s n with
    | some c => if c.pos1 = some { port := p, abs := true } then s.modAxis n fun a => { a with unver := false } else s
    | none => s) s

/-- The comparison of R540 with the first good frame after a resume or a restore; a port that no axis uses as position source 1 has no
tolerance. -/
def posCompare (p : Fin 4) (s : State) : State :=
  match s.save.verify.find? fun x => decide (x.1 = p) with
  | none => s
  | some (_, ref) =>
    if s.sys.mode.isBoot then s
    else
      let d := absDiff s.img.enc[p] s.enc[p].pos ref
      let tols := posTols s p
      let ok := if tols.isEmpty then decide (d = 0) else tols.all fun t => decide (d ≤ t)
      let m : BitVec 4 := 1#4 <<< p.val
      let s := { s with save := { s.save with
        verify := s.save.verify.filter fun x => decide (x.1 ≠ p)
        moved := if ok then clear4 s.save.moved m else s.save.moved ||| m
        absOk := if ok then s.save.absOk ||| m else s.save.absOk
        unver := if ok && !s.img.enc[p].inc then clear4 s.save.unver m else s.save.unver } }
      if ok then axesVerified p s else s

/-- A frame of a port (R439): FRAME and ERR keep the last good position; a good frame clears them. -/
def EncPort.frameIn (c : EncCfg) (now : Nat) (ready : Bool) (data : Word) (err ended : Bool) (e : EncPort) : EncPort :=
  let bad := ready && c.errBit && (err != c.errLow)
  if !ready || !ended || bad then { e with frame := e.frame || !ready || !ended, err := e.err || bad }
  else
    let v := BitVec.ofNat 32 (absPos c data)
    { e with pos := v, err := false, frame := false, ver := e.ver + 1, trail := if c.inc then e.trail else trailPush now e.pos v e.trail }

/-- The safety monitor's view of a frame: the third frame in a row with the error bit fails the source; a frame that was not read breaks
the row (R316). -/
def frameWatch (p : Fin 4) (ready err ended : Bool) (s : State) : State :=
  let c := s.img.enc[p]
  let bad := ready && ended && c.errBit && (err != c.errLow)
  let n := if bad then satNat 3 (s.saf.encErr[p] + 1) else 0
  let s := { s with saf := { s.saf with encErr := s.saf.encErr.set p n } }
  if n = 3 then sourceFails { port := p, abs := true } s else s

/-- ABS_FRAME: `ready` is DATA high at the start, `data` the bits read right-aligned, `err` the error bit, `ended` DATA low after TMONO. -/
def absFrame (p : Fin 4) (ready : Bool) (data : Word) (err ended : Bool) (s : State) : State :=
  let c := s.img.enc[p]
  if !c.abs || !coreRuns s then s
  else
    let s := frameWatch p ready err ended s
    let s' := s.modEnc p (EncPort.frameIn c s.now ready data err ended)
    if s'.enc[p].ver = s.enc[p].ver then s' else posCompare p s'

/-! ### GPIO (R441) -/

/-- Ball levels change: enabled edges set their flags. -/
def Gpio.levels (new : BitVec 24) (g : Gpio) : Gpio :=
  { g with inp := new, flag := g.flag ||| (new &&& ~~~g.inp &&& g.rise) ||| (g.inp &&& ~~~new &&& g.fall) }

/-- The ball levels that the output drivers give: an output's ball follows GPIO_OUT. -/
def Gpio.drive (g : Gpio) : Gpio := g.levels ((g.inp &&& ~~~g.dir) ||| (g.out &&& g.dir))

/-- GPIO_EDGE: the level of an input's ball changes. -/
def gpioEdge (n : Fin 24) (lvl : Bool) (s : State) : State :=
  let m : BitVec 24 := 1#24 <<< n.val
  if s.gpio.dir.getLsbD n then s
  else { s with gpio := s.gpio.levels (if lvl then s.gpio.inp ||| m else s.gpio.inp &&& ~~~m) }

/-! ### Serial ports (R441, Table 15.8) -/

/-- A write of SER_SPIDATA starts a frame; while a frame runs it has no effect (log entry 52). -/
def spiStart (v : Word) (s : State) : State := if s.ser.spiBusy then s else { s with ser := { s.ser with spiTx := v, spiBusy := true } }

/-- SPI_FRAME_COMPLETE: the received frame of SIZE bits; SIZE 3 has no width, its frame is free (log entry 4). -/
def spiFrameComplete (d : Word) (s : State) : State :=
  if !s.ser.spiBusy then s
  else match getf s.ser.spiCtl 2 2 with
    | 0 => { s with ser := { s.ser with spiBusy := false, spiData := d &&& 0xFF#32 } }
    | 1 => { s with ser := { s.ser with spiBusy := false, spiData := d &&& 0xFFFF#32 } }
    | 2 => { s with ser := { s.ser with spiBusy := false, spiData := d } }
    | _ => let (x, s) := takeFree s; { s with ser := { s.ser with spiBusy := false, spiData := x } }

/-- A write of SER_UARTDATA queues a byte; a full FIFO takes none (log entry 52). -/
def uartQueue (b : Byte) (s : State) : State := if s.ser.utx.length < 16 then { s with ser := { s.ser with utx := s.ser.utx ++ [b] } } else s

/-- UART_BYTE_SENT. -/
def uartByteSent (s : State) : State := { s with ser := { s.ser with utx := s.ser.utx.drop 1 } }

/-- UART_BYTE_RECEIVED: a full FIFO loses the byte (log entry 52). -/
def uartByteReceived (b : Byte) (s : State) : State := if s.ser.urx.length < 16 then { s with ser := { s.ser with urx := s.ser.urx ++ [b] } } else s

/-- A write of SER_I2CCTL: FAST, ADDR and RD, and a transfer where GO is 1; while a transfer runs it has no effect (log entry 52). -/
def i2cCtl (v : Word) (s : State) : State :=
  if s.ser.i2cBusy then s else { s with ser := { s.ser with i2cCtl := v &&& 0x1FF#32, i2cBusy := getb v 31 } }

/-- I2C_COMPLETE: NACK where the target did not acknowledge; a read returns its byte. -/
def i2cComplete (ack : Bool) (d : Byte) (s : State) : State :=
  if !s.ser.i2cBusy then s
  else { s with ser := { s.ser with i2cBusy := false, nack := !ack, i2cData := if ack && getb s.ser.i2cCtl 8 then d else s.ser.i2cData } }

/-! ### Starting state (R451) -/

/-- Field outputs, fans, inputs and codes start again after a sag. -/
def fieldRestart (s : State) : State :=
  { s with
    fio := { s.fio with out := s.fio.out.mapFinIdx fun i o h =>
      { o with st := 0, duty := 0, opened := false, openCnt := 0, goodCnt := 0, untested := false, short := false, shortAt := none
               strTo := 0, strNext := 0, late := false, retryLeft := (s.img.fo[i]'h).retry } }
    fan := s.fan.map fun f => { f with st := .off, kicks := 0, duty := 0, cmd := 0 }
    ain := s.ain.map fun a => { a with wb := false, ovr := false, lowCnt := 0, okCnt := 0, acc := 0, n := 0 } }

/-! ### Meanings -/

def execFoMeasure (cur : Vector (Option (BitVec 12)) 32) (s : State) : Res := .next (foMeasure cur s)
def execFoShort (n : Fin 32) (hot : Bool) (s : State) : Res := .next (foShort n hot s)
def execFoRetry (n : Fin 32) (s : State) : Res := .next (foRetry n s)
def execFoRetryReset (n : Fin 32) (s : State) : Res := .next (foRetryReset n s)
def execFoClear (w : World) (mask : Word) (s : State) : Res := .next (blockWrite w 10 0x200 mask (foClearDo w mask) s)
def execOpenLoadObserve (n : Fin 32) (bad : Bool) (s : State) : Res := .next (openLoadObserve n bad s)
def execTachPulse (n : Fin 8) (width : Nat) (period : Option Nat) (s : State) : Res := .next (tachPulse n width period s)
def execFanSpinTimeout (n : Fin 8) (s : State) : Res := .next (fanSpinTimeout n s)
def execFanKickEnd (n : Fin 8) (s : State) : Res := .next (fanKickEnd n s)
def execFanTachTimeout (n : Fin 8) (rpm : BitVec 16) (s : State) : Res := .next (fanTachTimeout n rpm s)
def execFanRecover (n : Fin 8) (rpm : BitVec 16) (s : State) : Res := .next (fanRecover n rpm s)
def execAiScan (codes : Vector (BitVec 16) 16) (s : State) : Res := .next (aiScan codes s)
def execEncCountEdge (p : Fin 4) (back both close : Bool) (s : State) : Res := .next (encCountEdge p back both close s)
def execAbsFrame (p : Fin 4) (ready : Bool) (data : Word) (err ended : Bool) (s : State) : Res := .next (absFrame p ready data err ended s)
def execEncZEdge (p : Fin 4) (s : State) : Res := .next (encZEdge p s)
def execGpioEdge (n : Fin 24) (lvl : Bool) (s : State) : Res := .next (gpioEdge n lvl s)
def execSpiDataWrite (w : World) (v : Word) (s : State) : Res := .next (blockWrite w 25 0x04 v (spiStart v) s)
def execSpiFrameComplete (d : Word) (s : State) : Res := .next (spiFrameComplete d s)
def execUartDataWrite (w : World) (b : Byte) (s : State) : Res := .next (blockWrite w 25 0x14 (b.setWidth 32) (uartQueue b) s)
def execUartByteSent (s : State) : Res := .next (uartByteSent s)
def execUartByteReceived (b : Byte) (s : State) : Res := .next (uartByteReceived b s)
def execI2cGo (w : World) (ctl : Word) (s : State) : Res := .next (blockWrite w 25 0x20 (ctl ||| 0x80000000#32) (i2cCtl (ctl ||| 0x80000000#32)) s)
def execI2cComplete (ack : Bool) (d : Byte) (s : State) : Res := .next (i2cComplete ack d s)
def execVfoLow (v : BitVec 16) (s : State) : Res := .next { s with fio := { s.fio with vfo := v.toNat, vfoLow := true } }
def execVfoReturn (v : BitVec 16) (s : State) : Res := .next { s with fio := { s.fio with vfo := v.toNat, vfoLow := false } }

end Sys2Proof.Machine
end

