-- ==== Sys2Proof/Machine/Cabinet.lean ====
section
/-! DEFINITION. Machine/Cabinet.lean: the metrology island and the Window (14_metrology_cabinet.md). -/
namespace Sys2Proof.Machine
open Sys2Proof

/-! ### Text of telegrams (R412, Table 14.7, log entry 56) -/

/-- The bytes of an ASCII text. -/
def ascii (t : String) : List Byte := t.toList.map fun c => BitVec.ofNat 8 c.toNat

/-- Decimal digits of a number, with enough fuel for its length. -/
def decGo : Nat → Nat → List Byte → List Byte
  | 0, _, acc => acc
  | f + 1, n, acc =>
    let acc := BitVec.ofNat 8 (48 + n % 10) :: acc
    if n < 10 then acc else decGo f (n / 10) acc

/-- A decimal field. -/
def decField (n : Int) : List Byte := (if n < 0 then [0x2D] else []) ++ decGo 24 n.natAbs []

/-- k hexadecimal digits, most significant first. -/
def hexField (k n : Nat) : List Byte :=
  (List.range k).map fun i =>
    let d := n / 16 ^ (k - 1 - i) % 16
    BitVec.ofNat 8 (if d < 10 then 48 + d else 55 + d)

/-- Fields behind commas. -/
def commaFields (l : List (List Byte)) : List Byte := l.flatMap fun f => 0x2C :: f

/-- A telegram: STX, the type letter and fields, an asterisk, the CRC-16 of R22 in 4 hexadecimal digits, ETX. -/
def telegram (t : String) (fs : List (List Byte)) : List Byte :=
  let b := ascii t ++ commaFields fs ++ [0x2A]
  [0x02] ++ b ++ hexField 4 (crc16 (b.flatMap fun x => bitsMsb x.toNat 8)).toNat ++ [0x03]

/-! ### Received telegrams (R412, Table 14.7, log entry 56) -/

/-- A hexadecimal digit in capitals. -/
def capital (b : Byte) : Byte := if 0x61 ≤ b.toNat ∧ b.toNat ≤ 0x66 then b - 0x20#8 else b

/-- What stands between STX and the asterisk of a telegram whose CRC is good; none for any other bytes, which are discarded. -/
def telegramBody : List Byte → Option (List Byte)
  | [] => none
  | x :: r =>
    let b := r.take (r.length - 5)
    let crc := hexField 4 (crc16 (b.flatMap fun y => bitsMsb y.toNat 8)).toNat
    if x = 0x02 ∧ b.getLast? = some 0x2A ∧ (r.drop b.length).map capital = crc ++ [0x03] then some b.dropLast else none

/-- The fields of a text, split at its commas. -/
def splitFields : List Byte → List (List Byte)
  | [] => [[]]
  | x :: r =>
    match splitFields r with
    | f :: l => if x = 0x2C then [] :: f :: l else (x :: f) :: l
    | [] => [[x]]

/-- The value of a decimal field. -/
def decValue (f : List Byte) : Option Nat :=
  if f = [] then none
  else f.foldl (fun (n : Option Nat) (d : Byte) =>
    n.bind fun k => if 0x30 ≤ d.toNat ∧ d.toNat ≤ 0x39 then some (10 * k + (d.toNat - 0x30)) else none) (some 0)

/-- The fields behind the type letter of a good telegram of that type. -/
def telegramFields (t : String) (b : List Byte) : Option (List (List Byte)) :=
  match (telegramBody b).map splitFields with
  | some (f :: l) => if f = ascii t then some l else none
  | _ => none

/-- The request of an H telegram. -/
def hRequest (b : List Byte) : Option Nat :=
  match telegramFields "H" b with
  | some [f] => decValue f
  | _ => none

/-- A legal parameter by its name in Table 14.2; the spans and zeros are captured, not written. -/
def paramNamed (f : List Byte) : Option CabParam :=
  [("MAX_E", CabParam.maxE), ("E_G", CabParam.eG), ("GRAV", CabParam.grav), ("CELLS", CabParam.cells), ("TRACK", CabParam.track)].findSome? fun x =>
    if ascii x.1 = f then some x.2 else none

/-- What a C telegram asks for: the parameter and its value, none where it names none or gives no number. -/
def cRequest (b : List Byte) : Option (Option (CabParam × Nat)) :=
  match telegramFields "C" b with
  | some [n, v] => some ((paramNamed n).bind fun q => (decValue v).map fun k => (q, k))
  | _ => none

/-- What an S telegram asks for: none captures the zero of the inputs, a load in kg captures the span. -/
def sRequest (b : List Byte) : Option (Option Nat) :=
  match telegramFields "S" b with
  | some [z] => if z = ascii "Z" then some none else none
  | some [n, kg] => if n = ascii "N" then (decValue kg).map some else none
  | _ => none

/-! ### Values (R391-R396) -/

/-- e in milligrams. -/
def CabPar.eMg (p : CabPar) : Nat := p.eG * 1000

/-- Max in milligrams. -/
def CabPar.maxMg (p : CabPar) : Nat := p.maxE * p.eMg

/-- Gross in milligrams. -/
def Cab.gross (c : Cab) : Int := c.raw - c.zero

/-- A weight in e, nearest, ties to even (R396). -/
def CabPar.inE (p : CabPar) (mg : Int) : Int := rne mg p.eMg

/-- OVERLOAD: above Max + 9 e. -/
def Cab.overload (c : Cab) : Bool := decide (c.gross > c.par.maxMg + 9 * c.par.eMg)

/-- UNDERLOAD: below -20 e. -/
def Cab.underload (c : Cab) : Bool := decide (c.gross < -(20 * c.par.eMg : Int))

/-- CENTRE_ZERO: within 0.25 e of zero with no tare active. -/
def Cab.centre (c : Cab) : Bool := decide (4 * c.gross.natAbs ≤ c.par.eMg) && c.par.tare == 0

/-- STATE of a Window record (Table 14.4). -/
def Cab.stateField (c : Cab) : Nat :=
  packBits [decide (c.causes = 0), c.stable, c.centre, c.overload, c.underload, c.accLimit, c.par.tare != 0, false] + 256 * c.causes.toNat

/-! ### Window records (Table 14.4, R409, R410) -/

/-- A record of 112 bytes. -/
def Cab.winRecord (c : Cab) (type tag : Nat) (body sig : List Byte) : List Byte :=
  wordBytes c.wseq ++ [BitVec.ofNat 8 type, BitVec.ofNat 8 tag] ++ leBytes 2 c.stateField ++ wordBytes c.ms ++ List.replicate 4 0 ++ body ++ sig

/-- A signed number in k bytes. -/
def intBytes (k : Nat) (n : Int) : List Byte := leBytes k (n % (256 ^ k : Nat)).toNat

/-- Held records enter the FIFO while it has room (R410). -/
def Cab.drain (c : Cab) : Cab :=
  let n := min c.hold.length (8 - c.fifo.length)
  { c with fifo := c.fifo ++ c.hold.take n, hold := c.hold.drop n }

/-- A LEGAL, REPLAY or STATUS record waits in the hold; the oldest of five is dropped; it enters the FIFO while the proxy is powered (R410,
R423). -/
def Cab.offer (proxy : Bool) (type tag : Nat) (body sig : List Byte) (c : Cab) : Cab :=
  let r := c.winRecord type tag body sig
  let h := c.hold ++ [r]
  let c := { c with wseq := c.wseq + 1, hold := if h.length > 4 then h.drop 1 else h }
  if proxy then c.drain else c

/-- GROSS_G of a FAST record (log entry 5). -/
def Cab.grossG (c : Cab) : Int := Config.roundFree c.gross 1000

/-- The body of a FAST record. -/
def Cab.fastBody (c : Cab) : List Byte :=
  intBytes 4 c.grossG ++ intBytes 4 (Config.roundFree (c.gross - (c.par.tare * c.par.eMg : Nat)) 1000) ++ intBytes 2 c.a ++
    leBytes 2 (satNat 65535 c.d) ++ List.replicate 20 0

/-- The FAST record of a millisecond: it enters the FIFO where there is room; the fast latch follows while no cause is present; the
proxy shows the causes and PRES (R407, R409, R410). -/
def Cab.sendFast (proxy : Bool) (c : Cab) : Cab :=
  let r := c.winRecord 1 0 c.fastBody (List.replicate 64 0)
  let c := { c with wseq := c.wseq + 1 }
  if !proxy then c
  else
    let c := c.drain
    let c := { c with fifo := if c.fifo.length < 8 then c.fifo ++ [r] else c.fifo, pres := 2, stShown := c.causes.toNat }
    if c.causes = 0 then
      { c with fast := toW c.grossG, fastA := (c.a % 65536).toNat, fastD := satNat 65535 c.d, fastVer := c.fastVer + 1 }
    else c

/-! ### Answers (R411, Table 14.6) -/

def kOk : Nat := 0
def kNotStable : Nat := 1
def kRange : Nat := 2
def kNotLegal : Nat := 3
def kNotFound : Nat := 4
def kBadState : Nat := 5
def kBadArg : Nat := 6
def kAbsent : Nat := 7

/-- The answer of a command. -/
def Cab.answer (k : CabCmd) (code : Nat) (disp : Bool) (c : Cab) : Cab :=
  { c with cmd := none, pend := false, ansCode := code, ansTag := k.tag, ansOp := k.op, ansDisp := disp, ansValid := true }

/-- A cause arises: it is set, and a waiting ZERO, TARE or RECORD is answered NOT_LEGAL (R407, R416, R417). -/
def Cab.setCauses (m : BitVec 8) (c : Cab) : Cab :=
  let c := { c with causes := c.causes ||| m }
  if c.causes = 0 then c else match c.cmd with | some k => c.answer k kNotLegal (decide (k.op = 4) && c.noDisp) | none => c

/-! ### Legal records (Table 14.1, R400, R401) -/

/-- The bytes of the next legal record. -/
def Cab.legalRecord (c : Cab) : List Byte :=
  let g := c.par.inE c.gross
  let am := c.win.foldl (fun m x => max m x.a) 0
  let dm := c.win.foldl (fun m x => max m x.d) 0
  let b := leBytes 4 (c.newest + 1) ++ wordBytes c.itime ++ intBytes 4 g ++ intBytes 4 c.par.tare ++ intBytes 4 (g - c.par.tare) ++
    leBytes 2 c.par.audit ++ leBytes 2 (packBits [c.par.tare != 0, c.par.track, decide (am > 50000000)]) ++ leBytes 2 (satNat 65535 dm) ++
    leBytes 2 (satNat 65535 (Config.roundFree am 1000000).toNat)
  b ++ wordBytes (crc32c b)

/-- The signature of a record: over the serial number and the record (R401). -/
def Cab.sign (c : Cab) (r : List Byte) : List Byte := edSign c.par.seed (c.par.serial ++ r)

/-- RECORD is carried out: alibi memory, LEGAL record, R telegram. -/
def Cab.writeRecord (proxy : Bool) (k : CabCmd) (c : Cab) : Cab :=
  let r := c.legalRecord
  let q := c.newest + 1
  let g := c.par.inE c.gross
  let c := { c with
    alibi := kvSet (q % 32768) { bytes := r } c.alibi, newest := q
    tx := telegram "R" [decField q, decField c.itime.toNat, decField g, decField c.par.tare, decField (g - c.par.tare)] }
  Cab.answer k kOk false (c.offer proxy 2 k.tag r (c.sign r))

/-- A ZERO, TARE or RECORD with a stable result (R398-R400, R411, R421). -/
def Cab.carryOut (proxy : Bool) (k : CabCmd) (c : Cab) : Cab :=
  match k.op with
  | 1 =>
    if c.par.tare ≠ 0 then c.answer k kBadState false
    else if 50 * (c.raw - c.zero0.getD 0).natAbs ≤ c.par.maxMg then Cab.answer k kOk false { c with zero := c.raw }
    else c.answer k kRange false
  | 2 =>
    if 0 < c.gross ∧ c.gross ≤ c.par.maxMg then
      Cab.answer k kOk false { c with par := { c.par with tare := (c.par.inE c.gross).toNat } }
    else c.answer k kRange false
  | _ =>
    if c.noDisp then c.answer k kNotLegal true
    else if c.overload || c.underload then c.answer k kRange false
    else c.writeRecord proxy k

/-- Where a SEQ is held with a good CRC (R400, R418, R419). -/
def Cab.findRecord (c : Cab) (q : Nat) : Option (List Byte) :=
  if q = 0 ∨ q > c.newest ∨ q + 32767 < c.newest then none
  else match kvGet (q % 32768) c.alibi with
    | some x => if x.ok then some x.bytes else none
    | none => none

/-- The body of a STATUS record. -/
def Cab.statusBody (c : Cab) : List Byte :=
  ascii "CAB 2.04" ++ leBytes 2 Config.cabChecksum.toNat ++ leBytes 2 c.par.audit ++ wordBytes c.itime ++ leBytes 4 c.newest ++ leBytes 4 c.par.eG ++
    leBytes 2 c.par.maxE ++ leBytes 4 c.par.tare ++ [0, 0]

/-- A command reaches the island (Table 14.5): answered at once, or waiting for a stable result. -/
def Cab.accept (proxy : Bool) (k : CabCmd) (c : Cab) : Cab :=
  if k.op = 0 ∨ k.op = 7 ∨ (k.op ≠ 5 ∧ k.arg ≠ 0) then c.answer k kBadArg false
  else match k.op with
    | 3 => Cab.answer k kOk false { c with par := { c.par with tare := 0 } }
    | 5 => match c.findRecord k.arg.toNat with
      | some r => Cab.answer k kOk false (c.offer proxy 3 k.tag r (c.sign r))
      | none => c.answer k kNotFound false
    | 6 => Cab.answer k kOk false (c.offer proxy 4 k.tag c.statusBody (c.par.pub ++ c.par.serial ++ List.replicate 24 0))
    | _ =>
      let blind := decide (k.op = 4) && c.noDisp
      if c.causes ≠ 0 ∨ blind then c.answer k kNotLegal blind
      else if k.op = 1 ∧ c.par.tare ≠ 0 then c.answer k kBadState false
      else if c.stable then c.carryOut proxy k
      else c

/-- A GO with OP and TAG (R15, R411): at once CAB_ABSENT on a TWV900-MN, where nothing else happens; ignored with COLLIDE while a command is
pending. -/
def cabGo (op : Nat) (tag : Byte) (s : State) : State :=
  let c := { s.cab with regOp := op, regTag := tag.toNat }
  if isMn s then { s with cab := Cab.answer { op := op, tag := tag.toNat, arg := 0 } kAbsent false s.cab }
  else if c.pend then { s with cab := { c with collide := true } }
  else
    let k : CabCmd := { op := op, tag := tag.toNat, arg := c.regArg }
    let c := { c with pend := true, cmd := some k }
    { s with cab := if c.run then c.accept (coreRuns s) k else c }

/-- A command row: a core write of CABW_CMD with GO in a world. -/
def cabCommand (op : Nat) (w : World) (tag : Byte) (s : State) : State :=
  blockWrite w 9 0x10 (fields [fld op 0 3, fld tag.toNat 8 8, bit true 31]) (cabGo op tag) s

/-- CAB_COMMAND_COMPLETE: the waiting command finds a stable result. -/
def cabCommandComplete (s : State) : State :=
  match s.cab.cmd with
  | some k => if s.cab.run ∧ s.cab.stable ∧ s.cab.causes = 0 then { s with cab := s.cab.carryOut (coreRuns s) k } else s
  | none => s

/-- CAB_STABILITY_TIMEOUT: no stable result within 5 s. -/
def cabStabilityTimeout (s : State) : State :=
  match s.cab.cmd with
  | some k => { s with cab := s.cab.answer k kNotStable false }
  | none => s

/-! ### Samples (R391-R398) -/

/-- Square root rounded down, by bits from 2^k. -/
def isqrtGo : Nat → Nat → Nat → Nat
  | 0, _, r => r
  | k + 1, n, r => let t := r + 2 ^ k; isqrtGo k n (if t * t ≤ n then t else r)

/-- Square root rounded down of a number below 2^128. -/
def isqrt (n : Nat) : Nat := isqrtGo 64 n 0

/-- One step of the 10 s average of a component at 1 kHz (log entry 57). -/
def avgStep (avg m : Int) : Int := avg + Config.roundFree (m - avg) 10000

/-- The averaged gravity vector with a new sample. -/
def gravStep (g : Option (Int × (Int × Int))) (m : Int × (Int × Int)) : Int × (Int × Int) :=
  match g with
  | none => m
  | some v => (avgStep v.1 m.1, (avgStep v.2.1 m.2.1, avgStep v.2.2 m.2.2))

/-- The vertical acceleration in nm/s^2: the component along the averaged direction, less GRAV (R393). -/
def vertical (p : CabPar) (g m : Int × (Int × Int)) : Int :=
  let dot := m.1 * g.1 + m.2.1 * g.2.1 + m.2.2 * g.2.2
  let n := isqrt (g.1 * g.1 + g.2.1 * g.2.1 + g.2.2 * g.2.2).toNat
  Config.roundFree dot n - (p.grav * 10000 : Nat)

/-- F in milligrams as a fraction over the product of the SPAN denominators (R391). -/
def forceNum (p : CabPar) (ratio : Vector Int 4) : Int × Nat :=
  (fins 4).foldl (fun (x : Int × Nat) (k : Fin 4) =>
    if p.cells.getLsbD k then (x.1 * p.span[k].den + p.span[k].num * (ratio[k] - p.zero[k]) * x.2, x.2 * p.span[k].den) else x) (0, 1)

/-- The compensated gross against the calibration zero, in milligrams (R393). -/
def compensated (p : CabPar) (ratio : Vector Int 4) (aNm : Int) : Int :=
  let f := forceNum p ratio
  let g : Int := (p.grav * 10000 : Nat)
  Config.roundFree (f.1 * g) (f.2 * (g + aNm).toNat)

/-- An input fails R392. -/
def bridgeBad (p : CabPar) (m : CabSample) : Bool :=
  (fins 4).any fun (k : Fin 4) => p.cells.getLsbD k && (decide (m.sense[k] < 2000) || decide (m.ratio[k].natAbs > 3900000))

/-- The conditions of Table 14.3 that a sample shows: VCAB, ACCEL, BRIDGE; the others are kept. -/
def Cab.condOf (m : CabSample) (c : Cab) : BitVec 8 :=
  let b (x : Bool) (i : Nat) : BitVec 8 := if x then 1#8 <<< i else 0
  (c.cond &&& 0x9D#8) ||| b (decide (m.vcab < 3135) || decide (m.vcab > 3465)) 1 ||| b (c.accelBad || decide (c.accMiss = 10)) 5 ||| b (bridgeBad c.par m) 6

/-- The point of this millisecond (R394, R395). -/
def Cab.point (raw aNm : Int) (c : Cab) : CabPoint :=
  let l := (c.win.take 1999).map CabPoint.g
  let n := l.length + 1
  let dev := (raw * (n : Nat) - l.foldl (· + ·) raw).natAbs
  { g := raw, d := (Config.roundFree ((dev * 100 : Nat) : Int) (n * c.par.eMg)).toNat, a := aNm.natAbs, still := decide (aNm.natAbs ≤ 2000000000)
    calm := decide (2 * dev < n * c.par.eMg) }

/-- ITIME, MS and the second of R398. -/
def Cab.clock (c : Cab) : Cab :=
  let c := { c with ms := c.ms + 1 }
  if c.subMs + 1 = 1000 then { c with subMs := 0, itime := c.itime + 1, tracked := 0 } else { c with subMs := c.subMs + 1 }

/-- The initial zero (R397). -/
def Cab.seekZero (c : Cab) : Cab :=
  if c.stable ∧ c.zero0.isNone ∧ 10 * c.raw.natAbs ≤ c.par.maxMg then
    { c with zero := c.raw, zero0 := some c.raw, causes := c.causes &&& 0xFB#8, cond := c.cond &&& 0xFB#8 }
  else c

/-- Zero tracking acts in this millisecond (R398). -/
def Cab.tracks (c : Cab) : Bool :=
  c.par.track && c.stable && c.zero0.isSome && c.par.tare == 0 && decide (2 * c.gross.natAbs ≤ c.par.eMg)

/-- The most that tracking may correct now: half an e a second, and no more than the gross. -/
def Cab.trackRoom (c : Cab) : Nat := min c.gross.natAbs (c.par.eMg / 2 - c.tracked)

/-- Zero moves by n towards the gross, within 2 % of Max of the initial zero. -/
def Cab.trackBy (n : Nat) (c : Cab) : Cab :=
  let z := if c.gross < 0 then c.zero - n else c.zero + n
  if 50 * (z - c.zero0.getD 0).natAbs ≤ c.par.maxMg then { c with zero := z, tracked := c.tracked + n } else c

/-- CAB_SAMPLE: the 1 kHz sample: gravity, compensation, causes, stability, zero and the FAST record. How much of the bound tracking
uses is free (log entries 4, 58). -/
def cabSample (m : CabSample) (s : State) : State :=
  if !s.cab.run then s
  else
    let (w, s) := if s.cab.tracks then takeFree s else (0, s)
    let c := s.cab.clock
    let c := { c with ratio := m.ratio, accMiss := if m.acc.isSome then 0 else incSat 10 c.accMiss }
    let gv := match m.acc with | some v => some (gravStep c.gvec v) | none => c.gvec
    let aNm : Int := match m.acc, gv with | some v, some g => vertical c.par g v | _, _ => c.a * 1000000
    let raw := compensated c.par m.ratio aNm
    let pt := c.point raw aNm
    let win := pt :: c.win.take 1999
    let cond := c.condOf m
    let c := { c with
      gvec := gv, raw := raw, a := Config.roundFree aNm 1000000, d := pt.d, win := win, accLimit := !pt.still, cond := cond
      stable := decide (win.length = 2000) && win.all fun x => x.calm && x.still }
    let c := (c.setCauses (cond &&& 0x62#8)).seekZero
    let c := if c.tracks then c.trackBy (w.toNat % (c.trackRoom + 1)) else c
    { s with cab := c.sendFast (coreRuns s) }

/-! ### Start, power and causes (R404-R408) -/

/-- The I telegram. -/
def Cab.sendI (c : Cab) : Cab := { c with tx := telegram "I" [ascii "CAB 2.04", hexField 4 Config.cabChecksum.toNat, decField c.par.audit] }

/-- The K telegram. -/
def Cab.sendK (c : Cab) : Cab :=
  { c with tx := telegram "K" (decField (leNat c.par.serial) :: (List.range 4).map fun i => hexField 16 (beNat (slice c.par.pub (8 * i) 8))) }

/-- The E telegram with the cause bits. -/
def Cab.sendE (c : Cab) : Cab := { c with tx := telegram "E" [decField c.causes.toNat] }

/-- CAB_START: the start-up checks of the ROM checksum, the parameter-memory CRC and the accelerometer, each given by its outcome; a TWV900-MN has
no island (R15, R405). A command that waits since before the start reaches the island
now (log entry 67). -/
def cabStart (rom params accel : Bool) (s : State) : State :=
  if isMn s ∨ s.cab.run then s
  else
    let p := { s.cab.par with ok := params }
    let m := BitVec.ofNat 8 (packBits [false, false, true, !p.ok || !p.calibrated, !rom, !accel, false, s.cab.calsw])
    let c := { s.cab with
      run := true, par := p, causes := m, cond := m, accelBad := !accel, accMiss := 0, noDisp := false, itime := p.itime, subMs := 0, ms := 0, gvec := none
      raw := 0, zero := 0, zero0 := none, win := [], a := 0, d := 0, stable := false, accLimit := false, tracked := 0, hold := [] }
    let c := Cab.sendI c
    { s with cab := match c.cmd with | some k => c.accept (coreRuns s) k | none => c }

/-- CAB_POWER_DOWN: ITIME is stored and the island stops; `torn`: VCAB went without warning during an alibi write, whose record then fails
its CRC (R404, R406, R418). -/
def cabPowerDown (torn : Bool) (s : State) : State :=
  if !s.cab.run then s
  else
    let c := s.cab
    let al := if torn then (match kvGet (c.newest % 32768) c.alibi with | some x => kvSet (c.newest % 32768) { x with ok := false } c.alibi | none => c.alibi)
      else c.alibi
    { s with cab := { c with run := false, alibi := al, par := { c.par with itime := c.itime }, stable := false, hold := [], pres := 1 } }

/-- CALSW_CHANGE: cause CAL is set while CALSW is closed and clears at once (R402, R407). -/
def calswChange (closed : Bool) (s : State) : State :=
  let c := { s.cab with calsw := closed }
  if !c.run then { s with cab := c }
  else if closed then { s with cab := Cab.setCauses 0x80 { c with cond := c.cond ||| 0x80#8 } }
  else { s with cab := { c with causes := c.causes &&& 0x7F#8, cond := c.cond &&& 0x7F#8 } }

/-- XCAB_LOSS: cause XCAB. -/
def xcabLoss (s : State) : State :=
  if s.cab.run then { s with cab := Cab.setCauses 1 { s.cab with cond := s.cab.cond ||| 1#8 } } else s

/-- NOT_LEGAL_CLEAR: a cause whose condition has been absent for 10 s clears; INIT_ZERO and CAL clear by their own events, and a ROM or
self-test failure stays until the next start (R405, R407). -/
def notLegalClear (k : Fin 8) (s : State) : State :=
  let c := s.cab
  let cond := if k = 0 then c.cond &&& 0xFE#8 else if k = 3 ∧ c.par.ok ∧ c.par.calibrated then c.cond &&& 0xF7#8 else c.cond
  if !c.run ∨ k = 2 ∨ k = 7 ∨ cond.getLsbD k then s
  else { s with cab := { c with cond := cond, causes := c.causes &&& ~~~(1#8 <<< k.val) } }

/-- DISPLAY_TIMEOUT: no H telegram for 2 s; a RECORD that waits is answered NOT_LEGAL with the display flag (R408). -/
def displayTimeout (s : State) : State :=
  if !s.cab.run then s
  else
    let c := { s.cab with noDisp := true }
    { s with cab := match c.cmd with | some k => if k.op = 4 then c.answer k kNotLegal true else c | none => c }

/-- H_TELEGRAM: the display is present; 1 asks for I, 2 for K. -/
def hTelegram (b : List Byte) (s : State) : State :=
  match (if s.cab.run then hRequest b else none) with
  | none => s
  | some q =>
    let c := { s.cab with noDisp := false }
    { s with cab := if q = 1 then c.sendI else if q = 2 then c.sendK else c }

/-- W_TELEGRAM: every 100 ms the weights while legal, else the E telegram (R407). -/
def wTelegram (s : State) : State :=
  let c := s.cab
  if !c.run then s
  else if c.causes ≠ 0 then { s with cab := c.sendE }
  else
    let g := c.par.inE c.gross
    { s with cab := { c with tx := telegram "W" [decField g, decField c.par.tare, decField (g - c.par.tare), decField c.stateField] } }

/-! ### Calibration (R402, R403, R424) -/

/-- 1, 2 or 5 times a power of ten. -/
def scaleInterval (n : Nat) : Bool := (List.range 10).any fun k => n == 10 ^ k || n == 2 * 10 ^ k || n == 5 * 10 ^ k

/-- A parameter takes a value in its range (Table 14.2); none outside it. -/
def CabPar.setParam (q : CabParam) (v : Nat) (p : CabPar) : Option CabPar :=
  match q with
  | .maxE => if 100 ≤ v ∧ v ≤ 6000 then some { p with maxE := v } else none
  | .eG => if scaleInterval v then some { p with eG := v } else none
  | .grav => if 976000 ≤ v ∧ v ≤ 984000 then some { p with grav := v } else none
  | .cells => if 1 ≤ v ∧ v ≤ 15 then some { p with cells := BitVec.ofNat 4 v } else none
  | .track => if v ≤ 1 then some { p with track := v == 1 } else none

/-- The captured zero of the inputs in use. -/
def CabPar.captureZero (ratio : Vector Int 4) (p : CabPar) : CabPar :=
  { p with zero := p.zero.mapFinIdx fun i z h => if p.cells.getLsbD i then ratio[i]'h else z }

/-- The captured span: one factor for the inputs in use, so that their sum gives the test load in kg (log entry 59); none where the sum
is 0. -/
def CabPar.captureSpan (ratio : Vector Int 4) (kg : Nat) (p : CabPar) : Option CabPar :=
  let sum := (fins 4).foldl (fun (x : Int) (k : Fin 4) => if p.cells.getLsbD k then x + (ratio[k] - p.zero[k]) else x) 0
  let f : Span := if sum < 0 then { num := -(kg * 1000000 : Nat), den := sum.natAbs } else { num := (kg * 1000000 : Nat), den := sum.natAbs }
  if sum = 0 then none else some { p with span := p.span.mapFinIdx fun i z _ => if p.cells.getLsbD i then f else z }

/-- A legal change: only with CALSW closed and below audit count 65 535; it counts once. Anything else is answered with E. -/
def cabChange (new : Option CabPar) (s : State) : State :=
  let c := s.cab
  if !c.run then s
  else if !c.calsw then { s with cab := c.sendE }
  else if c.par.audit ≥ 65535 then { s with cab := { c with tx := telegram "E" [ascii "AUDIT"] } }
  else match new with
    | none => { s with cab := c.sendE }
    | some p => { s with cab := { c with par := { p with audit := c.par.audit + 1, ok := true } } }

/-- C_TELEGRAM; a telegram that is no good C telegram is discarded (R412). -/
def cTelegram (b : List Byte) (s : State) : State :=
  match cRequest b with
  | none => s
  | some x => cabChange (x.bind fun q => s.cab.par.setParam q.1 q.2) s

/-- Eight free words as a key seed (R401, log entry 4). -/
def freeSeed (n : Nat) : List Byte := (List.range 8).flatMap fun i => wordBytes (Config.freeWord (n + i))

/-- The first span capture is the first calibration: the key pair is generated (R401, Table 14.2, log entry 59). -/
def CabPar.firstCal (ctr : Nat) (p : CabPar) : CabPar :=
  if p.calibrated then p else { p with calibrated := true, seed := freeSeed ctr, pub := edPub (freeSeed ctr) }

/-- S_TELEGRAM: the zero of the inputs is captured, or the span with a load in kg; a telegram that is no good S telegram is discarded (R412). -/
def sTelegram (b : List Byte) (s : State) : State :=
  match sRequest b with
  | none => s
  | some none => cabChange (some (s.cab.par.captureZero s.cab.ratio)) s
  | some (some kg) => cabChange ((s.cab.par.captureSpan s.cab.ratio kg).map fun p => p.firstCal s.freeCtr) { s with freeCtr := s.freeCtr + 8 }

/-! ### The proxy's FIFO -/

/-- A POP: the FIFO head moves into CABW_RECk; an empty FIFO leaves it (Table 14.8). -/
def cabPop (s : State) : State :=
  match s.cab.fifo with
  | [] => s
  | r :: t => { s with cab := Cab.drain { s.cab with fifo := t, rec_ := Vector.ofFn fun (i : Fin 28) => BitVec.ofNat 32 (leAt r (4 * i.val) 4) } }

/-! ### Meanings -/

def execCabStart (rom params accel : Bool) (s : State) : Res := .next (cabStart rom params accel s)
def execCabSample (m : CabSample) (s : State) : Res := .next (cabSample m s)
def execZero (w : World) (tag : Byte) (s : State) : Res := .next (cabCommand 1 w tag s)
def execTare (w : World) (tag : Byte) (s : State) : Res := .next (cabCommand 2 w tag s)
def execTareClear (w : World) (tag : Byte) (s : State) : Res := .next (cabCommand 3 w tag s)
def execRecord (w : World) (tag : Byte) (s : State) : Res := .next (cabCommand 4 w tag s)
def execAlibiRead (w : World) (tag : Byte) (s : State) : Res := .next (cabCommand 5 w tag s)
def execCabStatus (w : World) (tag : Byte) (s : State) : Res := .next (cabCommand 6 w tag s)
def execCabCommandComplete (s : State) : Res := .next (cabCommandComplete s)
def execCabStabilityTimeout (s : State) : Res := .next (cabStabilityTimeout s)
def execCabPowerDown (torn : Bool) (s : State) : Res := .next (cabPowerDown torn s)
def execCalswChange (closed : Bool) (s : State) : Res := .next (calswChange closed s)
def execHTelegram (b : List Byte) (s : State) : Res := .next (hTelegram b s)
def execCTelegram (b : List Byte) (s : State) : Res := .next (cTelegram b s)
def execSTelegram (b : List Byte) (s : State) : Res := .next (sTelegram b s)
def execWTelegram (s : State) : Res := .next (wTelegram s)
def execDisplayTimeout (s : State) : Res := .next (displayTimeout s)
def execNotLegalClear (k : Fin 8) (s : State) : Res := .next (notLegalClear k s)
def execXcabLoss (s : State) : Res := .next (xcabLoss s)
def execCabwPop (w : World) (s : State) : Res := .next (blockWrite w 9 0x0C 1 cabPop s)

end Sys2Proof.Machine
end

