-- ==== Sys2Proof/Machine/RegWrite.lean ====
section
/-! DEFINITION. Machine/RegWrite.lean: what a write to each peripheral register does, by its access code (R10, R11, R17; Tables 24.3-24.7
and the register tables of each chapter). A write to a register or field that is RO is ignored. -/
namespace Sys2Proof.Machine
open Sys2Proof

/-- A write of 1 clears a W1C bit (Table 0.3). -/
def w1c (old : Bool) (v : Word) (k : Nat) : Bool := old && !getb v k

/-! ### SYS, SEC, PMU, CLK (Table 24.3) -/

/-- SYS_MODEREQ (Table 2.3): SELECT_RECIPE, ENTER_WATCH, ENTER_MAINT; another ACTION requests nothing. -/
def modeReq (by_ : Requester) (v : Word) (s : State) : State :=
  match getf v 0 4 with
  | 1 => selectRecipe by_ (getf v 8 4) s
  | 2 => enterWatch by_ s
  | 3 => enterMaint by_ s
  | _ => s

/-- The bits of SEC_BWT that hold values: [25:0] without SEC, SAF and SAVE (R36, Table 4.4). -/
def bwtMask : Word := 0x03BFFEF7

/-- The bits of SEC_RGN_ATTRn that are not reserved (Table 4.2). -/
def attrMask : Word := 0x00008F1F

/-- SEC: every writable register is ROL (Tables 4.2, 4.4). -/
def writeSec (o : Nat) (v : Word) (s : State) : State :=
  if s.sec.lock then s
  else if o = 0 then { s with sec := { s.sec with bwt := v &&& bwtMask } }
  else if 0x100 ≤ o ∧ o < 0x200 then
    let n : Fin 32 := Fin.ofNat 32 ((o - 0x100) / 8)
    { s with sec := { s.sec with rgn := vmod s.sec.rgn n fun r => if o % 8 = 0 then { r with base := v } else { r with attr := v &&& attrMask } } }
  else s

/-- PMU_CFG is ROL (Table 18.7). -/
def writePmu (o : Nat) (v : Word) (s : State) : State :=
  if o = 0x38 ∧ !s.sec.lock then { s with pmu := { s.pmu with cfg := { s.pmu.cfg with vinOv := getf v 0 16, vbatFitted := getb v 16 } } } else s

/-- CLK_CFG is ROL (Table 17.6). -/
def writeClk (o : Nat) (v : Word) (s : State) : State :=
  if o = 0x04 ∧ !s.sec.lock then
    { s with clk := { s.clk with cfg := { aonSrc := getf v 0 2, refo := v.extractLsb' 8 2, trim := (v.extractLsb' 16 16).toInt } } }
  else s

/-! ### FAB, CHN, LE, CAP (Table 24.4) -/

/-- A tag is held for a transaction of a pool. -/
def ofPool (k : Fin 8) (t : Txn) : Bool := decide (t.pool = k)

/-- FAB_SNAP.TAKE: the free and in-flight counts of all pools in one cycle; SETTLED when no tag was in return (R200). -/
def snapTake (s : State) : State :=
  { s with fab := { s.fab with
      snapFree := s.fab.pools.map Pool.free
      snapFlt := Vector.ofFn fun (k : Fin 8) => s.fab.flight.countP (ofPool k)
      settled := s.fab.ret.isEmpty } }

def writeFab (o : Nat) (v : Word) (s : State) : State :=
  match o with
  | 0x00 => if getb v 0 then snapTake s else s
  | 0x14 => { s with fab := { s.fab with empty := s.fab.empty &&& ~~~(v.setWidth 8) } }
  | _ => s

/-- A write to a port register (Table 5.2): a command word, GO, or the status bits. -/
def writePort (p : Fin 4) (o : Nat) (v : Word) (s : State) : State :=
  if o < 0x20 then
    if s.chn.ports[p].pend then portCollide p s else s.modPort p fun q => { q with cmd := q.cmd.set (Fin.ofNat 8 (o / 4)) v }
  else if o = 0x30 then (if getb v 0 then portGo p s else s)
  else if o = 0x34 then s.modPort p fun q => { q with done := w1c q.done v 1, collide := w1c q.collide v 2, ie := getb v 8 }
  else s

def writeChn (o : Nat) (v : Word) (s : State) : State :=
  if o < 0x400 then writePort (Fin.ofNat 4 (o / 0x100)) (o % 0x100) v s else s

/-- A write to a board word from outside: the newest stands (R180, R455). -/
def boardSet (n : Fin 64) (v : Word) (s : State) : State :=
  { s with le := { s.le with board := s.le.board.set n v, boardVer := vmod s.le.boardVer n (· + 1) } }

def writeLe (o : Nat) (v : Word) (s : State) : State :=
  match o with
  | 0x10 => { s with le := { s.le with lookSlot := Fin.ofNat 256 (getf v 0 8), lookStage := getf v 8 4 } }
  | 0x1C => { s with le := { s.le with expValid := w1c s.le.expValid v 31 } }
  | 0x20 => { s with le := { s.le with tmSel := Fin.ofNat 256 (getf v 0 8) } }
  | 0x40 => { s with le := { s.le with supIe := getb v 30, supValid := w1c s.le.supValid v 31 } }
  | _ => if 0x100 ≤ o ∧ o < 0x200 then boardSet (Fin.ofNat 64 ((o - 0x100) / 4)) v s else s

def writeCap (w : World) (o : Nat) (v : Word) (s : State) : State :=
  if o % 0x20 = 0 then
    { s with cap := vmod s.cap (Fin.ofNat 4 (o / 0x20)) fun u =>
        if hiddenUnit w u then u else { u with gap := w1c u.gap v 8, ie := getb v 9 } }
  else s

/-! ### SAF, SAVE, AON, CHEST (Table 24.5) -/

/-- RTC_WRITE: a write of AON_RTC sets the whole second and clears RTC_LOST and RTC_INACC (R498, Table 20.6, log entry 61). -/
def rtcSet (v : Word) (s : State) : State :=
  { s with aon := { s.aon with rtcAcc := v.toNat * 10000000000000 }, pmu := { s.pmu with rtcLost := false }, clk := { s.clk with rtcInacc := false } }

/-- SAVE_HOME: GO with AXIS asks for homing in the next safety-monitor cycle. -/
def saveHome (n : Fin 4) (s : State) : State := { s with saf := { s.saf with homing := some (n, sInt s.save.homePos) } }

def writeSaf (o : Nat) (v : Word) (s : State) : State :=
  if o = 0x44 ∧ getb v 4 then safAxcmdReset (Fin.ofNat 4 (getf v 0 2)) s else s

def writeSave (o : Nat) (v : Word) (s : State) : State :=
  match o with
  | 0x18 => if getb v 31 then saveHome (Fin.ofNat 4 (getf v 0 2)) s else s
  | 0x1C => { s with save := { s.save with homePos := v } }
  | _ => s

def writeAon (o : Nat) (v : Word) (s : State) : State :=
  match o with
  | 0x00 => { s with aon := { s.aon with edgeLost := w1c s.aon.edgeLost v 16 } }
  | 0x10 => { s with aon := { s.aon with alarmS := v } }
  | 0x14 => { s with aon := { s.aon with alarmEn := getb v 0 } }
  | 0x18 => rtcSet v s
  | _ => s

/-- CHEST_PpTAGCTL: BLOCK is RW; GO submits, or sets COLLIDE while PEND is set (R576). -/
def tagCtl (p : Fin 2) (w : World) (v : Word) (s : State) : State :=
  if getb v 31 then tagWrite p w (v.extractLsb' 0 5) s else s.modTag p fun t => { t with block := getf v 0 5 }

def writeChest (w : World) (o : Nat) (v : Word) (s : State) : State :=
  if o < 0x100 then s
  else
    let p : Fin 2 := Fin.ofNat 2 (o / 0x100 - 1)
    let k := o % 0x100
    if k < 0x20 then tagBuf p (Fin.ofNat 8 (k / 4)) v s
    else match k with
      | 0x20 => tagCtl p w v s
      | 0x24 => s.modTag p fun t => { t with collide := w1c t.collide v 3 }
      | 0x28 => tagLock (v.setWidth 8) s
      | _ => s

/-! ### CABW, SPM, HL (Table 24.6) -/

/-- On a TWV900-MN a GO is answered and nothing else is stored but IE and the W1C of the answer (R15, 14_metrology_cabinet.md). -/
def writeCabw (o : Nat) (v : Word) (s : State) : State :=
  if isMn s ∧ (o = 0x14 ∨ o = 0x10 ∧ !getb v 31) then s
  else match o with
  | 0x00 => { s with cab := { s.cab with collide := w1c s.cab.collide v 8, ie := getb v 16 } }
  | 0x0C => if getb v 0 then cabPop s else s
  | 0x10 =>
    if getb v 31 then cabGo (getf v 0 3) (v.extractLsb' 8 8) s
    else { s with cab := { s.cab with regOp := getf v 0 3, regTag := getf v 8 8 } }
  | 0x14 => { s with cab := { s.cab with regArg := v } }
  | 0x18 => { s with cab := { s.cab with ansValid := w1c s.cab.ansValid v 31 } }
  | _ => s

def writeSpm (o : Nat) (v : Word) (s : State) : State :=
  match o with
  | 0x0C => hostBudWrite (v.setWidth 16) s
  | 0x10 => { s with spm := { s.spm with hostMass := v } }
  | _ => s

def writeHl (o : Nat) (v : Word) (s : State) : State := if o = 0x14 then { s with hl := { s.hl with reserve := getf v 0 16 } } else s

/-! ### FIO, ENC, GPIO, SER (Table 24.7) -/

def writeFio (w : World) (o : Nat) (v : Word) (s : State) : State :=
  match o with
  | 0x200 => foClearDo w v s
  | 0x208 => { s with fio := { s.fio with evIe := getb v 30, evValid := w1c s.fio.evValid v 31 } }
  | _ => s

def writeEnc (o : Nat) (v : Word) (s : State) : State :=
  if o % 0x10 = 0xC then
    s.modEnc (Fin.ofNat 4 (o / 0x10)) fun e =>
      { e with err := w1c e.err v 0, frame := w1c e.frame v 1, illegal := w1c e.illegal v 2, overspeed := w1c e.overspeed v 3
               zseen := w1c e.zseen v 4 }
  else s

def writeGpio (o : Nat) (v : Word) (s : State) : State :=
  let x : BitVec 24 := v.setWidth 24
  match o with
  | 0x00 => { s with gpio := Gpio.drive { s.gpio with dir := x } }
  | 0x04 => { s with gpio := Gpio.drive { s.gpio with out := x } }
  | 0x0C => { s with gpio := { s.gpio with rise := x } }
  | 0x10 => { s with gpio := { s.gpio with fall := x } }
  | 0x14 => { s with gpio := { s.gpio with flag := s.gpio.flag &&& ~~~x } }
  | _ => s

def writeSer (o : Nat) (v : Word) (s : State) : State :=
  match o with
  | 0x00 => { s with ser := { s.ser with spiCtl := v &&& 0xF0F#32 } }
  | 0x04 => spiStart v s
  | 0x10 => { s with ser := { s.ser with uartCtl := v &&& 0x7FFFFF#32 } }
  | 0x14 => uartQueue (v.setWidth 8) s
  | 0x20 => i2cCtl v s
  | 0x24 => if s.ser.i2cBusy then s else { s with ser := { s.ser with i2cData := v.setWidth 8 } }
  | _ => s

/-! ### All blocks -/

/-- The effect of a write of a word to a peripheral register that the checks let pass. -/
def regWrite (by_ : Requester) (w : World) (blk o : Nat) (v : Word) (s : State) : State :=
  match blk with
  | 0 => if o = 0x08 then modeReq by_ v s else s
  | 1 => writePmu o v s
  | 2 => writeClk o v s
  | 3 => writeSec o v s
  | 4 => writeFab o v s
  | 5 => writeChn o v s
  | 6 => writeLe o v s
  | 8 => writeSaf o v s
  | 9 => writeCabw o v s
  | 10 => writeFio w o v s
  | 13 => writeEnc o v s
  | 14 => writeSpm o v s
  | 15 => writeHl o v s
  | 20 => writeAon o v s
  | 21 => writeChest w o v s
  | 22 => writeSave o v s
  | 23 => writeCap w o v s
  | 24 => writeGpio o v s
  | 25 => writeSer o v s
  | _ => s

end Sys2Proof.Machine
end

