-- ==== Sys2Proof/Machine/CanBus.lean ====
section
/-! DEFINITION. Machine/CanBus.lean: heartbeat, joystick and tank frames, their timeouts, and the error states of the CAN controllers
(16_host_interfaces.md R465-R467, Table 16.6; R484). -/
namespace Sys2Proof.Machine
open Sys2Proof

/-- The CAN configuration while CAN runs: section 0x60 is in force and the network domain is on (R454, R646). -/
def canCfg (s : State) : Option NetCfg := if s.boot.loaded ∧ !domDown s 3 then s.img.net else none

/-- A controller takes part in its bus: enabled, not bus-off, and not silent after XSYS loss (R465, R484). -/
def canOn (s : State) (n : Fin 2) (c : NetCfg) : Bool := c.canEn.getLsbD n && !s.can.ctl[n].busOff && !s.clk.fail

/-- Change a controller. -/
def State.modCan (s : State) (n : Fin 2) (f : CanCtl → CanCtl) : State := { s with can := { s.can with ctl := vmod s.can.ctl n f } }

/-- The ball STAT_OK is high (Tables 11.2, 22.9): OPERATE and WATCH, and no sag. -/
def statOk (s : State) : Bool := (decide (outMode s = .operate) || decide (outMode s = .watch)) && !s.save.active && !s.save.coreOff

/-- The heartbeat's bytes (Table 16.6). -/
def heartbeat (s : State) (n : Fin 2) (c : NetCfg) : List Byte :=
  let flags := packBits [statOk s, s.trst.adopted, s.spm.crit, s.saf.ax.any Axis.latch, decide (s.cab.stShown ≠ 0)]
  [BitVec.ofNat 8 (s.sys.mode.code + 16 * s.sys.mode.sub), BitVec.ofNat 8 flags] ++ leBytes 2 s.saf.lkLast.toNat ++
    [BitVec.ofNat 8 s.can.ctl[n].hbCnt, BitVec.ofNat 8 c.node, 0, 0]

/-- A frame sent takes one from the transmit error count (ISO 11898-1). -/
def CanCtl.sent (c : CanCtl) : CanCtl := { c with tec := c.tec - 1 }

/-- A frame received takes one from the receive error count; from above 127 it goes to a value of 119 to 127 that the standard leaves open
(log entry 4). -/
def CanCtl.received (x : Word) (c : CanCtl) : CanCtl := { c with rec_ := if c.rec_ > 127 then 119 + x.toNat % 9 else c.rec_ - 1 }

/-- CAN_HEARTBEAT: HB_BASE + NODE. -/
def canHeartbeat (n : Fin 2) (s : State) : State :=
  match canCfg s with
  | none => s
  | some c =>
    if !canOn s n c then s
    else s.modCan n fun x => CanCtl.sent { x with hb := some (c.hbBase + c.node, heartbeat s n c), hbCnt := (x.hbCnt + 1) % 256 }

/-- Account for a frame that a controller received. -/
def canGood (n : Fin 2) (s : State) : State :=
  let (x, s) := takeFree s
  s.modCan n (CanCtl.received x)

/-- Three board words of the joystick. -/
def joyWords (c : NetCfg) (x y b : Word) (s : State) : State :=
  boardSet (Fin.ofNat 64 (c.joyWord + 2)) b (boardSet (Fin.ofNat 64 (c.joyWord + 1)) y (boardSet (Fin.ofNat 64 c.joyWord) x s))

/-- JOYSTICK_FRAME: a repeated counter is ignored; the copy of a frame on the other controller is taken once (R465, R466). -/
def joystickFrame (n : Fin 2) (d : Vector Byte 8) (s : State) : State :=
  match canCfg s with
  | none => s
  | some c =>
    if !canOn s n c ∨ c.joyId.isNone then s
    else
      let k := d[6].toNat
      let s := canGood n s
      if s.can.ctl[n].joySeen = some k then s
      else
        let s := s.modCan n fun x => { x with joySeen := some k, joyStale := false, joyCnt := k }
        if s.can.joyLast = some k then s
        else
          let half (i : Nat) : Word := BitVec.ofNat 32 (leAt d.toList i 2)
          joyWords c (half 0 <<< 16) (half 2 <<< 16) (half 4) { s with can := { s.can with joyLast := some k } }

/-- JOYSTICK_TIMEOUT: zeros, and STALE. -/
def joystickTimeout (s : State) : State :=
  match canCfg s with
  | none => s
  | some c =>
    if c.joyId.isNone then s
    else joyWords c 0 0 0 { s with can := { s.can with ctl := s.can.ctl.map fun x => { x with joyStale := true } } }

/-- The board word of a tank sensor. -/
def tankWord (c : NetCfg) (t : Fin 32) (v : Word) (s : State) : State := boardSet (Fin.ofNat 64 (c.tankWord + t.val)) v s

/-- TANK_FRAME: the level, or 0x8000_0000 and STALE with the sensor-fault bit (R467). -/
def tankFrame (n : Fin 2) (t : Fin 32) (d : Vector Byte 8) (s : State) : State :=
  match canCfg s with
  | none => s
  | some c =>
    if !canOn s n c ∨ c.tankN ≤ t.val then s
    else
      let k := d[5].toNat
      let m : BitVec 32 := 1#32 <<< t.val
      let bad := d[4].getLsbD 0
      let s := canGood n s
      if s.can.ctl[n].tankSeen[t] = some k then s
      else
        let s := s.modCan n fun x => { x with tankSeen := x.tankSeen.set t (some k), tankStale := if bad then x.tankStale ||| m else x.tankStale &&& ~~~m }
        if s.can.tankLast[t] = some k then s
        else
          let s := { s with can := { s.can with tankLast := s.can.tankLast.set t (some k) } }
          tankWord c t (if bad then 0x80000000 else BitVec.ofNat 32 (leAt d.toList 0 2) <<< 16) s

/-- TANK_TIMEOUT. -/
def tankTimeout (t : Fin 32) (s : State) : State :=
  match canCfg s with
  | none => s
  | some c =>
    if c.tankN ≤ t.val then s
    else
      let m : BitVec 32 := 1#32 <<< t.val
      tankWord c t 0x80000000 { s with can := { s.can with ctl := s.can.ctl.map fun x => { x with tankStale := x.tankStale ||| m } } }

/-- CAN_BUS_ERROR: a transmitter adds 8; a receiver adds 1, or 8 where it saw the primary error; above 255 the transmitter is bus-off
(ISO 11898-1). -/
def canBusError (n : Fin 2) (transmit primary : Bool) (s : State) : State :=
  match canCfg s with
  | none => s
  | some c =>
    if !canOn s n c then s
    else s.modCan n fun x =>
      if transmit then { x with tec := x.tec + 8, busOff := decide (x.tec + 8 > 255) }
      else { x with rec_ := min 255 (x.rec_ + (if primary then 8 else 1)) }

/-- CAN_BUSOFF_RECOVERY. -/
def canBusoffRecovery (n : Fin 2) (s : State) : State :=
  if s.can.ctl[n].busOff then s.modCan n fun x => { x with busOff := false, tec := 0, rec_ := 0 } else s

/-! ### Meanings -/

def execCanHeartbeat (n : Fin 2) (s : State) : Res := .next (canHeartbeat n s)
def execJoystickFrame (n : Fin 2) (d : Vector Byte 8) (s : State) : Res := .next (joystickFrame n d s)
def execJoystickTimeout (s : State) : Res := .next (joystickTimeout s)
def execTankFrame (n : Fin 2) (t : Fin 32) (d : Vector Byte 8) (s : State) : Res := .next (tankFrame n t d s)
def execTankTimeout (t : Fin 32) (s : State) : Res := .next (tankTimeout t s)
def execCanBusoffRecovery (n : Fin 2) (s : State) : Res := .next (canBusoffRecovery n s)
def execCanBusError (n : Fin 2) (transmit primary : Bool) (s : State) : Res := .next (canBusError n transmit primary s)

end Sys2Proof.Machine
end

