-- ==== Sys2Proof/Machine/ClockSupply.lean ====
section
/-! DEFINITION. Machine/ClockSupply.lean: the clock monitors, the bring-up of the rails, resets, VIN and the die temperature
(17_clocks_and_crossings.md, 18_supplies_and_isolation.md). -/
namespace Sys2Proof.Machine
open Sys2Proof

/-! ### Clocks (R479, R482-R492) -/

/-- XSYS_LOSS: XSYS or PLL lock is lost (R484, R488, R491, R492). The PLL runs on the system RC from here, HL stops, CAN goes silent;
during a sag sequence the history entry is written before the save record. In WATCH, or with the core off, the loss is found at wake (R487). -/
def xsysLoss (s : State) : State :=
  if s.clk.fail ∨ !vcoreOn s ∨ !s.pmu.released then s
  else
    let s := raise cClockFail 0xFF 0 { s with
      clk := { s.clk with rc := true, fail := true, pllLock := true, nXsys := incSat 255 s.clk.nXsys }
      hl := { s.hl with on := false, link := false } }
    if s.save.active && decide (s.save.step ≠ .written) then flushHist s else s

/-- XAON_SWITCH: CLK_AON goes to XAON (R483, R485). -/
def xaonSwitch (s : State) : State := if (clkNow s).aonSrc = 2 then s else { s with clk := { s.clk with aonFb := false } }

/-- XAON is lost: CLK_AON is on the AON RC, the fallback is counted and the RTC inaccurate (R485). -/
def aonFallback (s : State) : State := { s with clk := { s.clk with aonFb := true, nAon := incSat 255 s.clk.nAon, rtcInacc := true } }

/-- XAON_START_TIMEOUT: XAON has not qualified within 2 s of reset release (R483). -/
def xaonStartTimeout (s : State) : State := if (clkNow s).aonSrc = 2 ∨ !s.clk.aonFb then s else aonFallback s

/-- XAON_LOSS: XAON is lost while CLK_AON runs on it (R485). -/
def xaonLoss (s : State) : State := if s.clk.aonFb then s else aonFallback s

/-- REFCLK_PROBE: in the maintenance configuration the ball is an input where it shows edges, and driven with CLK_REFO otherwise; either
way the MAC has its reference (R479). -/
def refclkProbe (edges : Bool) (s : State) : State :=
  if maintNet s then
    { s with clk := { s.clk with ethRef := s.clk.ethRef ||| 1#2, refo := if edges then s.clk.refo &&& 2#2 else s.clk.refo ||| 1#2 } }
  else s

/-! ### Rails (R503-R506, R516, R520) -/

/-- The first n rails of Sequence 18.1 are up. -/
def railsUp (n : Nat) : BitVec 4 := BitVec.ofNat 4 (2 ^ n - 1)

/-- A new t0: V5 starts. -/
def bringUpStart (s : State) : State := { s with pmu := { s.pmu with rails := .rising, started := 1, pg := railsUp 1 } }

/-- VIN_QUALIFIED: t0. -/
def vinQualified (s : State) : State := if s.pmu.rails = .off then bringUpStart s else s

/-- RAIL_START: the next rail of Sequence 18.1 starts; it is power-good unless BRING_UP_FAIL says otherwise. With all four the rails are
up. -/
def railStart (s : State) : State :=
  if s.pmu.rails ≠ .rising then s
  else
    let n := s.pmu.started + 1
    { s with pmu := { s.pmu with started := n, pg := railsUp n, rails := if n ≥ 4 then .up else .rising } }

/-- BRING_UP_FAIL: a rail misses power-good; the rails go off, and stay off after three failures in a row (R504). -/
def bringUpFail (r : Fin 4) (s : State) : State :=
  if s.pmu.released ∨ ¬(s.pmu.rails = .rising ∨ s.pmu.rails = .up) ∨ s.pmu.started ≤ r.val then s
  else { s with pmu := { s.pmu with
    fails := incSat 255 s.pmu.fails, failRail := r.val, row := s.pmu.row + 1, started := 0, pg := 0
    rails := if s.pmu.row + 1 ≥ 3 then .held else .retry } }

/-- BRING_UP_RETRY: 100 ms later; after a hot cut only once the logic sensors are below 115 degree C (R504, R506, Table 18.6). -/
def bringUpRetry (s : State) : State := if s.pmu.rails = .retry ∧ !s.pmu.coolWait then bringUpStart s else s

/-- VIN_BELOW_10V: after three failures in a row bring-up may start again (R504). -/
def vinBelow10v (s : State) : State := if s.pmu.rails = .held then { s with pmu := { s.pmu with rails := .off, row := 0 } } else s

/-- A reset with the rails off: bring-up follows after 100 ms (R506). The history entries that wait are lost with the supply. -/
def railReset (c : RstCause) (hot : Bool) (s : State) : State :=
  let s := fullReset c s
  { s with pmu := { s.pmu with rails := .retry, started := 0, pg := 0, coolWait := hot } }

/-- FULL_RESET: PORST_N low for 10 microseconds (R505); the rails that WATCH has off come up again. -/
def porstReset (s : State) : State :=
  let w := decide (s.sys.mode = .watch)
  let s := fullResetEnd .porst s
  { s with pmu := { s.pmu with porst := false, pg := if w then 0xF else s.pmu.pg } }

/-- The rail that a rail fault names; in WATCH and after a sag only the rails that are on can fault. -/
def railOn (s : State) (r : Fin 4) : Bool := s.pmu.pg.getLsbD r.val

/-- RAIL_FAULT (R506); a running save defers it (R516). -/
def railFault (r : Fin 4) (s : State) : State :=
  if !s.pmu.released ∨ s.pmu.rails ≠ .up ∨ !railOn s r then s
  else if s.save.active && s.save.saving then { s with pmu := { s.pmu with railPend := some r.val } }
  else railReset .rail false { s with pmu := { s.pmu with railId := r.val } }

/-! ### VIN (R507, R508, R514, R515, R522) -/

/-- A reading of VIN in 10 mV (Table 18.7). -/
def vinRead (v : BitVec 16) (s : State) : State :=
  { s with pmu := { s.pmu with
    vin := v.toNat, vinMax := max s.pmu.vinMax v.toNat, vinLow := decide (v.toNat < 1800), vinOv := decide (v.toNat > s.pmu.cfg.vinOv) } }

/-- VIN_OV: VIN has been above the threshold for 1 ms; in WATCH the fault is a wake source (R69, R507, Table 20.3). -/
def vinOv (v : BitVec 16) (s : State) : State :=
  let s := vinRead v s
  if v.toNat ≤ s.pmu.cfg.vinOv ∨ !s.pmu.released then s else wakeDetect 8 0 (raise cVinOv 0xFF 0 s)

/-! ### Temperature (R513, R518, R519, Table 18.6) -/

/-- Some held reading satisfies a condition. -/
def anyTemp (l : List (Option Int)) (p : Int → Bool) : Bool := l.any fun t => match t with | some t => p t | none => false

/-- The sensors take a reading; a sensor without one keeps what it holds. -/
def takeTemps (t : Vector (Option (BitVec 24)) 8) (s : State) : State :=
  { s with pmu := { s.pmu with
    temp := s.pmu.temp.mapFinIdx fun i x h => (match t[i]'h with | some v => some v.toInt | none => x)
    hotCnt := s.pmu.hotCnt.mapFinIdx fun i n h => (match t[i]'h with | some v => (if v.toInt > 34560 then incSat 3 n else 0) | none => n) } }

/-- Derating: above 125 degree C until all sensors are below 120 (Table 18.6, R338). -/
def hotDerate (s : State) : State :=
  let l := s.pmu.temp.toList
  let hot := if anyTemp l (fun x => decide (x > 32000)) then true else if anyTemp l (fun x => decide (x ≥ 30720)) then s.pmu.hot else false
  spmRefresh { s with pmu := { s.pmu with hot := hot } }

/-- The deck turns every bridge off when one of its sensors exceeds 150 degree C (Table 18.6). -/
def deckHotOff (s : State) : State :=
  let d := s.dk.chopStop
  { s with dk := { d with br := d.br.map DkBridge.stop } }

/-- TEMP_READ: the eight die sensors in 1/256 degree C, none where a sensor gave no reading. -/
def tempRead (t : Vector (Option (BitVec 24)) 8) (s : State) : State :=
  let s := takeTemps t s
  let logic := s.pmu.temp.toList.take 6
  let deck := s.pmu.temp.toList.drop 6
  if s.pmu.rails ≠ .up ∨ !s.pmu.released then
    (if logic.all (fun t => match t with | some x => decide (x < 29440) | none => false) then { s with pmu := { s.pmu with coolWait := false } }
    else s)
  else if !vcoreOn s then s
  else if anyTemp logic (fun x => decide (x > 38400)) then railReset .hotcut true s
  else
    let s := hotDerate s
    let deckHot := anyTemp deck (fun x => decide (x > 38400))
    let s := if deckHot then deckHotOff s else s
    if deckHot || s.pmu.hotCnt.any (fun n => decide (n ≥ 3)) then raise cThermal 0xFF 0 s else s

/-! ### Meanings -/

def execXsysLoss (s : State) : Res := .next (xsysLoss s)
def execXaonSwitch (s : State) : Res := .next (xaonSwitch s)
def execXaonStartTimeout (s : State) : Res := .next (xaonStartTimeout s)
def execXaonLoss (s : State) : Res := .next (xaonLoss s)
def execRefclkProbe (edges : Bool) (s : State) : Res := .next (refclkProbe edges s)
def execVinQualified (s : State) : Res := .next (vinQualified s)
def execRailStart (s : State) : Res := .next (railStart s)
def execBringUpFail (r : Fin 4) (s : State) : Res := .next (bringUpFail r s)
def execBringUpRetry (s : State) : Res := .next (bringUpRetry s)
def execFullReset (s : State) : Res := .next (porstReset s)
def execRailFault (r : Fin 4) (s : State) : Res := .next (railFault r s)
def execVinOv (v : BitVec 16) (s : State) : Res := .next (vinOv v s)
def execVinLow (v : BitVec 16) (s : State) : Res := .next (vinRead v s)
def execVinBelow10v (s : State) : Res := .next (vinBelow10v s)
def execTempRead (t : Vector (Option (BitVec 24)) 8) (s : State) : Res := .next (tempRead t s)

end Sys2Proof.Machine
end

