-- ==== Sys2Proof/Machine/FabricBus.lean ====
section
/-! DEFINITION. Machine/FabricBus.lean: fabric accesses and their checks, ECC, transactions and their aborts, and the writes that cores make
(04_worlds.md Procedure 4.1; 07_fabric_and_bench.md R195-R202; R164, R174, R455, R462, R626-R628, R649). -/
namespace Sys2Proof.Machine
open Sys2Proof

/-! ### Checks (Procedure 4.1, Table 7.2) -/

/-- The world rules of a data access to a register (Procedure 4.1, Table 4.5). A FAULT_WORLD under Table 4.5 is recorded with CAUSE 0 (log entry
105). -/
def regWorldCheck (s : State) (init : BitVec 4) (w : World) (k : Access) (blk o : Nat) : Check :=
  if blk = 5 ∧ o < 0x400 then (if ownsPort init w (Fin.ofNat 4 (o / 0x100)) ∨ k ≠ .write then .ok else .no .faultWorld 0)
  else if blk = 6 ∧ 0x100 ≤ o then .ok
  else if blk = 21 ∧ 0x100 ≤ o then (if w = tagWorld (Fin.ofNat 2 (o / 0x100 - 1)) then .ok else .no .faultWorld 0)
  else if blockWritable s w blk ∨ (k = .read ∧ (blk = 0 ∨ blk = 9)) then .ok
  else .no .faultWorld 0

/-- A fetch from a register is refused; CAUSE 0 where the world has no access to it at all (R649). -/
def regFetch (s : State) (init : BitVec 4) (w : World) (blk o : Nat) : Check :=
  .no .faultWorld (if regWorldCheck s init w .read blk o = .ok then 1 else 0)

/-- A store into the Chest while it takes no new write (R530). -/
def chestRefuses (s : State) (k : Access) (a : Nat) : Bool :=
  match target a with
  | .chest _ => decide (k = .write) && chestClosed s
  | _ => false

/-- Decode, world and rights of one beat; of power only what R530 says of the Chest. -/
def beatCheck (s : State) (init : BitVec 4) (w : World) (k : Access) (a size : Nat) : Check :=
  if busDecodeFault s k a size then .no .faultDecode 0
  else if chestRefuses s k a then .no .faultPd 0
  else match target a with
    | .periph b o => if k = .fetch then regFetch s init w b o else regWorldCheck s init w k b o
    | _ => memWorldCheck s w k a

/-! ### Performing an access -/

/-- An access of an ECC memory meets the errors of the word it lies in (R198): true where it is FAULT_ECC. A whole word written makes the word
good; any other access of a word with a single-bit error corrects it and counts it. -/
def eccMeet (k : Access) (a size : Nat) (s : State) : Bool × State :=
  let wa := a / 4 * 4
  if !hasEcc (target a) then (false, s)
  else if k = .write ∧ size = 4 then (false, eccGood [wa] s)
  else eccRead wa s

/-- A core write to STATUS clears SAT and EXP_OVF and leaves the other bits (R174). -/
def statusClear (a : Nat) (s : State) : State :=
  let wa := a / 4 * 4
  { s with mem := memSetWord s.mem wa (memWord s.mem wa &&& 0xFFFE0000#32) }

/-- A read beat. The boot ROM's contents are not given: a free value (log entry 4). -/
def readBeat (init : BitVec 4) (w : World) (a size : Nat) (s : State) : Word × State :=
  match target a with
  | .periph b o => ((regRead s init w b o).getD 0, regReadEffect b o s)
  | .rom => takeFree s
  | _ => (BitVec.ofNat 32 (leNat (memBytes s.mem a size)), s)

/-- A write beat. -/
def writeBeat (by_ : Requester) (w : World) (a size : Nat) (d : Word) (s : State) : State :=
  match target a with
  | .periph b o => regWrite by_ w b o d s
  | .lmem =>
    match lmemRec a with
    | some (_, o) => if 0x5C ≤ o then statusClear a s else { s with mem := memSetBytes s.mem a (leBytes size d.toNat) }
    | none => s
  | _ => { s with mem := memSetBytes s.mem a (leBytes size d.toNat) }

/-- One beat: its response, the word read, and the state. The Cabinet Window writes its own record FIFO only, which is no address
(Table 4.1). -/
def busBeat (init : BitVec 4) (w : World) (k : Access) (a size : Nat) (d : Word) (s : State) : Resp × (Word × State) :=
  if init = 6 then (.done, (0, s))
  else match beatCheck s init w k a size with
    | .no r cause => (r, (0, if r = .faultWorld then violation init k cause a s else s))
    | .ok =>
      let e := eccMeet k a size s
      if e.1 then (.faultEcc, (0, e.2))
      else if k = .write then (.done, (0, writeBeat (.core w) w a size d e.2))
      else
        let r := readBeat init w a size e.2
        (.done, r)

/-- The next beat; after a beat that was not DONE the rest of a burst is not performed (R124). -/
def busNext (init : BitVec 4) (w : World) (k : Access) (a size : Nat) (data : List Word) (r : BusRun) (i : Nat) : BusRun :=
  if r.res ≠ .done then r
  else
    let x := busBeat init w k (a + 4 * i) (min size 4) (data.getD i 0) r.s
    { res := x.1, words := if x.1 = .done then r.words ++ [x.2.1] else r.words, s := x.2.2 }

/-- Beats of an access. -/
def beats (size : Nat) : Nat := if size ≤ 4 then 1 else (size + 3) / 4

/-- Perform the first n beats of an access. -/
def busRun (init : BitVec 4) (w : World) (k : Access) (a size : Nat) (data : List Word) (n : Nat) (s : State) : BusRun :=
  (List.range n).foldl (busNext init w k a size data) { s := s }

/-- The beats of a transaction. -/
def txnRun (t : Txn) (n : Nat) (s : State) : BusRun := busRun t.init t.world t.kind t.addr.toNat t.size t.data n s

/-- An access that is issued and answered within one command: decode, then power, then the checks of each beat (Table 7.2). -/
def busAccess (init : BitVec 4) (w : World) (k : Access) (a size : Nat) (data : List Word) (s : State) : BusRun :=
  let t := txnMake init w k (BitVec.ofNat 32 a) size data s
  busOnce t (txnRun t (beats size)) (busNumber s)

/-- A write that a core makes, with its response. -/
def coreWrite (init : BitVec 4) (w : World) (a size : Nat) (v : Word) (s : State) : State := (busAccess init w .write a size [v] (busFresh s)).s

/-! ### Transactions (R195-R199) -/

/-- The transaction that a request makes. -/
def txnOf (r : BusReq) (id : Nat) : Txn :=
  let w := initWorld r.init r.world
  { id := id, pool := initPool r.init w, init := initId r.init, world := w, kind := r.kind, addr := r.addr, size := r.size, data := r.data, dma := r.dma }

/-- Status of a DMA descriptor (R202). -/
def dmaStatus : Resp → Nat
  | .done => 0 | .faultWorld => 1 | .faultDecode => 2 | .faultPd => 3 | .faultEcc => 4

/-- An Ethernet DMA transfer has ended with n bytes completed: its port holds how (R124, R202, R462). -/
def dmaEnd (t : Txn) (status n : Nat) (s : State) : State :=
  match t.dma with
  | some (p, desc) => s.modEth p fun e => { e with dma := some { desc := desc, send := decide (t.kind ≠ .write), status := status, bytes := n } }
  | none => s

/-- TRANSACTION_ISSUE: refused at once for power, or a tag is taken, or the request waits and FAB_EMPTY is set (R195, R196, R201). -/
def transactionIssue (r : BusReq) (s : State) : State :=
  if r.init = .jtag ∧ !debugOpen s r.world then s
  else
    let t := txnOf r s.fab.nextId
    let s := busNumber (busFresh s)
    match txnRefused s t with
    | some c => dmaEnd t (dmaStatus c) 0 (busAnswer t c [] s)
    | none => if tagFree s t.pool then txnSend t s else txnWait t s

/-- Errors that have arisen in words of the ECC memories (R198): single-bit ones, and uncorrectable ones. -/
def eccStrike (l : List (Word × Bool)) (s : State) : State :=
  l.foldl (fun s x =>
    let a := x.1.toNat / 4 * 4
    if !hasEcc (target a) ∨ s.fab.hard.contains a then s
    else if x.2 then { s with fab := { s.fab with hard := a :: s.fab.hard, soft := s.fab.soft.filter (· ≠ a) } }
    else if s.fab.soft.contains a then s
    else { s with fab := { s.fab with soft := a :: s.fab.soft } }) s

/-- TRANSACTION_RESPONSE: the checks of each beat, the access while the tag is held, one response, and the tag enters return (R197-R200).
`struck` names the words of the ECC memories in which errors have arisen up to here. -/
def transactionResponse (id : Nat) (struck : List (Word × Bool)) (s : State) : State :=
  match s.fab.flight.find? fun t => decide (t.id = id) with
  | none => s
  | some t =>
    let r := txnRun t (beats t.size) (eccStrike struck (busFresh s))
    let s := dmaEnd t (dmaStatus r.res) (if r.res = .done then t.size else 4 * r.words.length) r.s
    txnReturn t (busAnswer t r.res (if t.kind = .write then [] else r.words) s)

/-- TAG_RETURN: the tag is back in its pool, and the first waiting request takes it (R196, R199, R215). -/
def tagReturn (id : Nat) (s : State) : State :=
  match s.fab.ret.find? fun t => decide (t.id = id) with
  | none => s
  | some t => poolTake t.pool (txnBack t (busFresh s))

/-- A transaction is aborted: its words written so far stand, the word being written becomes undefined (a free value), its tag enters return,
and a DMA descriptor gets ABORTED_PD (R202). -/
def txnAbort (done : Nat) (t : Txn) (s : State) : State :=
  let a := t.addr.toNat
  let s :=
    if t.kind ≠ .write ∨ beats t.size ≤ done then s
    else
      let r := txnRun t done s
      if r.res ≠ .done then r.s
      else
        let (x, s) := takeFree r.s
        (busBeat t.init t.world .write ((a + 4 * done) / 4 * 4) 4 x s).2.2
  let s := dmaEnd t 3 (min t.size (4 * done)) s
  txnReturn t (busAnswer t .faultPd [] { s with fab := { s.fab with pdAbort := incSat 65535 s.fab.pdAbort } })

/-- QUIESCE_TIMEOUT: every transaction of the domain that has not finished is aborted. -/
def quiesceTimeout (d : Fin 4) (written : List (Nat × Nat)) (s : State) : State :=
  if s.fab.dom[d] ≠ .quiescing then s
  else (s.fab.flight.filter (txnIn d)).foldl (fun s t => txnAbort ((kvGet t.id written).getD 0) t s) (busFresh s)

/-- DOMAIN_ISOLATE: no transaction of the domain is in flight and every tag of it has returned. -/
def domainIsolate (d : Fin 4) (s : State) : State :=
  if s.fab.dom[d] = .quiescing ∧ !s.fab.flight.any (txnIn d) ∧ !s.fab.ret.any (txnIn d) then
    { s with fab := { s.fab with dom := s.fab.dom.set d .off } }
  else s

/-- A domain goes off with what it is a part of: the decision, the abort of what is still in flight at tQUIESCE, the return of the tags, and the
isolation (R201, R202, R217, R218). How far a write under way has got is open: a free value (log entry 4). -/
def domainOff (d : Fin 4) (s : State) : State :=
  let s := domainPowerDown d s
  let s := (s.fab.flight.filter (txnIn d)).foldl (fun s t => let (x, s) := takeFree s; txnAbort (x.toNat % beats t.size) t s) s
  let s := (s.fab.ret.filter (txnIn d)).foldl (fun s t => txnBack t s) s
  { s with fab := { s.fab with dom := s.fab.dom.set d .off } }

/-! ### Meanings -/


/-- REGISTER_WRITE: a fabric write of one word, or a CSR write of the application core (R628: MIRQPEND takes no write). -/
def execRegisterWrite (init : Initiator) (w : World) (tgt : RegTarget) (v : Word) (s : State) : Res :=
  match tgt with
  | .addr a =>
    if init = .jtag ∧ !debugOpen s w then .next s else .next (coreWrite (initId init) (initWorld init w) a.toNat 4 v s)
  | .csr n =>
    if init ≠ .appCore then .next s
    else if n = 0x7C0#12 then .next { s with sys := { s.sys with mirqEn0 := v } }
    else if n = 0x7C1#12 then .next { s with sys := { s.sys with mirqEn1 := v } }
    else .next s

/-- LMEM_CORE_WRITE (R164). -/
def execLmemCoreWrite (w : World) (a : Word) (size : Nat) (v : Word) (s : State) : Res :=
  match target a.toNat with
  | .lmem => .next (coreWrite (coreInit w) w a.toNat (if size = 1 ∨ size = 2 then size else 4) v s)
  | _ => .next s

/-- STATUS_WORD_WRITE (R174). -/
def execStatusWordWrite (w : World) (rec_ : Fin 2048) (v : Word) (s : State) : Res :=
  .next (coreWrite (coreInit w) w (stAddr rec_.val 7) 4 v s)

/-- BOARD_WORD_WRITE (R455). -/
def execBoardWordWrite (w : World) (n : Fin 64) (v : Word) (s : State) : Res :=
  .next (coreWrite (coreInit w) w (0x40060100 + 4 * n.val) 4 v s)

/-- FAB_SNAP_TAKE (R200). -/
def execFabSnapTake (w : World) (s : State) : Res := .next (coreWrite (coreInit w) w 0x40040000 4 1 s)

/-- SPM_HOSTBUD_WRITE (R336). -/
def execSpmHostbudWrite (w : World) (kw : BitVec 16) (s : State) : Res :=
  .next (coreWrite (coreInit w) w 0x400E000C 4 (kw.setWidth 32) s)

end Sys2Proof.Machine
end

