-- ==== Sys2Proof/Machine/Ethernet.lean ====
section
/-! DEFINITION. Machine/Ethernet.lean: what the Ethernet stack answers, passes on and drops, the links and the DMA descriptors
(16_host_interfaces.md R452, R454, R462; Table 17.5). -/
namespace Sys2Proof.Machine
open Sys2Proof

/-- What a port is configured to: its address, mask and gateway (0 none), and the address of its PHY. -/
structure PortNet where
  ip : Nat
  mask : Nat
  gw : Nat
  phy : Nat
deriving DecidableEq, Repr

/-- The network configuration of an enabled port (R52, R452, R454). In the maintenance configuration ETH0 alone, at 192.168.254.10/24 without a
gateway, with PHY address 0. -/
def portNet (s : State) (p : Fin 2) : Option PortNet :=
  if maintNet s then (if p = 0 then some { ip := 0xC0A8FE0A, mask := 0xFFFFFF00, gw := 0, phy := 0 } else none)
  else if !s.boot.loaded then none
  else match s.img.net with
    | some c => if c.ethEn.getLsbD p then some { ip := c.ip[p], mask := c.mask[p], gw := c.gw[p], phy := c.phy[p] } else none
    | none => none

/-- The address of an enabled port. -/
def portIp (s : State) (p : Fin 2) : Option Nat := (portNet s p).map PortNet.ip

/-- A port takes frames: it is configured, its link is up and the network domain is on. -/
def ethUp (s : State) (p : Fin 2) : Bool := (portIp s p).isSome && s.net.eth[p].link && !domDown s 3

/-- The MAC address of a port (Table 21.2). -/
def portMac (s : State) (p : Fin 2) : List Byte := chestBytes s (0x2C + 6 * p.val) 6

/-! ### Checksums and headers (Internet protocols; big-endian) -/

/-- The 16-bit words of a list of bytes, padded with a zero byte. -/
def words16 : List Byte → List Nat
  | a :: b :: t => (a.toNat * 256 + b.toNat) :: words16 t
  | [a] => [a.toNat * 256]
  | [] => []

/-- The Internet checksum: the complement of the ones' complement sum. -/
def inetSum (bs : List Byte) : Nat :=
  let n := (words16 bs).foldl (· + ·) 0
  let n := n % 65536 + n / 65536
  65535 - (n % 65536 + n / 65536)

/-- Ethernet type. -/
def etherType (f : List Byte) : Nat := beNat (slice f 12 2)

/-- A frame to a host. -/
def ethFrame (s : State) (p : Fin 2) (dst : List Byte) (type : Nat) (body : List Byte) : List Byte :=
  dst ++ portMac s p ++ beBytes 2 type ++ body

/-- An IPv4 packet; identification and time to live are not stated: free (log entry 4). -/
def ipPacket (x : Word) (src dst proto : Nat) (body : List Byte) : List Byte :=
  let head (sum : Nat) := [0x45, 0] ++ beBytes 2 (20 + body.length) ++ beBytes 2 (getf x 0 16) ++ [0, 0, BitVec.ofNat 8 (getf x 16 8), BitVec.ofNat 8 proto] ++
    beBytes 2 sum ++ beBytes 4 src ++ beBytes 4 dst
  head (inetSum (head 0)) ++ body

/-- The pseudo-header of a UDP or TCP checksum. -/
def pseudo (src dst proto len : Nat) : List Byte := beBytes 4 src ++ beBytes 4 dst ++ [0, BitVec.ofNat 8 proto] ++ beBytes 2 len

/-! ### ARP -/

/-- Learn an address: the newest first, 16 kept. -/
def arpLearn (ip mac : Nat) (l : List (Nat × Nat)) : List (Nat × Nat) := ((ip, mac) :: l.filter fun x => decide (x.1 ≠ ip)).take 16

/-- An ARP packet for the port's own address is learnt from, and a request is answered. -/
def arpIn (p : Fin 2) (own : Nat) (f : List Byte) (s : State) : State :=
  let a := f.drop 14
  if a.length < 28 ∨ slice a 0 6 ≠ [0, 1, 8, 0, 6, 4] ∨ beNat (slice a 24 4) ≠ own then ethDrop p s
  else
    let s := s.modEth p fun e => { e with arp := arpLearn (beNat (slice a 14 4)) (beNat (slice a 8 6)) e.arp }
    match beNat (slice a 6 2) with
    | 1 =>
      let r := ethFrame s p (slice a 8 6) 0x0806 ([0, 1, 8, 0, 6, 4, 0, 2] ++ portMac s p ++ beBytes 4 own ++ slice a 8 6 ++ slice a 14 4)
      s.modEth p fun e => { e with tx := r }
    | 2 => s
    | _ => ethDrop p s

/-! ### IPv4 -/

/-- The next hop to an address: itself on the port's own network or without a gateway, else the gateway (Table 16.1; log entry 111). -/
def nextHop (c : PortNet) (dst : Nat) : Nat := if c.gw = 0 ∨ Nat.land dst c.mask = Nat.land c.ip c.mask then dst else c.gw

/-- The MAC address that an answer to a frame goes to: that of the next hop where an ARP entry gives it, else the sender's. -/
def replyMac (s : State) (p : Fin 2) (f : List Byte) (dst : Nat) : List Byte :=
  match (portNet s p).bind fun c => s.net.eth[p].arp.find? fun x => x.1 == nextHop c dst && x.1 != dst with
  | some x => beBytes 6 x.2
  | none => slice f 6 6

/-- Answer with an IPv4 packet to the sender of a frame. -/
def ipReply (p : Fin 2) (f : List Byte) (proto : Nat) (body : List Byte) (s : State) : State :=
  let (x, s) := takeFree s
  let src := beNat (slice f 30 4)
  let dst := beNat (slice f 26 4)
  let r := ethFrame s p (replyMac s p f dst) 0x0800 (ipPacket x src dst proto body)
  s.modEth p fun e => { e with tx := r }

/-- ICMP echo with up to 1 472 bytes is answered. -/
def icmpIn (p : Fin 2) (f m : List Byte) (s : State) : State :=
  if 8 ≤ m.length ∧ m.length ≤ 1480 ∧ slice m 0 2 = [8, 0] ∧ inetSum m = 0 then
    let r (sum : Nat) := [0, 0] ++ beBytes 2 sum ++ m.drop 4
    ipReply p f 1 (r (inetSum (r 0))) s
  else ethDrop p s

/-- UDP to port 47190 goes to HSP. -/
def udpIn (p : Fin 2) (f m : List Byte) (s : State) : State :=
  let len := beNat (slice m 4 2)
  let ok := decide (8 ≤ len) && decide (len ≤ m.length) && (decide (beNat (slice m 6 2) = 0) ||
    decide (inetSum (pseudo (beNat (slice f 26 4)) (beNat (slice f 30 4)) 17 len ++ m.take len) = 0))
  if ok && decide (beNat (slice m 2 2) = 47190) then hspArrive p ((m.take len).drop 8) s else ethDrop p s

/-- Modbus listens on a port (R463, R454). -/
def modbusOn (s : State) (p : Fin 2) : Bool :=
  !maintNet s && (match s.img.net with | some c => c.mbEn.getLsbD p | none => false) && (portIp s p).isSome && !domDown s 3

/-- The RST that answers a segment (the form of RFC 793). -/
def rstFor (f m : List Byte) : List Byte :=
  let hl := (m.getD 12 0).toNat / 16 * 4
  let flags := m.getD 13 0
  let n := m.length - hl + (if flags.getLsbD 0 then 1 else 0) + (if flags.getLsbD 1 then 1 else 0)
  let seqAck := if flags.getLsbD 4 then slice m 8 4 ++ [0, 0, 0, 0] else [0, 0, 0, 0] ++ beBytes 4 ((beNat (slice m 4 4) + n) % 2 ^ 32)
  let r (sum : Nat) := slice m 2 2 ++ slice m 0 2 ++ seqAck ++ [0x50, if flags.getLsbD 4 then 0x04 else 0x14, 0, 0] ++ beBytes 2 sum ++ [0, 0]
  r (inetSum (pseudo (beNat (slice f 30 4)) (beNat (slice f 26 4)) 6 20 ++ r 0))

/-- TCP to port 502 is handed to the Modbus server; a segment to another port is answered with RST. -/
def tcpIn (p : Fin 2) (f m : List Byte) (s : State) : State :=
  let sum := inetSum (pseudo (beNat (slice f 26 4)) (beNat (slice f 30 4)) 6 m.length ++ m)
  if m.length < 20 ∨ sum ≠ 0 ∨ m.length < (m.getD 12 0).toNat / 16 * 4 then ethDrop p s
  else if beNat (slice m 2 2) ≠ 502 then ipReply p f 6 (rstFor f m) s
  else if modbusOn s p then s.modEth p fun e => { e with rx := m.drop ((m.getD 12 0).toNat / 16 * 4) }
  else ethDrop p s

/-- An IPv4 packet to the port's own address without options, fragments or broadcast. -/
def ipIn (p : Fin 2) (own : Nat) (f : List Byte) (s : State) : State :=
  let h := slice f 14 20
  let len := beNat (slice h 2 2)
  let m := (f.drop 34).take (len - 20)
  if f.length < 34 ∨ slice h 0 1 ≠ [0x45] ∨ inetSum h ≠ 0 ∨ len < 20 ∨ f.length < 14 + len ∨ beNat (slice h 6 2) % 16384 ≠ 0 ∨ beNat (slice h 16 4) ≠ own
  then ethDrop p s
  else match beNat (slice h 9 1) with
    | 1 => icmpIn p f m s
    | 6 => tcpIn p f m s
    | 17 => udpIn p f m s
    | _ => ethDrop p s

/-- The address of an ARP frame: the port's own or the broadcast address. -/
def toMe (s : State) (p : Fin 2) (f : List Byte) : Bool := decide (slice f 0 6 = portMac s p)

/-- ETH_FRAME_RECEIVE: from the destination address to the end of the payload. -/
def ethFrameReceive (p : Fin 2) (f : List Byte) (s : State) : State :=
  match portIp s p with
  | none => s
  | some own =>
    if !ethUp s p then s
    else if etherType f = 0x0806 ∧ (toMe s p f ∨ slice f 0 6 = List.replicate 6 0xFF) then arpIn p own f s
    else if etherType f = 0x0800 ∧ toMe s p f then ipIn p own f s
    else ethDrop p s

/-- The PHY status that shows a link: register 1 at PHYAD over MDIO (R452). -/
def phyStatus (s : State) (p : Fin 2) : Option (Nat × Nat) := (portNet s p).map fun c => (c.phy, 1)

/-- ETH_LINK_CHANGE, as the PHY's status register shows it: the link needs its reference; a reference that is lost is counted (Table 17.5). A reference that the device drives is
present. -/
def ethLinkChange (p : Fin 2) (up ref : Bool) (s : State) : State :=
  if domDown s 3 then s
  else
    let m : BitVec 2 := 1#2 <<< p.val
    let driven := s.clk.refo.getLsbD p
    let lost := s.clk.ethRef.getLsbD p && !ref && !driven
    let s := { s with clk := { s.clk with
      ethRef := if ref then s.clk.ethRef ||| m else s.clk.ethRef &&& ~~~m
      nEth := if lost then vmod s.clk.nEth p (incSat 255) else s.clk.nEth } }
    s.modEth p fun e => { e with link := up && (ref || driven) && (portIp s p).isSome, mdio := phyStatus s p }

/-- A descriptor as it is completed (R462): BYTES, STATUS, and OWN handed back; its other bytes stay (log entry 106). -/
def descWrite (d : DmaEnd) (s : State) : State :=
  let a := d.desc.toNat
  { s with mem := memSetBytes (memSetBytes s.mem (a + 6) (leBytes 2 d.bytes ++ [BitVec.ofNat 8 d.status])) (a + 9) [memByte s.mem (a + 9) &&& 0xFE#8] }

/-- DMA_DESCRIPTOR_COMPLETE: the descriptor of the transfer that has ended on a port is completed in secure core SRAM, and STATUS and BYTES are
shown; a frame whose descriptor did not end DONE is dropped and counted (R202, R462). -/
def dmaComplete (p : Fin 2) (s : State) : State :=
  if s.fab.dom[(3 : Fin 4)] = .off then s
  else match s.net.eth[p].dma with
    | none => s
    | some d =>
      let s := (descWrite d s).modEth p fun e => { e with dma := none, dmaStatus := d.status, dmaBytes := d.bytes % 65536 }
      if d.status = 0 then s else ethDrop p (s.modEth p fun e => if d.send then { e with tx := [] } else { e with rx := [] })

/-! ### Meanings -/

def execEthFrameReceive (p : Fin 2) (f : List Byte) (s : State) : Res := .next (ethFrameReceive p f s)
def execEthLinkChange (p : Fin 2) (up ref : Bool) (s : State) : Res := .next (ethLinkChange p up ref s)
def execDmaDescriptorComplete (p : Fin 2) (s : State) : Res := .next (dmaComplete p s)

end Sys2Proof.Machine
end

