-- ==== Sys2Proof/Machine/LoopEngine.lean ====
section
/-! DEFINITION. Machine/LoopEngine.lean: the frame tick and its boundaries, the lanes and the Bench, the completion of a sample with its
ports, supervision, injection and capture (06_loop_laws.md R161-R167, R178-R180; 07_fabric_and_bench.md R203-R213, R222, R223;
08_supervision_and_tuning.md; R147, R148, R153-R155, R185, R440). -/
namespace Sys2Proof.Machine
open Sys2Proof

/-! ### IMPORT sources (Table 6.5, R179) -/

/-- The value of an encoder trail 1 ms ago: the newest entry that is at least 1 000 microseconds old; 0 counts where there is none
(R440). -/
def trailBefore (now : Nat) (l : List (Nat × Word)) : Option Word := (l.find? fun x => decide (x.1 + 1000 ≤ now)).map Prod.snd

/-- The signed movement of an encoder port over the last 1 ms (R440). -/
def encMove (s : State) (p : Fin 4) : Int :=
  let e := s.enc[p]
  let c := s.img.enc[p]
  let cur := if c.inc then e.count else e.pos
  let old := match trailBefore s.now e.trail with
    | some v => v
    | none => match e.trail.getLast? with | some x => x.2 | none => cur
  if c.inc then sInt (cur - old)
  else
    let m := 2 ^ c.bits
    let d := ((cur.toNat : Int) - old.toNat) % (m : Int)
    if 2 * d ≥ m then d - m else d

/-- ENC_EPnSTAT bits (R440). -/
def encBits (e : EncPort) : Word := bit e.err 0 ||| bit e.frame 1 ||| bit e.illegal 2 ||| bit e.overspeed 3 ||| bit e.zseen 4

/-- Field f of slot n of the last frame, shifted back into place (R368, Tables 13.1, 13.2). -/
def hlField (fr : List Byte) (n f : Nat) : Word :=
  let at_ := 28 + 24 * n
  match f with
  | 0 => BitVec.ofNat 32 (leAt fr (at_ + 0x04) 3 * 256)
  | 1 => BitVec.ofNat 32 (leAt fr (at_ + 0x07) 3 * 256)
  | 2 => BitVec.ofNat 32 (leAt fr (at_ + 0x0A) 3 * 256)
  | _ => BitVec.ofNat 32 (leAt fr (at_ + 0x0E) 2 * 32768)

/-- HLIN field 0 of the master is the droop demand, or its return ramp (R370, R371). -/
def droopField (s : State) (n f : Nat) : Bool :=
  f == 0 && (s.hl.droop || decide (0 < s.hl.rampLeft)) &&
    match s.img.hl with | some c => decide (c.master.map Fin.val = some n) | none => false

/-- A node with CFGERR or DUP follows no master: HLIN field 0 of the master gives it nothing new (R383; log entry 109). -/
def followsNone (s : State) (n f : Nat) : Bool :=
  f == 0 && (s.hl.cfgErr || s.hl.dup) && match s.img.hl with | some c => decide (c.master.map Fin.val = some n) | none => false

/-- The last frame as an HLIN of node n sees it: this node's own slot is in the frame that it sent (R367, R368). -/
def hlinFrame (s : State) (n : Nat) : Option (List Byte) :=
  if s.img.hl.any fun c => c.node.val == n then s.hl.out else s.hl.frame

/-- The newest complete value of a source with the number that tells it from the one before; none where it has no value to give.
Sources that have a value at every instant take the tick as that number (log entry 49). -/
def importNow (s : State) (i : Fin 256) (d : StageDesc) : Option (Nat × Word) :=
  let tick := s.le.tick.toNat
  let k := d.idx
  match d.kind with
  | 5 => let n : Fin 64 := Fin.ofNat 64 k; if s.le.boardVer[n] = 0 then none else some (s.le.boardVer[n], s.le.board[n])
  | 6 =>
    if !s.trst.adopted then none
    else if k < 0x10 then
      let x := s.trst.dec[Fin.ofNat 16 k]
      if x.count = 0 then none else some (x.count, toW x.out)
    else
      let b := s.trst.px[Fin.ofNat 4 (k % 16)]
      if s.trst.statVer = 0 then none else some (s.trst.statVer, if k < 0x20 then fld b.n 0 32 else toW b.temp)
  | 7 =>
    let p : Fin 4 := Fin.ofNat 4 (k / 4)
    match k % 4 with
    | 0 => some (tick, s.enc[p].count)
    | 1 => if s.enc[p].ver = 0 then none else some (s.enc[p].ver, s.enc[p].pos)
    | 2 => some (tick, toW (encMove s p))
    | _ => some (tick, encBits s.enc[p])
  | 8 => let x := s.ain[Fin.ofNat 16 k]; if x.ver = 0 then none else some (x.ver, fld (x.val * 32768) 0 32)
  | 9 =>
    if k = 0 then
      let c := s.chn.slots[i]
      some (tick, if c.pNom = 0 then 0 else toW (min 2147483647 (Config.roundFree ((c.grant * 2147483647 : Nat) : Int) c.pNom)))
    else some (tick, fld s.spm.offer 0 32)
  | 10 => if s.cab.run ∧ s.cab.causes = 0 ∧ s.cab.fastVer ≠ 0 then some (s.cab.fastVer, s.cab.fast) else none
  | _ =>
    let n := k / 8
    if followsNone s n (k % 8) then none
    else if droopField s n (k % 8) then some (4294967296 + tick, toW s.hl.droopT)
    else if !s.hl.nodes.getLsbD n then none
    else (hlinFrame s n).map fun fr => (s.hl.ver[Fin.ofNat 8 n], hlField fr n (k % 8))

/-- What every IMPORT stage of a channel latches at a boundary (R167). -/
def latchAll (s : State) (i : Fin 256) : List (Nat × Option (Nat × Word)) :=
  let t := slotTemplate s s.chn.slots[i]
  (List.range t.stages.length).filterMap fun j =>
    let d := t.stages.getD j {}
    if d.type = .imp then some (j, importNow s i d) else none

/-! ### XFER and HYSC outputs (R167, R177, R178, R180) -/

/-- A board word takes a write of an XFER stage (R180). Words 28-31 are the safety monitor's: the XFER is ignored and sets CONFLICT
(R290). -/
def boardXfer (i : Fin 256) (stage : Nat) (n : Fin 64) (y : Word) (s : State) : State :=
  if 28 ≤ n.val ∧ n.val ≤ 31 then setConflict true { slot := i, stage := stage } s else
  let me : RecOwner := { slot := i, stage := stage }
  let l := if s.le.boardBy[n].contains me then s.le.boardBy[n] else s.le.boardBy[n] ++ [me]
  let s := { s with le := { s.le with
    board := s.le.board.set n y, boardVer := vmod s.le.boardVer n fun v => v + 1, boardBy := s.le.boardBy.set n l } }
  if twoWriters l then l.foldl (fun s w => setConflict true w s) s else s

/-- An XFER value reaches its port (Table 6.5). -/
def xferTo (i : Fin 256) (stage kind idx : Nat) (y : Int) (s : State) : State :=
  match kind with
  | 1 => { s with trst := { s.trst with chopOut := s.trst.chopOut.set (Fin.ofNat 2 idx) (some (toW y)) } }
  | 2 => foXfer (Fin.ofNat 32 idx) y s
  | 3 => fanXfer (Fin.ofNat 8 idx) y s
  | 4 => { s with hl := { s.hl with port := s.hl.port.set (Fin.ofNat 4 idx) (toW y) } }
  | 5 => boardXfer i stage (Fin.ofNat 64 idx) (toW y) s
  | _ => s

/-- The value of an input in the current sample: word 6 of its stage, 0 for 0xFF (R167). -/
def inVal (s : State) (c : Slot) (k : Nat) : Int := if k ≥ 16 then 0 else sInt (stWord s (recOf c k) 6)

/-- The HYSC update of a stage: the codes, the sector and the bank words; under NO_W no W reference is formed (R177). -/
def hyscOf (s : State) (c : Slot) (j : Nat) (d : StageDesc) (run : Bool) : HyscUpdate :=
  let x0 := inVal s c d.in0
  let x1 := inVal s c d.in1
  let code (x : Int) : BitVec 12 := BitVec.ofNat 12 (dacCode x).1
  let b (k : Nat) : Word := bankWord s (recOf c j) c.bankB k
  { bridge := Fin.ofNat 4 d.idx, refU := code x0, refV := code x1, refW := if d.opt / 2 % 2 = 1 then 0 else code (-(x0 + x1))
    sector := BitVec.ofNat 3 (stWord s (recOf c j) 0).toNat, run := run, vsel := d.opt % 2 == 1, noW := d.opt / 2 % 2 == 1
    h := b 0, hMin := b 1, hMax := b 2, fTarget := b 3, zeroPref := b 4 }

/-- All outputs of a sample are issued together (R167); `hold` gives the HOLD values of a channel that is FAULTED (R147). -/
def issueAll (i : Fin 256) (hold : Bool) (run : Bool) (s : State) : State :=
  let c := s.chn.slots[i]
  let t := slotTemplate s c
  (List.range t.stages.length).foldl (fun (s : State) (j : Nat) =>
    let d := t.stages.getD j {}
    match d.type with
    | .xfer => xferTo i j d.kind d.idx (if hold then sInt d.hold else sInt (stWord s (recOf c j) 6)) s
    | .hysc => let u := hyscOf s c j d run; { s with trst := { s.trst with hysc := s.trst.hysc.set u.bridge (some u) } }
    | _ => s) s

/-! ### Boundary actions on one channel -/

/-- Set INJSTAT of a stage (R230). -/
def injStat (i : Fin 256) (stage : Nat) (run : Bool) (fin : Nat) (s : State) : State :=
  setSt (recOf s.chn.slots[i] stage) 5 (bit run 0 ||| fld fin 1 3) s

/-- END of an injection at a boundary, 0 to go on (R235, R242, R247): not evaluated, left RUNNING or HELD, duration, STOP, tuning
limit or AMP_MAX. -/
def injEnd (s : State) (i : Fin 256) (stage : Nat) (j : Inj) : Nat :=
  let c := s.chn.slots[i]
  let n := (stWord s (recOf c stage) 1).toNat
  if c.st ≠ .running ∧ c.st ≠ .held ∧ c.st ≠ .draining then 4
  else if c.st = .draining then 5
  else if !j.pend && decide (j.dur ≠ 0) && decide (n ≥ j.dur) then 1
  else if j.stop then 2
  else if !tuneOk s c || decide ((mag j.amp : Int) > sInt (bankWord s (recOf c stage) c.bankB 0)) then 3 else 0

/-- One injection at a sample boundary (R232, R235, R243). -/
def injBoundary (i : Fin 256) (x : Nat × Inj) (s : State) : State :=
  let e := injEnd s i x.1 x.2
  if e ≠ 0 then injStat i x.1 false e (s.modSlot i fun c => { c with inj := kvDel x.1 c.inj })
  else if x.2.pend then
    let s := (injStart x.2).foldl (fun s kw => setSt (recOf s.chn.slots[i] x.1) kw.1 kw.2 s) s
    s.modSlot i fun c => { c with inj := kvSet x.1 { x.2 with pend := false } c.inj }
  else s

/-- Every injection of a channel at its sample boundary. -/
def injBoundaries (i : Fin 256) (s : State) : State := s.chn.slots[i].inj.foldl (fun s x => injBoundary i x s) s

/-- A waiting START may take effect: for a drive channel its axis is releasing or released and its bridges are released (R149,
R291). -/
def startReady (s : State) (c : Slot) : Bool :=
  if !isDrive s c then true
  else match c.axis with
    | none => true
    | some n =>
      let a := s.saf.ax[n]
      (decide (a.st = .releasing) || decide (a.st = .released)) &&
        (if c.bridges = 0 then relDone s n else (fins 4).all fun (b : Fin 4) => !c.bridges.getLsbD b || s.trst.px[b].released)

/-- The state change of a channel at its sample boundary: DESTROY, a supervision fault, HOLD, START, in this order of precedence
(R147, R148, R153, R229). -/
def slotTurn (i : Fin 256) (s : State) : State :=
  let c := s.chn.slots[i]
  let was := decide (c.st = .running)
  let alive := was || decide (c.st = .held)
  if c.destroyPend && alive then
    let s := s.modSlot i fun c => { c with st := .draining, destroyPend := false, startPend := false, holdPend := false, faultPend := none, swapPend := none }
    if was || c.startPend then leftRunning i s else s
  else match (if alive then c.faultPend else none) with
  | some f =>
    let s := s.modSlot i fun c => { c with st := .faulted, fault := f, faultPend := none, startPend := false, holdPend := false }
    let s := issueAll i true false s
    if was || c.startPend then leftRunning i s else s
  | none =>
    if c.holdPend then
      let s := s.modSlot i fun c => { c with st := if was || c.startPend then .held else c.st, holdPend := false, startPend := false, autoPend := false }
      if was || c.startPend then leftRunning i s else s
    else if c.startPend && startReady s c then
      s.modSlot i fun c => { c with st := .running, startPend := false, autoPend := false, rampInit := true }
    else s

/-- The swap that waits takes effect at the boundary (R183, R185); in a FAULTED channel at once, in a DRAINING one it is dropped. -/
def slotSwap (i : Fin 256) (s : State) : State :=
  match s.chn.slots[i].swapPend with
  | some m => bankSwap i m s
  | none => s

/-- The order of the queue: class, then slot (R166). -/
def queueLe (s : State) (a b : Fin 256) : Bool :=
  let ta := (slotTemplate s s.chn.slots[a]).tick
  let tb := (slotTemplate s s.chn.slots[b]).tick
  decide (ta < tb) || (decide (ta = tb) && decide (a ≤ b))

/-- A channel that is evaluated becomes eligible with the inputs latched here (R166, R167, R168); `inj` where an injection starts with this
sample. -/
def makeSample (i : Fin 256) (inj : Bool) (s : State) : State :=
  let c := s.chn.slots[i]
  if c.st = .running ∨ c.st = .held ∨ c.st = .draining then
    let w : Sample := {
      tick := s.le.tick, run := decide (c.st = .running), frozen := decide (c.st ≠ .running)
      injected := inj, lat := latchAll s i }
    let s := s.modSlot i fun c => { c with wait := some w }
    { s with le := { s.le with queue := insBy (queueLe s) i s.le.queue } }
  else s

/-- A sample boundary of a channel. -/
def sampleBoundary (i : Fin 256) (s : State) : State :=
  let s := slotTurn i (capCommitSlot i s)
  let s := slotSwap i s
  let waits := s.chn.slots[i].inj.filter fun x => x.2.pend
  let s := injBoundaries i s
  let s := if s.chn.slots[i].st = .faulted then capEnd i s else s
  makeSample i (waits.any fun x => ((kvGet x.1 s.chn.slots[i].inj).map Inj.pend) = some false) s

/-- A class boundary of a channel: a sample whose first stage has not started is SKIPPED, and a DRAINING channel then goes FREE
(R210, R212, R213, R223). -/
def skipAt (i : Fin 256) (s : State) : State :=
  match s.chn.slots[i].wait with
  | none => s
  | some _ =>
    let s := s.modSlot i fun c => { c with wait := none, skipCnt := incSat 65535 c.skipCnt }
    let s := { s with le := { s.le with queue := s.le.queue.filter (· ≠ i), skipTotal := incSat 4294967295 s.le.skipTotal } }
    if s.chn.slots[i].st = .draining ∧ s.chn.slots[i].smp.isNone then freeSlot i s else s

/-- One channel at a tick: class boundary, then sample boundary (R165). -/
def tickSlot (i : Fin 256) (s : State) : State :=
  let c := s.chn.slots[i]
  if c.st = .free then s
  else
    let t := slotTemplate s c
    let p := classPeriod t.tick
    let k := s.le.tick.toNat
    if k % p ≠ 0 then s
    else
      let s := skipAt i s
      if s.chn.slots[i].st = .free then s
      else if k / p % t.div = i.val % t.div then sampleBoundary i s else s

/-- FRAME_TICK (R165, R166): the Channel Manager's turn (R142), the count, then every channel with a boundary, by class and slot. In a sag no
boundary is taken (R528). -/
def frameTick (s0 : State) : State :=
  let s := managerTurn s0
  if domDown s 2 then s
  else
    let s := { s with le := { s.le with tick := s.le.tick + 1, run := true } }
    if s.save.active then s
    else
      let live := (fins 256).filter fun (i : Fin 256) => decide (s.chn.slots[i].st ≠ .free)
      recipeProgress ((sortBy (queueLe s) live).foldl (fun s i => tickSlot i s) s)

/-! ### Lanes and the Bench (R161, R166, R203-R207, R211) -/

/-- Bench input of a tick class (Tables 7.5, 7.6). -/
def classInput (t : Fin 8) : Fin 16 := #v[13, 12, 11, 7, 6, 5, 3, 3][t]

/-- Weights of the weighted tier (Table 7.6). -/
def benchWeight : Vector Nat 8 := #v[2, 4, 6, 4, 8, 8, 12, 20]

/-- The weighted input to grant: largest credit, the higher number on equal credit (R206, R220). -/
def weightedPick (credit : Vector Nat 8) (req : Nat → Bool) : Option (Fin 8) :=
  (fins 8).foldl (fun (b : Option (Fin 8)) (i : Fin 8) =>
    if req i then (match b with
      | none => some i
      | some j => if credit[j] ≤ credit[i] then some i else some j)
    else b) none

/-- The highest requesting fixed-tier input (R205). -/
def fixedPick (req : Nat → Bool) : Option (Fin 16) :=
  (fins 16).foldl (fun (b : Option (Fin 16)) (i : Fin 16) => if decide (8 ≤ i.val) && req i then some i else b) none

/-- The lane granted on an input: in rotation from the one after the lane served last (R207). -/
def laneTurn (last : Fin 4) (asks : Fin 4 → Bool) : Option (Fin 4) :=
  [1, 2, 3, 4].findSome? fun (k : Nat) => let l : Fin 4 := Fin.ofNat 4 (last.val + k); if asks l then some l else none

/-- A requester asks on an input. -/
def benchAsks (c : BenchCycle) (i : Nat) : Bool := c.others.getLsbD i || c.lanes.toList.any fun l => decide (l.map Fin.val = some i)

/-- The input that is granted among those that ask: the fixed tier first, then the weighted one (Procedure 7.1). -/
def inputPick (credit : Vector Nat 8) (c : BenchCycle) : Option (Fin 16) :=
  match fixedPick (benchAsks c) with
  | some i => some i
  | none => (weightedPick credit (benchAsks c)).map fun w => Fin.ofNat 16 w.val

/-- The requester served on an input: the lane whose turn it is, else the one that is no lane (R207). -/
def askerOn (b : BenchBank) (c : BenchCycle) (i : Fin 16) : BenchAsk :=
  match laneTurn b.lastLane[i] fun (l : Fin 4) => decide (c.lanes[l] = some i) with
  | some l => .lane l
  | none => .input i

/-- The grant of a cycle: the requester, and the credit and the turn that it takes (Procedure 7.1, R206, R207). -/
def benchGrant (c : BenchCycle) (b : BenchBank) : Option (BenchAsk × BenchBank) :=
  match inputPick b.credit c with
  | none => none
  | some i =>
    let a := askerOn b c i
    let b := if h : i.val < 8 then { b with credit := vmod b.credit ⟨i.val, h⟩ fun n => n - 1 } else b
    some (a, match a with | .lane l => { b with lastLane := b.lastLane.set i l } | .input _ => b)

/-- The requests of a cycle without one requester. -/
def benchWithout (c : BenchCycle) : BenchAsk → BenchCycle
  | .lane l => { c with lanes := c.lanes.set l none }
  | .input i => { c with others := c.others &&& ~~~(1#16 <<< i.val) }

/-- The order in which the requests of a cycle are granted, if no other comes: what the turn hints count (R209). At most 20 ask. -/
def turnOrder : Nat → BenchCycle → BenchBank → List BenchAsk
  | 0, _, _ => []
  | n + 1, c, b => match benchGrant c b with
    | some (a, b) => a :: turnOrder n (benchWithout c a) b
    | none => []

/-- The turn hints of a cycle: every requester behind the first, with the number of grants before its own, at most 15 (R209). -/
def turnHints (c : BenchCycle) (b : BenchBank) : List (BenchAsk × Nat) := ((turnOrder 20 c b).mapIdx fun i a => (a, min i 15)).drop 1

/-- A window of 64 cycles starts: the first cycle of it resets the credits, and credit not used is lost (R206, R208, R219). -/
def benchWindow (n : Nat) (b : BenchBank) : BenchBank :=
  if b.win = some (n / 64) then b else { b with win := some (n / 64), credit := benchWeight }

/-- One cycle of one arbiter (R205-R209, R219, R220). Cycles come in order: one that carries a number already past is the next one. -/
def benchStep (c : BenchCycle) (b : BenchBank) : BenchBank :=
  let n := max c.cycle b.cycle
  let b := benchWindow n { b with cycle := n + 1 }
  let b := { b with hints := turnHints c b }
  match benchGrant c b with
  | some (.lane l, b) => { b with got := vmod b.got l fun n => n + 1 }
  | some (.input _, b) => b
  | none => b

/-- The accesses of a stage that no told cycle has granted are granted without waiting, each in a cycle of its own (R203, R204). -/
def benchAlone (lane : Fin 4) (inp : Fin 16) : Nat → BenchBank → BenchBank
  | 0, b => b
  | n + 1, b => benchAlone lane inp n (benchStep { lanes := (Vector.replicate 4 none).set lane (some inp) } b)

/-- A lane's six accesses for one stage (R204): the told cycles, then what is missing. -/
def benchStage (lane : Fin 4) (inp : Fin 16) (cs : List BenchCycle) (b : BenchBank) : BenchBank :=
  let b := cs.foldl (fun b c => benchStep c b) b
  let b := benchAlone lane inp (6 - b.got[lane]) b
  { b with got := b.got.set lane 0 }

/-- The channel a lane evaluates now. -/
def laneSlot (s : State) (l : Fin 4) : Option (Fin 256) := s.le.lanes[l].work.head?

/-- A queued channel becomes the one that a lane evaluates (R166). -/
def laneTake (l : Fin 4) (i : Fin 256) (s : State) : State :=
  let s := s.modSlot i fun c => match c.wait with
    | some w => { c with smp := some { w with started := true }, wait := none }
    | none => c
  { s with le := { s.le with
      queue := s.le.queue.filter (· ≠ i), lanes := vmod s.le.lanes l fun x => { x with work := i :: x.work } } }

/-- The channel that a free lane takes: the head of the queue; one whose earlier sample still runs waits for it. -/
def queueHead (s : State) : Option (Fin 256) := s.le.queue.find? fun (i : Fin 256) => s.chn.slots[i].smp.isNone

/-- Between two stages: an idle lane takes the head of the queue; a lane leaves its channel for a waiting one of a faster class, unless an
idle lane is there to take it (R166). In a sag no new sample starts (Sequence 19.1). -/
def lanePick (l : Fin 4) (s : State) : State :=
  match (if s.save.active then none else queueHead s) with
  | none => s
  | some q => match laneSlot s l with
    | none => laneTake l q s
    | some i =>
      let idle := s.le.lanes.toList.any fun x => x.work.isEmpty
      if !idle && decide ((slotTemplate s s.chn.slots[q]).tick < (slotTemplate s s.chn.slots[i]).tick) then laneTake l q s else s

/-- What stage j of a channel reads in a sample. -/
def stageIn (s : State) (i : Fin 256) (w : Sample) (j : Nat) : StageIn :=
  let c := s.chn.slots[i]
  let d := (slotTemplate s c).stages.getD j {}
  let r := recOf c j
  { d := d, bank := (List.range 8).map (bankWord s r c.bankB), st := (List.range 8).map (stWord s r)
    x0 := inVal s c d.in0, x1 := inVal s c d.in1, run := w.run, frozen := w.frozen, first := w.run && c.rampInit
    linkY := if d.link ≥ 16 then 0 else stWord s (recOf c d.link) 6
    linkStat := if d.link ≥ 16 then 0 else stWord s (recOf c d.link) 7
    lat := (kvGet j w.lat).join, seen := kvGet j c.seen
    inj := (kvGet j c.inj).bind fun x => if x.pend then none else some x
    band := s.trst.px[Fin.ofNat 4 d.idx].h }

/-- Evaluate stage j of a channel: rule, record, EXP_OVF register (R173-R175, R194). -/
def stageRun (i : Fin 256) (w : Sample) (j : Nat) (s : State) : State :=
  let a := stageIn s i w j
  let v := evStage a
  let s := storeEv (recOf s.chn.slots[i] j) v s
  let s := if v.ovf then { s with le := { s.le with expSlot := i, expStage := j, expValid := true } } else s
  let s := match a.d.type, a.lat with
    | .imp, some (ver, _) => s.modSlot i fun c => { c with seen := kvSet j ver c.seen }
    | _, _ => s
  s.modSlot i fun c => { c with smp := c.smp.map fun w => { w with next := j + 1 } }

/-- The 16 words that an evaluation reads are checked, and the 8 words of state that it writes are good (R198, R204). -/
def stageWords (c : Slot) (j : Nat) (s : State) : State :=
  let a := recAddr (recOf c j)
  eccRange (a + 0x40) 32 (eccFetches (a + 0x40) 8 (eccFetches (a + if c.bankB then 0x20 else 0) 8 s))

/-- STAGE_EVALUATE: a lane picks its channel, its Bench accesses are granted, one stage is evaluated (R166, R175, R204, R211). -/
def stageEvaluate (l : Fin 4) (cs : List BenchCycle) (s : State) : State :=
  if domDown s 2 then s
  else
    let s := lanePick l s
    match laneSlot s l with
    | none => s
    | some i => match s.chn.slots[i].smp with
      | none => s
      | some w =>
        let t := slotTemplate s s.chn.slots[i]
        if w.next ≥ t.stages.length then s
        else
          let inp := if w.late then 13 else classInput t.tick
          let bank : Fin 4 := Fin.ofNat 4 (recOf s.chn.slots[i] w.next)
          let s := { s with le := { s.le with bench := vmod s.le.bench bank (benchStage l inp cs) } }
          stageRun i w w.next (stageWords s.chn.slots[i] w.next s)

/-- SAMPLE_DEADLINE: the samples of a channel that have not completed are past their deadline (R210, R211). -/
def sampleDeadline (i : Fin 256) (s : State) : State :=
  s.modSlot i fun c => { c with
    smp := c.smp.map fun w => { w with late := true }
    wait := c.wait.map fun w => { w with late := true } }

/-! ### Completion -/

/-- A supervision fault of a channel (R226-R229): LE_SUPEVT, and with REACT = 1 the non-safety SS1 of its axis. -/
def supFault (i : Fin 256) (code : Code) (s : State) : State :=
  let c := s.chn.slots[i]
  let s := s.modSlot i fun c => { c with faultPend := some code, fault := code }
  let s := { s with le := { s.le with supSlot := i, supCode := code, supValid := true } }
  if (slotTemplate s c).reactSs1 then (match c.axis with | some n => nonsafeSs1 n s | none => s) else s

/-- The difference of the outputs of two stages, exactly; 0xFF reads 0 (R226, R227, Table 8.1). -/
def supDiff (s : State) (c : Slot) (a b : Nat) : Nat := mag (inVal s c a - inVal s c b)

/-- Plausibility and following error after the last stage; the code raised (R226-R228). A DRAINING channel raises PLAUSIBILITY too, and goes FREE
as it would (R147, R226). -/
def supervise (i : Fin 256) (w : Sample) (s : State) : Option Code × State :=
  let c := s.chn.slots[i]
  let p := (slotTemplate s c).sup
  let pl := if p.plModel = 0xFF then c.plCnt else if supDiff s c p.plMeas p.plModel > p.plThr then c.plCnt + 1 else 0
  let fe := if p.feRef = 0xFF ∨ !w.run then c.feTimer else if supDiff s c p.feRef p.feFb > p.feLimit then c.feTimer + 1 else 0
  let plF := decide (p.plModel ≠ 0xFF) && decide (pl > 0) && decide (pl ≥ p.plN)
  let feF := decide (p.feRef ≠ 0xFF) && w.run && decide (fe > p.feTime)
  let s := s.modSlot i fun c => { c with plCnt := pl, feTimer := fe }
  if c.st ≠ .running ∧ c.st ≠ .held ∧ c.st ≠ .draining then (none, s)
  else if plF then (some cPlausibility, supFault i cPlausibility s)
  else if feF then (some cFollowing, supFault i cFollowing s) else (none, s)

/-- A capture unit that serves the channel takes a record in every DEC-th evaluated sample (R236, R238). -/
def capSample (i : Fin 256) (w : Sample) (fault : Bool) (s : State) : State :=
  let c := s.chn.slots[i]
  let y (j : Nat) : Word := stWord s (recOf c j) 6
  { s with cap := s.cap.map fun u =>
      if u.slot = i ∧ (u.st = 1 ∨ u.st = 2) then
        if (u.count + 1) % u.dec = 0 then
          { u with count := u.count + 1, kept := true
                   rec_ := some { words := (if u.stamp then [w.tick] else []) ++ u.taps.map y, y := sInt (y u.tstage), fault := fault, inj := w.injected } }
        else { u with count := u.count + 1, kept := false }
      else u }

/-- The outcome of a completed sample (R210): LATE after the deadline. -/
def isLate (s : State) (t : Template) (w : Sample) : Bool :=
  w.late || decide (2 * (s.le.tick - w.tick).toNat > classPeriod t.tick)

/-- A sample of a channel completes (R167, R210, R213, R226, R238). -/
def completeSlot (i : Fin 256) (w : Sample) (s : State) : State :=
  let t := slotTemplate s s.chn.slots[i]
  let s := issueAll i false w.run s
  let r := supervise i w s
  let s := capSample i w r.1.isSome r.2
  let late := isLate s t w
  let s := s.modSlot i fun c => { c with
    smp := none, rampInit := c.rampInit && !w.run, lateCnt := if late then incSat 65535 c.lateCnt else c.lateCnt }
  if late then { s with le := { s.le with lateTotal := incSat 4294967295 s.le.lateTotal } } else s

/-- A lane's sample, evaluated to its last stage, completes; a DRAINING channel then goes FREE (R148, R167). -/
def laneDone (l : Fin 4) (i : Fin 256) (w : Sample) (s : State) : State :=
  let s := { s with le := { s.le with lanes := vmod s.le.lanes l fun x => { x with work := x.work.drop 1 } } }
  let s := completeSlot i w s
  if s.chn.slots[i].st = .draining ∧ s.chn.slots[i].wait.isNone then freeSlot i s else s

/-- The started sample of a channel runs to its end: every stage that is left, then its completion (R211). -/
def laneFinish (l : Fin 4) (i : Fin 256) (s : State) : State :=
  match s.chn.slots[i].smp with
  | none => s
  | some w =>
    let left := (List.range (slotTemplate s s.chn.slots[i]).stages.length).drop w.next
    let s := left.foldl (fun s j => stageRun i w j (stageWords s.chn.slots[i] j s)) s
    laneDone l i w s

/-- Running samples complete (R53, R211, R551, Sequence 19.1). -/
def leFinish (s : State) : State := (fins 4).foldl (fun (s : State) (l : Fin 4) => s.le.lanes[l].work.foldl (fun s i => laneFinish l i s) s) s

/-- SAMPLE_COMPLETE: the channel that a lane has evaluated to its last stage completes (R148, R167). -/
def sampleComplete (l : Fin 4) (s : State) : State :=
  if domDown s 2 then s
  else match laneSlot s l with
    | none => s
    | some i => match s.chn.slots[i].smp with
      | none => s
      | some w =>
        if w.next < (slotTemplate s s.chn.slots[i]).stages.length then s
        else laneDone l i w s

/-- CAPTURE_GAP: the channel's next boundary comes before the record has been read: it is discarded (R239). -/
def captureGap (k : Fin 4) (s : State) : State :=
  { s with cap := vmod s.cap k fun u =>
      match u.rec_ with
      | some _ => { u with rec_ := none, kept := false, gap := true, gaps := incSat 65535 u.gaps }
      | none => u }

/-! ### Meanings -/

def execFrameTick (s : State) : Res := .next (frameTick s)
def execStageEvaluate (lane : Fin 4) (bench : List BenchCycle) (s : State) : Res := .next (stageEvaluate lane bench s)
def execSampleDeadline (i : Fin 256) (s : State) : Res := .next (sampleDeadline i s)
def execSampleComplete (lane : Fin 4) (s : State) : Res := .next (sampleComplete lane s)
def execCaptureGap (k : Fin 4) (s : State) : Res := .next (captureGap k s)

end Sys2Proof.Machine
end

