-- ==== Sys2Proof/Machine/Harov.lean ====
section
/-! DEFINITION. Machine/Harov.lean: HarovLink: the cycle frame, drum sharing in droop, the token targets and the token books
(13_harovlink.md). -/
namespace Sys2Proof.Machine
open Sys2Proof

/-! ### The frame (Tables 13.1, 13.2) -/

/-- Replace the bytes at an offset. -/
def putAt (b : List Byte) (o : Nat) (v : List Byte) : List Byte := b.take o ++ v ++ b.drop (o + v.length)

/-- A 16-bit field of a frame. -/
def fr16 (b : List Byte) (o : Nat) : Nat := leAt b o 2

/-- A byte of a frame. -/
def fr8 (b : List Byte) (o : Nat) : Nat := leAt b o 1

/-- Offset of slot n. -/
def slotOfs (n : Nat) : Nat := 28 + 24 * n

/-- The frame with its CRC-32C, from CYCLE to the end of slot 7. -/
def frameSeal (b : List Byte) : List Byte := slice b 0 220 ++ wordBytes (crc32c (slice b 0 220))

/-- A good frame: its length, its CRC and the RING_ID of section 0x51. -/
def frameGood (c : HlCfg) (b : List Byte) : Bool := b.length == 224 && leAt b 220 4 == (crc32c (slice b 0 220)).toNat && fr16 b 2 == c.ringId

/-- A bit of a slot's STATUS. -/
def slotStatus (b : List Byte) (n bitNo : Nat) : Bool := (fr16 b (slotOfs n + 2)).testBit bitNo

/-- A slot carried FRESH. -/
def slotFresh (b : List Byte) (n : Nat) : Bool := slotStatus b n 15

/-- A 16-bit field of a slot. -/
def slotU16 (b : List Byte) (n o : Nat) : Nat := fr16 b (slotOfs n + o)

/-- A bit of FLAGS. -/
def frameFlag (b : List Byte) (bitNo : Nat) : Bool := (fr16 b 8).testBit bitNo

/-- TARGET of node n. -/
def frameTarget (b : List Byte) (n : Nat) : Nat := fr16 b (12 + 2 * n)

/-- The bytes [31:8] of a port value. -/
def port24 (w : Word) : List Byte := leBytes 3 (w.toNat / 256)

/-- WANT of this node (Table 13.2). -/
def hlWant (s : State) : Nat := satNat 65535 (requestSum s + s.hl.reserve)

/-- The bits of this node's STATUS (Table 13.2). -/
def ownStatus (s : State) : Nat :=
  packBits ([true, s.hl.droop, s.sys.mode.isLockout, s.spm.crit, s.hl.fold0, s.hl.fold1, s.spm.lift.isSome] ++ List.replicate 8 false ++ [true])

/-- This node's slot as it writes it (Table 13.2, R368, R373). -/
def ownSlot (c : HlCfg) (s : State) : List Byte :=
  let h := s.hl
  let share := clampI 0 2147483647 (sInt h.port[3])
  let oto := (match h.offer with | some o => o.1.val + 8 | none => 0) + (match h.accepted with | some a => a.1.val * 16 + 128 | none => 0)
  [BitVec.ofNat 8 (c.node.val + (if c.node = c.keeper then 8 else 0) + 16 * c.role + 64 * c.group),
   BitVec.ofNat 8 (h.offerSeq % 16 + 16 * (match h.accepted with | some a => a.2 % 16 | none => 0))] ++
  leBytes 2 (ownStatus s) ++ port24 h.port[0] ++ port24 h.port[1] ++ port24 h.port[2] ++ [BitVec.ofNat 8 oto] ++
  leBytes 2 (share.toNat / 32768) ++ leBytes 2 (satNat 65535 h.taken) ++ leBytes 2 (match h.offer with | some o => satNat 65535 o.2 | none => 0) ++
  leBytes 2 (hlWant s) ++ leBytes 2 (satNat 65535 (p0Min s))

/-- The offer of node n in a frame: target, sequence and amount. -/
def slotOffer (b : List Byte) (n : Nat) : Option (Nat × Nat × Nat) :=
  let oto := fr8 b (slotOfs n + 0x0D)
  if oto.testBit 3 then some (oto % 8, fr8 b (slotOfs n + 1) % 16, slotU16 b n 0x12) else none

/-- The offer that node n echoes as accepted: source and sequence. -/
def slotAccept (b : List Byte) (n : Nat) : Option (Nat × Nat) :=
  let oto := fr8 b (slotOfs n + 0x0D)
  if oto.testBit 7 then some (oto / 16 % 8, fr8 b (slotOfs n + 1) / 16) else none

/-! ### What a node reads on a passage (R368, R371, R383) -/

/-- The master's slot counts towards leaving droop: FRESH, without DROOP or LOCKOUT (R371). -/
def masterGood (c : HlCfg) (b : List Byte) : Bool :=
  match c.master with
  | some m => slotFresh b m.val && !slotStatus b m.val 1 && !slotStatus b m.val 2
  | none => false

/-- The return ramp of R371: one more cycle of eight (log entry 5). -/
def rampStep (c : HlCfg) (b : List Byte) (h : Hl) : Hl :=
  if h.rampLeft = 0 then h
  else
    let dem : Int := match c.master with | some m => sInt (hlField b m.val 0) | none => 0
    let k := 9 - h.rampLeft
    { h with rampLeft := h.rampLeft - 1, droopT := Config.roundFree (h.rampFrom * (8 - k : Nat) + dem * (k : Nat)) 8 }

/-- The frame follows the last one read without a gap in CYCLE. -/
def nextCycle (b : List Byte) (h : Hl) : Bool := h.frame.any fun f => (fr16 f 0 + 1) % 65536 == fr16 b 0

/-- The node holds no place in the ring: it forwards frames, writes no slot and holds no tokens (R383). -/
def Hl.barred (h : Hl) : Bool := h.cfgErr || h.dup

/-- A good frame is read: LINK, FLAGS, the FRESH slots, of which this node's own is one where it writes it (R368, R371, R376, Table 13.4). -/
def readFrame (c : HlCfg) (b : List Byte) (h : Hl) : Hl :=
  let fresh (n : Nat) : Bool := slotFresh b n || (n == c.node.val && !h.barred)
  rampStep c b { h with
    link := true, backup := frameFlag b 4, crit := frameFlag b 2, settled := frameFlag b 3, frame := some b
    nodes := BitVec.ofNat 8 (packBits ((List.range 8).map fresh))
    ver := h.ver.mapFinIdx fun i v _ => if fresh i then v + 1 else v
    freshRun := if masterGood c b then incSat 8 (if nextCycle b h then h.freshRun else 0) else 0 }

/-- The checks of R383 on the first pass: CFGERR and DUP. -/
def firstPass (c : HlCfg) (b : List Byte) (h : Hl) : Hl :=
  let others := (List.range 8).filter fun n => n != c.node.val
  let claimed := others.any fun n => slotStatus b n 0 && fr8 b (slotOfs n) % 8 == c.node.val
  -- the keeper's own slot comes back FRESH, for the keeper wrote it
  let dup := claimed || (decide (c.node ≠ c.keeper) && slotFresh b c.node.val)
  let mas := match c.master with
    | some m => fr8 b (slotOfs m.val) / 16 % 4 == 1 && fr8 b (slotOfs m.val) / 64 == c.group
    | none => true
  let cfg := fr8 b 5 != c.nnodes || fr8 b 4 != c.keeper.val || !mas
  { h with dup := h.dup || dup, cfgErr := h.cfgErr || cfg }

/-! ### Tokens of a node (R373, R374, R377, R381, R384, R385) -/

/-- The keeper has accepted this node's offer: the tokens are gone. -/
def offerDone (c : HlCfg) (b : List Byte) (h : Hl) : Hl :=
  match h.offer with
  | some o => if slotAccept b c.keeper.val = some (c.node.val, h.offerSeq % 16) then { h with taken := h.taken - o.2, offer := none } else h
  | none => h

/-- The offer of node n to this node that was accepted still stands in a frame. -/
def stillOffered (c : HlCfg) (b : List Byte) (h : Hl) (n : Fin 8) : Bool :=
  match slotOffer b n.val, h.seen[n] with
  | some (t, q, _), some k => t == c.node.val && q == k
  | _, _ => false

/-- The frame shows node n without the offer that was accepted from it. -/
def offerGone (c : HlCfg) (b : List Byte) (h : Hl) (n : Fin 8) : Bool := slotFresh b n.val && !stillOffered c b h n

/-- An accepted offer that its sender no longer makes is forgotten and its echo ends, so that a later offer with the same 4-bit sequence is a
new one (R373). -/
def forgetOffers (c : HlCfg) (b : List Byte) (h : Hl) : Hl :=
  { h with
    seen := h.seen.mapFinIdx fun i x p => if offerGone c b h ⟨i, p⟩ then none else x
    accepted := h.accepted.filter fun a => !offerGone c b h a.1 }

/-- The keeper's offer to this node is accepted whole, once. -/
def acceptKeeper (c : HlCfg) (b : List Byte) (h : Hl) : Hl :=
  match slotOffer b c.keeper.val with
  | some (t, q, n) =>
    if t = c.node.val ∧ h.seen[c.keeper] ≠ some q then { h with taken := h.taken + n, accepted := some (c.keeper, q), seen := h.seen.set c.keeper (some q) } else h
  | none => h

/-- The excess over the target is offered to the keeper; a target that falls replaces an unaccepted offer. -/
def offerExcess (c : HlCfg) (target : Nat) (h : Hl) : Hl :=
  let drop := decide (target < h.target) && h.offer.isSome
  let h := { h with target := target, offer := if drop then none else h.offer }
  if h.offer.isNone ∧ target < h.taken then { h with offer := some (c.keeper, h.taken - target), offerSeq := (h.offerSeq + 1) % 16 } else h

/-- FREEZE: the unaccepted offer is void, the holding is P0MIN, and the event is counted (R377, R385). -/
def freezeNode (p0 : Nat) (h : Hl) : Hl := { h with offer := none, taken := p0, freezes := incSat 65535 h.freezes }

/-- What a frame does to the tokens of a node that is not the keeper. -/
def nodeTokens (c : HlCfg) (p0 : Nat) (b : List Byte) (h : Hl) : Hl :=
  if frameFlag b 0 then freezeNode p0 h
  else if frameFlag b 4 then h
  else offerExcess c (if h.leaving then 0 else frameTarget b c.node.val) (acceptKeeper c b (forgetOffers c b (offerDone c b h)))

/-- After a passage the budget and CRIT apply (R341, R374). -/
def afterPass (crit0 : Bool) (s : State) : State := if s.hl.crit != crit0 && s.img.spm.isSome then spmAlloc s else spmRefresh s

/-- HL_PORT_DOWN: the node folds the ring at a port (R378). -/
def hlPortDown (port : Fin 2) (s : State) : State :=
  let h := s.hl
  if !h.on then s
  else if port = 0 then (if h.fold0 then s else { s with hl := { h with fold0 := true, folds := incSat 65535 h.folds } })
  else if h.fold1 then s else { s with hl := { h with fold1 := true, folds := incSat 65535 h.folds } }

/-- A discarded frame counts against its port (Table 13.4), breaks the master's run (R371), and is the second in a row where the port goes down
(R378). -/
def frameDiscard (port : Fin 2) (s : State) : State :=
  let n := incSat 2 s.hl.badRun[port]
  let h := { s.hl with badRun := s.hl.badRun.set port n, freshRun := 0 }
  let h := if port = 0 then { h with crc0 := incSat 255 h.crc0 } else { h with crc1 := incSat 255 h.crc1 }
  if n = 2 then hlPortDown port { s with hl := h } else { s with hl := h }

/-- A good frame on a port: the port is not down (R378, log entry 53). -/
def portUp (port : Fin 2) (h : Hl) : Hl :=
  let h := { h with badRun := h.badRun.set port 0 }
  if port = 0 then { h with fold0 := false } else { h with fold1 := false }

/-- A frame goes out: by the other port than it came in, a frame of this node's own forward on HL0; where that port is down it is turned back
(R366, R378). -/
def sendFrame (from_ : Fin 2) (f : List Byte) (h : Hl) : Hl :=
  { h with out := some f, outPort := if from_ = 1 then (if h.fold0 then 1 else 0) else (if h.fold1 then 0 else 1) }

/-- HL_FRAME_PASS: a node that is not the keeper forwards a frame, replaces its slot and reads the others; a second passage on a folded
ring is only forwarded, a backup frame that comes back to its origin is only read, and a node with CFGERR or DUP writes nothing (R367, R373, R378, R381, R383). -/
def hlFramePass (port : Fin 2) (b : List Byte) (s : State) : State :=
  match s.img.hl with
  | none => s
  | some c =>
    if !s.hl.on ∨ c.node = c.keeper then s
    else if !frameGood c b then frameDiscard port s
    else
      let again := s.hl.joined && decide (s.hl.frame.map (fun f => fr16 f 0) = some (fr16 b 0)) && s.hl.link
      let back := frameFlag b 4 && slotFresh b c.node.val && decide (s.hl.out.map (fun f => fr16 f 0) = some (fr16 b 0))
      if again then { s with hl := sendFrame port b (portUp port s.hl) }
      else if back then { s with hl := readFrame c b (portUp port s.hl) }
      else
        let crit0 := s.hl.crit
        let h := portUp port (if s.hl.joined then { s.hl with dup := s.hl.dup || slotFresh b c.node.val } else { firstPass c b s.hl with joined := true })
        let h := readFrame c b { h with b := fr16 b 6 }
        if h.barred then afterPass crit0 { s with hl := sendFrame port b { h with taken := 0, offer := none } }
        else
          let s := { s with hl := nodeTokens c (p0Min s) b h }
          let f := frameSeal (putAt b (slotOfs c.node.val) (ownSlot c s))
          let gone := s.hl.leaving && s.hl.taken == 0
          afterPass crit0 { s with hl := { sendFrame port f s.hl with on := !gone, link := s.hl.link && !gone } }

/-! ### The keeper (R372-R377, R380) -/

/-- WANT and P0MIN of the nodes that count for the targets: those whose slot of the last pass shows ALIVE, and this node (R372). -/
def aliveNodes (c : HlCfg) (s : State) : List (Nat × (Nat × Nat)) :=
  (List.range c.nnodes).filterMap fun n =>
    if n = c.node.val then some (n, (hlWant s, p0Min s))
    else match s.hl.frame with
      | some b => if slotStatus b n 0 then some (n, (slotU16 b n 0x14, slotU16 b n 0x16)) else none
      | none => none

/-- One spare kW each, in ascending node order, until none is left. -/
def giveSpare : Nat → List (Nat × Nat) → List (Nat × Nat)
  | _, [] => []
  | 0, l => l
  | k + 1, x :: t => (x.1, x.2 + 1) :: giveSpare k t

/-- Procedure 13.1: the target of each node. -/
def tokenTargets (budget : Nat) (l : List (Nat × (Nat × Nat))) : List (Nat × Nat) :=
  let rm := budget - l.foldl (fun a x => a + x.2.2) 0
  let sd := l.foldl (fun a x => a + (x.2.1 - x.2.2)) 0
  if sd ≤ rm then l.map fun x => (x.1, x.2.2 + (x.2.1 - x.2.2))
  else
    let part (x : Nat × (Nat × Nat)) : Nat := (x.2.1 - x.2.2) * rm / sd
    giveSpare (rm - l.foldl (fun a x => a + part x) 0) (l.map fun x => (x.1, x.2.2 + part x))

/-- CRIT of Procedure 13.1. -/
def tokenCrit (budget : Nat) (l : List (Nat × (Nat × Nat))) : Bool := decide (budget < l.foldl (fun a x => a + x.2.2) 0)

/-- The target of a node in a list of targets. -/
def targetOf (l : List (Nat × Nat)) (n : Nat) : Nat := match l.find? fun x => x.1 == n with | some x => x.2 | none => 0

/-- Node n has a return for the keeper that is not yet accepted. -/
def returnPending (c : HlCfg) (h : Hl) (b : List Byte) (n : Fin 8) : Bool :=
  decide (n ≠ c.node) && slotFresh b n.val &&
    match slotOffer b n.val with
    | some (t, q, _) => t == c.node.val && decide (h.seen[n] ≠ some q)
    | none => false

/-- The keeper accepts the pending return of the lowest node (R373). -/
def keeperAccept (c : HlCfg) (h : Hl) : Hl :=
  match h.frame with
  | none => h
  | some b => match (fins 8).find? fun (n : Fin 8) => returnPending c h b n with
    | none => h
    | some n => match slotOffer b n.val with
      | some (_, q, k) => { h with taken := h.taken + k, accepted := some (n, q), seen := h.seen.set n (some q) }
      | none => h

/-- The keeper's free pool: what it holds beyond its own target and its own offer (Procedure 13.1, R375). -/
def keeperPool (own : Nat) (h : Hl) : Hl :=
  let held := h.taken - (match h.offer with | some o => o.2 | none => 0)
  { h with pool := held - min own held }

/-- What node n, seen in the last pass, lacks of its target: an absent node can accept nothing (log entry 54). -/
def nodeLack (c : HlCfg) (ts : List (Nat × Nat)) (b : List Byte) (n : Fin 8) : Nat :=
  if n ≠ c.node ∧ slotFresh b n.val then targetOf ts n.val - slotU16 b n.val 0x10 else 0

/-- The keeper's one offer, to the lowest node below its target (R373). -/
def keeperOffer (c : HlCfg) (ts : List (Nat × Nat)) (h : Hl) : Hl :=
  match h.frame with
  | none => h
  | some b =>
    if h.offer.isSome ∨ h.pool = 0 then h
    else match (fins 8).find? fun (n : Fin 8) => decide (0 < nodeLack c ts b n) with
      | none => h
      | some n =>
        let k := min h.pool (nodeLack c ts b n)
        { h with offer := some (n, k), offerSeq := (h.offerSeq + 1) % 16, pool := h.pool - k }

/-- The P0MIN of the other nodes as the keeper knows them. -/
def othersP0 (c : HlCfg) (h : Hl) : Nat :=
  (fins 8).foldl (fun (a : Nat) (n : Fin 8) => if n ≠ c.node ∧ n.val < c.nnodes then a + h.known[n].p0min else a) 0

/-- The header of a frame: CYCLE to TARGET. -/
def frameHead (c : HlCfg) (cycle budget flags : Nat) (ts : List (Nat × Nat)) : List Byte :=
  leBytes 2 cycle ++ leBytes 2 c.ringId ++ [BitVec.ofNat 8 c.keeper.val, BitVec.ofNat 8 c.nnodes] ++ leBytes 2 budget ++ leBytes 2 flags ++ [0, 0] ++
    (List.range 8).flatMap fun n => leBytes 2 (satNat 65535 (targetOf ts n))

/-- The slots of the last frame with FRESH cleared (R367). -/
def staleSlots (h : Hl) : List Byte :=
  let b := h.frame.getD (List.replicate 224 0)
  (List.range 8).flatMap fun n =>
    let x := slice b (slotOfs n) 24
    x.take 3 ++ [BitVec.ofNat 8 (fr8 x 3 % 128)] ++ x.drop 4

/-- A frame that this node originates: its head, the stale slots and its own. -/
def frameMake (c : HlCfg) (head : List Byte) (s : State) : List Byte :=
  frameSeal (putAt (head ++ staleSlots s.hl ++ List.replicate 4 0) (slotOfs c.node.val) (ownSlot c s))

/-- Some node shows a fold (R378). -/
def anyFold (s : State) : Bool :=
  s.hl.fold0 || s.hl.fold1 || match s.hl.frame with
    | some b => (List.range 8).any fun n => slotFresh b n && (slotStatus b n 4 || slotStatus b n 5)
    | none => false

/-- The keeper's tokens at the origin of a FREEZE frame (R377). -/
def keeperFreeze (b p0 : Nat) (c : HlCfg) (h : Hl) : Hl :=
  let pool := b - (p0 + othersP0 c h)
  { h with offer := none, taken := p0 + pool, pool := pool, freeze := false, mismatch := 0, freezes := incSat 65535 h.freezes }

/-- The group budget B of the ring: the keeper's source, or an open value where it has no section 0x50 (R375, log entry 108). -/
def groupBudget (s : State) : Nat := match s.img.spm with | some p => satNat 65535 (sourceBudget s p) | none => Config.keeperBudget % 65536

/-- The keeper's TAKEN follows a change of B; a fall leaves it its P0MIN (R388, log entry 54). -/
def followB (b p0 : Nat) (h : Hl) : Nat := if h.joined then max (h.taken + b - h.b) (min h.taken p0) else h.taken

/-- A node that holds no place has no tokens to count (R383). -/
def Hl.tokenless (h : Hl) : Hl := { h with taken := 0, offer := none, pool := 0, freeze := false }

/-- HL_FRAME_ORIGIN: the keeper sends a frame every 250 microseconds: FREEZE, or the targets, one return accepted and one offer made; its
TAKEN follows a change of B (R367, R372, R373, R375-R377, R380, R383, R385, R388; log entry 54). -/
def hlFrameOrigin (s : State) : State :=
  match s.img.hl with
  | none => s
  | some c =>
    if !s.hl.on ∨ c.node ≠ c.keeper then s
    else
      let crit0 := s.hl.crit
      let b := groupBudget s
      let l := aliveNodes c s
      let ts := tokenTargets b l
      let own := targetOf ts c.node.val
      let fr := s.hl.freeze
      let crit := tokenCrit b l || s.hl.overB
      let bal := s.hl.joined && s.hl.sum == s.hl.b && s.hl.mismatch == 0
      let h0 := { s.hl with taken := followB b (p0Min s) s.hl }
      let h := if h0.barred then h0.tokenless
        else if fr then keeperFreeze b (p0Min s) c h0 else keeperOffer c ts (keeperPool own (keeperAccept c h0))
      let cyc := h.cycle
      let h := { h with b := b, target := own, crit := crit, settled := bal, backup := false, cycle := (cyc + 1) % 65536, acceptedNow := 0 }
      let head := frameHead c cyc b (packBits [fr, anyFold s, crit, bal]) ts
      let f := if h.barred then frameSeal (head ++ staleSlots h ++ List.replicate 4 0) else frameMake c head { s with hl := h }
      afterPass crit0 { s with hl := sendFrame 1 f h }

/-- What the keeper knows of a node after a pass (R379). -/
def HlNode.seenIn (b : List Byte) (n : Nat) (x : HlNode) : HlNode :=
  if slotFresh b n then { taken := slotU16 b n 0x10, p0min := slotU16 b n 0x16, absent := 0 }
  else
    let a := incSat 400 x.absent
    { x with absent := a, taken := if a < 400 then x.taken else x.p0min }

/-- The sum of the holdings of the other nodes as the keeper counts them. -/
def othersTaken (c : HlCfg) (h : Hl) : Nat :=
  (fins 8).foldl (fun (a : Nat) (n : Fin 8) => if n ≠ c.node ∧ n.val < c.nnodes then a + h.known[n].taken else a) 0

/-- The keeper's own offer was accepted in the pass (R374, R376). -/
def keeperSettle (c : HlCfg) (b : List Byte) (h : Hl) : Hl :=
  match h.offer with
  | some o =>
    if slotFresh b o.1.val ∧ slotAccept b o.1.val = some (c.node.val, h.offerSeq % 16) then
      { h with taken := h.taken - o.2, offer := none, acceptedNow := o.2 } else h
  | none => h

/-- What nodes absent for 100 ms cease to hold, and what they are counted at from now on: their last TAKEN and P0MIN (R379). -/
def lapsed (c : HlCfg) (b : List Byte) (h : Hl) : Nat × Nat :=
  (fins 8).foldl (fun (a : Nat × Nat) (n : Fin 8) =>
    if n ≠ c.node ∧ n.val < c.nnodes ∧ !slotFresh b n.val ∧ h.known[n].absent = 399 then
      (a.1 + h.known[n].taken, a.2 + h.known[n].p0min) else a) (0, 0)

/-- The slots of a pass are taken into the books: the tokens of a node that lapses go to the free pool, so that the books close without a
FREEZE (R379). -/
def keeperKnows (c : HlCfg) (b : List Byte) (h : Hl) : Hl :=
  let x := lapsed c b h
  { h with
    taken := h.taken + x.1 - x.2, pool := h.pool + x.1 - x.2
    known := h.known.mapFinIdx fun i k _ => if i = c.node.val then k else k.seenIn b i }

/-- The books of R376, R377 and, on the first pass, R380. -/
def keeperBooks (c : HlCfg) (sentTaken : Nat) (h : Hl) : Hl :=
  let o := othersTaken c h
  if !h.joined then
    { h with joined := true, taken := h.b - o, pool := h.b - o, overB := decide (h.b < o), sum := satNat 65535 (h.b - o + o)
             mismatch := if h.b < o then 1 else 0 }
  else
    let sum := sentTaken + o - h.acceptedNow
    let m := if sum = h.b then 0 else incSat 3 h.mismatch
    { h with sum := satNat 65535 sum, mismatch := m, freeze := decide (m = 3), overB := h.overB && decide (h.b < o) }

/-- HL_PASS_END: the frame returns to the keeper, which reads the slots and forms the books. A frame that comes in on HL0 while HL1 receives is on
its way back from a fold: it goes on, and the pass ends when it has been round the other side (R376, R378). -/
def hlPassEnd (port : Fin 2) (b : List Byte) (s : State) : State :=
  match s.img.hl with
  | none => s
  | some c =>
    if !s.hl.on ∨ c.node ≠ c.keeper then s
    else if !frameGood c b then frameDiscard port s
    else if port = 0 ∧ !s.hl.fold1 then { s with hl := sendFrame port b (portUp port s.hl) }
    else
      let crit0 := s.hl.crit
      let h := portUp port s.hl
      let h := readFrame c b (if h.joined then h else firstPass c b h)
      if h.barred then afterPass crit0 { s with hl := { h.tokenless with joined := true } }
      else
        let x := lapsed c b h
        let h := forgetOffers c b (keeperKnows c b h)
        afterPass crit0 { s with hl := keeperBooks c (slotU16 b c.node.val 0x10 + x.1 - x.2) (keeperSettle c b h) }

/-! ### Link loss and droop (R370, R371, R378-R381) -/

/-- The master's last TQ_DEM. -/
def masterDemand (c : HlCfg) (h : Hl) : Int :=
  match c.master, h.frame with
  | some m, some b => sInt (hlField b m.val 0)
  | _, _ => 0

/-- HL_LINK_LOST: no good frame for 600 microseconds; a follower takes up droop sharing. -/
def hlLinkLost (s : State) : State :=
  match s.img.hl with
  | none => s
  | some c =>
    if !s.hl.on ∨ !s.hl.link then s
    else
      let h := { s.hl with link := false, freshRun := 0 }
      let dem := masterDemand c h
      if c.role = 2 ∧ c.master.isSome ∧ !h.barred then
        { s with hl := { h with droop := true, rampLeft := 0, t0 := dem, v0 := sInt h.port[2], droopT := dem } }
      else { s with hl := h }

/-- The droop demand (R370, log entry 5). -/
def droopDemand (c : HlCfg) (h : Hl) : Int :=
  if c.droop = 0 then h.t0
  else
    let dv := sInt h.port[2] - h.v0
    clampI (-(c.tRated : Int)) c.tRated (h.t0 - Config.roundFree (c.tRated * dv * 1000) (c.droop * c.vRated))

/-- DROOP_UPDATE: every 100 microseconds. -/
def droopUpdate (s : State) : State :=
  match s.img.hl with
  | some c => if s.hl.droop then { s with hl := { s.hl with droopT := droopDemand c s.hl } } else s
  | none => s

/-- DROOP_LEAVE: after 8 good frames of the master the return ramp of 8 cycles begins (R371, R386). -/
def droopLeave (s : State) : State :=
  if s.hl.droop ∧ s.hl.freshRun = 8 then { s with hl := { s.hl with droop := false, rampLeft := 8, rampFrom := s.hl.droopT } } else s

/-- HL_TOKEN_TIMEOUT: 100 ms after link loss the holding drops to P0MIN, also where a sag has taken the node off the ring (R379, R381); while
backup frames arrive too (R380). A node with CFGERR or DUP holds nothing (R383). -/
def hlTokenTimeout (s : State) : State :=
  if s.img.hl.isSome ∧ (!s.hl.link ∨ s.hl.backup) then
    spmRefresh { s with hl := { s.hl with taken := if s.hl.barred then 0 else p0Min s, offer := none, pool := 0 } }
  else s

/-- HL_BACKUP_ORIGIN: no frame for 1 ms; this node, the lowest live one, originates a frame with BACKUP, BUDGET 0 and no targets
(R378, R380). -/
def hlBackupOrigin (s : State) : State :=
  match s.img.hl with
  | none => s
  | some c =>
    if !s.hl.on ∨ (s.hl.link ∧ !s.hl.backup) ∨ s.hl.barred ∨ c.node = c.keeper then s
    else
      let cyc := if s.hl.backup then s.hl.cycle else match s.hl.frame with | some b => fr16 b 0 + 1 | none => 0
      let f := frameMake c (frameHead c cyc 0 (packBits [false, anyFold s, false, false, true]) []) s
      { s with hl := { sendFrame 1 f s.hl with backup := true, cycle := (cyc + 1) % 65536 } }

/-! ### Meanings -/

def execHlFrameOrigin (s : State) : Res := .next (hlFrameOrigin s)
def execHlFramePass (port : Fin 2) (b : List Byte) (s : State) : Res := .next (hlFramePass port b s)
def execHlPassEnd (port : Fin 2) (b : List Byte) (s : State) : Res := .next (hlPassEnd port b s)
def execHlLinkLost (s : State) : Res := .next (hlLinkLost s)
def execDroopUpdate (s : State) : Res := .next (droopUpdate s)
def execDroopLeave (s : State) : Res := .next (droopLeave s)
def execHlPortDown (port : Fin 2) (s : State) : Res := .next (hlPortDown port s)
def execHlTokenTimeout (s : State) : Res := .next (hlTokenTimeout s)
def execHlBackupOrigin (s : State) : Res := .next (hlBackupOrigin s)

end Sys2Proof.Machine
end

