-- ==== Sys2Proof/Machine/Watch.lean ====
section
/-! DEFINITION. Machine/Watch.lean: entry to WATCH, the Drawer, watch samples, wake sources, and the wake up to the ready point
(20_watch_and_retention.md; R53, R61, R69, R70, R74, R537, R540, R560-R564). -/
namespace Sys2Proof.Machine
open Sys2Proof

/-! ### The Drawer (Table 20.4) -/

/-- A list of bytes cut or filled with 0 to n bytes. -/
def fitBytes (n : Nat) (l : List Byte) : List Byte := slice l 0 n

/-- n bytes of 0. -/
def zeroBytes (n : Nat) : List Byte := List.replicate n 0

/-- AXIS n of a save record (Table 19.3), with W (4) at + 0x08 in the Drawer. -/
def axisBytes (w : Bool) (a : Axis) : List Byte :=
  [BitVec.ofNat 8 ((a.cfgIdx).getD 0xF), BitVec.ofNat 8 a.st.code, BitVec.ofNat 8 (packBits [a.latch, a.nonsafe, a.unver]),
    BitVec.ofNat 8 (a.cause % 16 + 16 * (a.cidx % 16))] ++ wordBytes (toW a.p) ++ (if w then leBytes 4 a.w else zeroBytes 4) ++ zeroBytes 4

/-- CHANNEL s of the Drawer. -/
def drawerSlot (c : Slot) : List Byte :=
  [BitVec.ofNat 8 c.template, BitVec.ofNat 8 c.st.code, BitVec.ofNat 8 ((c.axis.map Fin.val).getD 0xFF),
    BitVec.ofNat 8 (packBits [decide (c.world = .NS), c.bankB, c.destroyPend, c.wasRun])] ++
    leBytes 2 c.fault.toNat ++ leBytes 2 c.grant ++ leBytes 2 c.lateCnt ++ leBytes 2 c.skipCnt

/-- A handle: slot in [7:0], GEN in [15:8] (R138). -/
def handleBytes (s : State) (k : Nat) : List Byte :=
  match kvGet k s.sys.keys with
  | some (i, g) => [BitVec.ofNat 8 i.val, BitVec.ofNat 8 g]
  | none => [0, 0]

/-- ENC p of the Drawer. -/
def drawerEnc (e : EncPort) : List Byte := wordBytes e.count ++ wordBytes e.pos ++ wordBytes e.zlat ++ [(encStatWord e).setWidth 8, 0, 0, 0]

/-- The 20 CTRL words: the RW fields of each register in their own bits. -/
def drawerCtrl (s : State) : List Word :=
  (s.chn.ports.toList.map fun p => bit p.ie 8) ++ [bit s.le.supIe 30, fields [fld s.le.lookSlot.val 0 8, fld s.le.lookStage 8 4], fld s.le.tmSel.val 0 8] ++
    (s.cap.toList.map fun u => bit u.ie 9) ++ [bit s.fio.evIe 30, bit s.cab.ie 16, s.gpio.dir.setWidth 32, s.gpio.out.setWidth 32,
    s.gpio.rise.setWidth 32, s.gpio.fall.setWidth 32, s.ser.spiCtl, s.ser.uartCtl, s.ser.i2cCtl &&& 0x7FFFFFFF#32]

/-- The SYS words of the Drawer. -/
def drawerSys (s : State) : List Word :=
  [bootStatWord s, s.boot.imgId0, s.boot.imgId1, s.boot.safeId, s.boot.imgTime0, s.boot.imgTime1, s.boot.choxo] ++
    [(readSec s 0x08).getD 0, (readSec s 0x0C).getD 0, (readSec s 0x10).getD 0, (readSec s 0x14).getD 0, (readSec s 0x04).getD 0]

/-- The Drawer up to its CRC. -/
def drawerBody (s : State) : List Byte :=
  fitBytes 16 ([0x54, 0x57, 0x56, 0x44, 1, 0, 0, 0] ++ leBytes 4 s.aon.entries) ++
  s.chn.slots.toList.flatMap drawerSlot ++
  s.chn.slots.toList.map (fun c => BitVec.ofNat 8 c.gen) ++
  fitBytes 16 [BitVec.ofNat 8 s.sys.recipe, if s.sys.rcpValid then 1 else 0] ++
  (List.range 256).flatMap (handleBytes s) ++
  s.enc.toList.flatMap drawerEnc ++
  fitBytes 16 (wordBytes s.sec.bwt) ++
  s.sec.rgn.toList.flatMap (fun r => wordBytes r.base ++ wordBytes r.attr) ++
  fitBytes 16 s.img.pmuBytes ++ fitBytes 16 s.img.clkBytes ++
  wordBytes s.img.safetyId ++ zeroBytes 12 ++ fitBytes 32 s.img.safetyHash ++
  s.saf.ax.toList.flatMap (axisBytes true) ++
  fitBytes 64 ((drawerSys s).flatMap wordBytes) ++
  s.le.board.toList.flatMap wordBytes ++
  fitBytes 16 (leBytes 4 s.spm.hostBud ++ wordBytes s.spm.hostMass ++ leBytes 4 s.hl.reserve) ++
  fitBytes 112 ((drawerCtrl s).flatMap wordBytes)

/-- The Drawer is filled: 8 KiB with its CRC. -/
def drawerFill (s : State) : State :=
  let b := fitBytes 0x1FFC (drawerBody s)
  { s with aon := { s.aon with drawer := b ++ wordBytes (crc32c b) } }

/-- MAGIC, FMT and CRC hold (R561). -/
def drawerOk (d : List Byte) : Bool :=
  leAt d 0 4 == 0x44565754 && leAt d 4 2 == 1 && leAt d 0x1FFC 4 == (crc32c (slice d 0 0x1FFC)).toNat

/-! ### Power-down of the core, Loop Engine and network domains -/

/-- A RUNNING channel goes HELD at once; a DESTROY that waits goes on waiting. -/
def holdNow (i : Fin 256) (s : State) : State :=
  let c := s.chn.slots[i]
  if c.st = .running then
    (slotTurn i (s.modSlot i fun c => { c with holdPend := true, destroyPend := false })).modSlot i fun x => { x with destroyPend := c.destroyPend }
  else s

/-- The Loop Engine stops: samples that run complete, a DRAINING channel goes FREE, waiting samples are dropped, capture units end (R211, R240). -/
def leDown (s : State) : State :=
  let s := leFinish s
  let s := (fins 256).foldl (fun (s : State) (i : Fin 256) => if s.chn.slots[i].st = .draining then freeSlot i s else s) s
  let s := s.mapSlots fun c => { c with wait := none, smp := none }
  { s with le := { s.le with run := false, queue := [], lanes := .replicate 4 {} }, cap := s.cap.map CapUnit.ended }

/-- Every HSP session and Modbus connection is lost (R457, R471). -/
def netLost (s : State) : State := { s with net := { s.net with sess := [], xfers := [], mb := [] } }

/-- The core, Loop Engine and network domains go off, each as R201, R202 and R218 state. -/
def domainsOff (s : State) : State :=
  let s := domainOff 1 (domainOff 2 (domainOff 3 (busFresh s)))
  { s with sys := { s.sys with appRun := false } }

/-! ### The entry to WATCH (R551) -/

/-- TOKEN_RETURN_TIMEOUT: the return has not been accepted within 10 ms; the node leaves without it. -/
def tokenReturnTimeout (s : State) : State :=
  if s.aon.step = .tokens then { s with aon := { s.aon with step := .closing }, hl := { s.hl with on := false, link := false, leaving := false } } else s

/-- The deck sleeps or there is none, and the tokens are returned; a keeper has nobody to return them to. -/
def watchReady (s : State) : Bool :=
  decide (s.sys.mode = .operate) && (decide (s.aon.step = .closing) || (decide (s.aon.step = .tokens) && (!s.hl.on || isKeeper s)))

/-- Non-drive channels that run are noted for the wake and go HELD (R53, R563). -/
def watchHolds (s : State) : State :=
  let s := s.mapSlots fun c => { c with wasRun := decide (c.st = .running) }
  (fins 256).foldl (fun (s : State) (i : Fin 256) => holdNow i s) s

/-- WATCH_COMMIT: steps 3 to 7 of R551; the entry window starts, and outputs and fans take their watch states (R554, R557, R559). -/
def watchCommit (s : State) : State :=
  if !watchReady s then s
  else
    let s := leDown (watchHolds (netLost s))
    let s := lifeFlush { s with aon := { s.aon with entries := incSat 65535 s.aon.entries } }
    let s := domainsOff (modeDone (drawerFill s))
    fieldsRefresh { s with
      sys := { s.sys with mode := .watch, entry := enWatchReq }
      hl := { s.hl with on := false, link := false, leaving := false }
      saf := { s.saf with so := 0, bkH := 0, bkL := 0, ka := 0, toOut := 0xF, toPulse := none, offPulse := none, onPulse := none }
      pmu := { s.pmu with pg := 3 }
      aon := { s.aon with step := .window, first := true, siCommit := s.saf.siLvl, samples := 0, fromSag := false, shorted := 0 } }

/-! ### Wake sources (R555-R559, Table 20.3) -/

/-- WAKECFG nibble of a pin. -/
def wakeCfg (s : State) (n : Fin 4) : Nat := match s.img.watch with | some w => w.wakeCfg[n] | none => 0

/-- A pin shows the level that its configuration names. -/
def wakeLevel (s : State) (n : Fin 4) : Bool :=
  let l := s.aon.wake.getLsbD n
  (decide (wakeCfg s n = 1) && l) || (decide (wakeCfg s n = 2) && !l)

/-- WAKE_PIN: two samples of WAKEn at a level. An edge inside the entry window is lost (R558, R559). -/
def wakePin (n : Fin 4) (lvl : Bool) (s : State) : State :=
  let old := s.aon.wake.getLsbD n
  let m : BitVec 4 := 1#4 <<< n.val
  let s := { s with aon := { s.aon with wake := if lvl then s.aon.wake ||| m else clear4 s.aon.wake m } }
  let edge := (decide (wakeCfg s n = 3) && lvl && !old) || (decide (wakeCfg s n = 4) && !lvl && old)
  match s.aon.step with
  | .window => if edge then { s with aon := { s.aon with edgeLost := true } } else s
  | .asleep => if edge || wakeLevel s n then wakeDetect 3 n.val s else s
  | _ => s

/-- WATCH_WINDOW_END: a level wake present at the end of the window wakes at once (R70, R559, R566). -/
def watchWindowEnd (s : State) : State :=
  if s.aon.step ≠ .window then s
  else
    let s := { s with aon := { s.aon with step := .asleep } }
    match (fins 4).find? fun (n : Fin 4) => wakeLevel s n with
    | some n => wakeDetect 3 n.val s
    | none => s

/-- RTC_ALARM. -/
def rtcAlarm (s : State) : State := if s.aon.alarmEn ∧ rtcS s = s.aon.alarmS then wakeDetect 4 0 s else s

/-- A result lies outside its window; exactly at a limit it does not (R571). -/
def outsideWin (w : WatchCfg) (k : Fin 16) (v : Nat) : Bool := decide (v > w.upper[k]) || decide (v < w.lower[k])

/-- The IN or OUT state after a result: true is OUT (R556). -/
def winState (w : WatchCfg) (k : Fin 16) (first was : Bool) (v : Nat) : Bool :=
  if first || !was then outsideWin w k v
  else !(decide (w.lower[k] + w.hyst[k] ≤ v) && decide (v ≤ w.upper[k] - w.hyst[k]))

/-- A 16-bit set from a test of each index. -/
def set16 (p : Fin 16 → Bool) : BitVec 16 := BitVec.ofNat 16 (packBits ((fins 16).map p))

/-- The lowest member of a 16-bit set. -/
def lowest16 (m : BitVec 16) : Option (Fin 16) := (fins 16).find? fun (k : Fin 16) => m.getLsbD k

/-- The compare hits and wire breaks of a sample, and the new OUT states. -/
def sampleJudge (w : WatchCfg) (a : Aon) (codes : Vector (BitVec 16) 16) : BitVec 16 × (BitVec 16 × BitVec 16) :=
  let out := set16 fun k => if w.aiEn.getLsbD k then winState w k a.first (a.wout.getLsbD k) codes[k].toNat else a.wout.getLsbD k
  let hit := set16 fun k => w.aiEn.getLsbD k && out.getLsbD k && (a.first || !a.wout.getLsbD k)
  (hit, (set16 fun k => w.wbWake.getLsbD k && decide (codes[k].toNat < 9000), out))

/-- The sources of a sample in ascending CAUSE. -/
def sampleWakes (hit wb si : BitVec 16) (hot : Bool) (s : State) : State :=
  let w (c : Nat) (m : BitVec 16) (s : State) : State := match lowest16 m with | some k => wakeDetect c k.val s | none => s
  let s := w 6 si (w 2 wb (w 1 hit s))
  if hot then wakeDetect 8 0 s else s

/-- WATCH_SAMPLE: conversion codes, safe-input levels and the logic-die temperatures in 1/256 degree C (R519, R555-R558). -/
def watchSample (codes : Vector (BitVec 16) 16) (si : BitVec 16) (temp : Vector (BitVec 24) 6) (s : State) : State :=
  match s.img.watch with
  | none => s
  | some w =>
    if s.aon.step ≠ .asleep ∨ s.sys.mode ≠ .watch then s
    else
      let (hit, (wb, out)) := sampleJudge w s.aon codes
      let ch := (si ^^^ s.aon.siCommit) &&& w.siWake
      let hot := temp.any fun t => decide (t.toInt > 34560)
      let s := { s with
        aon := { s.aon with samples := s.aon.samples + 1, wval := codes.map BitVec.toNat, wout := out, first := false, aiHit := hit ||| wb, siHit := ch }
        pmu := { s.pmu with temp := s.pmu.temp.mapFinIdx fun i x _ => if h : i < 6 then some temp[i].toInt else x } }
      let s := if hot then raise cThermal 0xFF 0 s else s
      sampleWakes hit wb ch hot s

/-! ### The wake (R537, R540, R560-R564) -/

/-- Positions after a wake or resume: an incremental count goes on UNVERIFIED unless ENC_KEEP held it, an absolute position is compared
afresh with the one held (R540, R564). -/
def positionsHeld (keep : BitVec 4) (s : State) : State :=
  let unver : BitVec 4 := s.save.unver ||| ~~~keep
  let s := { s with save := { s.save with
    unver := unver, absOk := 0, verify := (absPorts s).map fun p => (p, s.enc[p].pos) } }
  (fins 4).foldl (fun (s : State) (n : Fin 4) => match axisCfg s n with
    | some c => (match c.pos1 with
      | some x => s.modAxis n fun a => { a with unver := if x.abs then true else unver.getLsbD x.port }
      | none => s.modAxis n fun a => { a with unver := true })
    | none => s) s

/-- What an axis keeps through WATCH or a sag; it is in STO (R537, R563). -/
def Axis.woken (a : Axis) : Axis :=
  { cfgIdx := a.cfgIdx, st := if a.st = .unused then .unused else .sto, latch := a.latch, nonsafe := a.nonsafe, cause := a.cause, cidx := a.cidx
    unver := a.unver, p := a.p, w := a.w, sdiAct := a.sdiAct }

/-- A channel as it comes back; the plausibility counter restarts (R562). -/
def Slot.woken (c : Slot) : Slot := { c with plCnt := 0, feTimer := 0, seen := [], wait := none, smp := none, rampInit := false }

/-- Registers of the Loop Engine domain at wake (R165, R455, R562). -/
def Le.woken (l : Le) : Le :=
  { owners := l.owners, lookSlot := l.lookSlot, lookStage := l.lookStage, tmSel := l.tmSel, supIe := l.supIe, board := l.board, boardBy := l.boardBy }

/-- The safety monitor at wake: causes, history and latches stay (Table 2.8, R562). -/
def Saf.woken (f : Saf) : Saf :=
  { ax := f.ax.map Axis.woken, causes := f.causes, lkFirst := f.lkFirst, lkLast := f.lkLast, hist := f.hist, lockstepSeen := f.lockstepSeen, halted := f.halted
    srcOfs := f.srcOfs }

/-- An encoder port at wake: COUNT, ABS, ZLAT and STAT of the Drawer. -/
def EncPort.woken (e : EncPort) : EncPort := { e with trail := [], ver := 0 }

/-- The Trestle at wake: the deck stays adopted and keeps its record; frames start anew (R33). -/
def Trestle.woken (t : Trestle) : Trestle :=
  { adopted := t.adopted, everAdopted := t.everAdopted, selftestOver := t.selftestOver, sleep := t.sleep, wakeSent := t.adopted
    px := t.px.map fun b => { bfault := b.bfault, snap := b.snap } }

/-- Field outputs at wake: one that a short turned off in WATCH is in its retry wait, and that is no longer owing (R451, R554). -/
def fieldWoken (s : State) : State :=
  let s := fieldRestart s
  { s with
    aon := { s.aon with shorted := 0 }
    fio := { out := s.fio.out.mapFinIdx fun i o _ =>
               { y := o.y, retryLeft := if s.aon.shorted.getLsbD i then o.retryLeft - 1 else o.retryLeft
                 st := if s.aon.shorted.getLsbD i then (if o.retryLeft = 0 then 4 else 3) else 0, short := s.aon.shorted.getLsbD i }
             vfo := s.fio.vfo, vfoLow := s.fio.vfoLow, evIe := s.fio.evIe }
    fan := s.fan.map fun f => { y := f.y }
    ain := .replicate 16 {} }

/-- The core, Loop Engine and network domains come back: what Table 20.4 lists and the retained memories keep their values, every other
register of these domains takes its reset value (R552, R561, R562). TAKEN goes by the time since the link was lost, not by the power
(R379, R381). -/
def wakeRestore (s : State) : State :=
  let s := fieldWoken s
  { s with
    sys := { s.sys with resResult := 0, resAction := 0, resRcp := 0, resPend := s.sys.resPend && s.sys.change.isSome, resCollide := false, resReason := 0, resIndex := 0
                        appRun := false, mirqEn0 := 0, mirqEn1 := 0 }
    trst := s.trst.woken
    saf := s.saf.woken
    chn := { ports := s.chn.ports.map (fun p => { ie := p.ie }), slots := s.chn.slots.map Slot.woken, starts := s.chn.starts }
    le := s.le.woken
    cap := s.cap.map fun u => { ie := u.ie }
    fab := {}
    chest := {}
    cab := s.cab.woken
    clk := { cfg := s.clk.cfg, rc := s.clk.rc, fail := s.clk.fail, aonFb := s.clk.aonFb, rtcInacc := s.clk.rtcInacc, refo := (clkNow s).refo }
    spm := { hostBud := s.spm.hostBud, hostOk := s.spm.hostOk, hostMass := s.spm.hostMass }
    hl := { reserve := s.hl.reserve, taken := s.hl.taken }
    enc := s.enc.map EncPort.woken
    gpio := { dir := s.gpio.dir, out := s.gpio.out, inp := s.gpio.inp, rise := s.gpio.rise, fall := s.gpio.fall }
    ser := { spiCtl := s.ser.spiCtl, uartCtl := s.ser.uartCtl, i2cCtl := s.ser.i2cCtl &&& 0x7FFFFFFF#32 }
    net := { s.net with eth := .replicate 2 {}, sess := [], mb := [], hspTx := none, mbTx := none }
    can := {} }

/-- A wake that finds a bad Drawer: a bring-up as after a full loss (R562). -/
def wakeFailed (s : State) : State :=
  let s := fullReset .sagLoss (flushHist (endCauses s))
  bringUpStart s

/-- WAKE_START: the wake table restores the core domain and the Drawer; the wake command goes to the deck. -/
def wakeStart (s : State) : State :=
  if s.aon.step ≠ .waking then s
  else if !drawerOk s.aon.drawer then wakeFailed s
  else
    let keep : BitVec 4 := if s.aon.fromSag then 0 else (match s.img.watch with | some w => w.encKeep | none => 0)
    let s := positionsHeld keep (wakeRestore s)
    hbdBack { s with pmu := { s.pmu with pg := 0xF }, aon := { s.aon with step := .restored } }

/-- The deck has reported link-up after the wake command (R33, R560): a frame lost since then takes nothing of it back. -/
def deckLinked (s : State) : Bool := s.trst.linkUp && !s.trst.sleep && s.dk.hbu

/-- Non-drive channels that ran at the entry to WATCH start again when RESUME is set (R563). -/
def watchResumes (s : State) : State :=
  let res := match s.img.watch with | some w => w.resume | none => false
  (fins 256).foldl (fun (s : State) (i : Fin 256) =>
    let x := s.chn.slots[i]
    if x.wasRun then
      let s := s.modSlot i fun x => { x with wasRun := false }
      if res && decide (x.st = .held) && !isDrive s x then (startOwn i {} s).2 else s
    else s) s

/-- The causes that the ready point finds: an unlocked PLL, a deck that is not linked, a resume without SAVE_READY (R487, R536, R560). -/
def readyCauses (pll : Bool) (s : State) : State :=
  let s := if pll then s else recordCause cClockFail 0xFF 0 { s with clk := { s.clk with rc := true, fail := true, nXsys := incSat 255 s.clk.nXsys } }
  let s := if s.save.noHoldup then recordCause cHoldupLow 0xFF 0 s else s
  if s.trst.adopted && !deckLinked s then
    recordCause cDeckLost 0xFF 0 (linkRestart { s with trst := { s.trst with adopted := false, sleep := false, wakeSent := false } })
  else s

/-- WAKE_READY: the ready point. A recipe change under way is carried out first (R57); with a cause recorded the device is in
LOCKOUT.FAULT, else in OPERATE (R45, R69, R536, R560, R563). -/
def wakeReady (pll : Bool) (s : State) : State :=
  if s.aon.step ≠ .restored then s
  else
    let was := s.sys.mode
    let s := readyCauses pll { s with
      aon := { s.aon with step := .none, drawer := [] }
      save := { s.save with coreOff := false, active := false } }
    let s := { s with save := { s.save with noHoldup := false }, sys := { s.sys with mode := if was = .watch then .operate else was } }
    let entry := if s.aon.fromSag then enSagResume else enWake
    let s := recipeFinish s
    let s := spmAlloc (if s.aon.fromSag then resumeHolds s else s)
    if was.isLockout then
      let s := fieldsRefresh { s with sys := { s.sys with entry := enSagResume } }
      if s.sys.appStarted then startApp s else s
    else if s.saf.causes.isEmpty then watchResumes (enterOperate entry s)
    else
      let s := lockoutEnter enFault false s
      if s.sys.appStarted then startApp s else s

/-! ### Meanings -/

def execWatchCommit (s : State) : Res := .next (watchCommit s)
def execTokenReturnTimeout (s : State) : Res := .next (tokenReturnTimeout s)
def execWatchWindowEnd (s : State) : Res := .next (watchWindowEnd s)
def execWatchSample (codes : Vector (BitVec 16) 16) (si : BitVec 16) (temp : Vector (BitVec 24) 6) (s : State) : Res := .next (watchSample codes si temp s)
def execWakePin (n : Fin 4) (lvl : Bool) (s : State) : Res := .next (wakePin n lvl s)
def execRtcAlarm (s : State) : Res := .next (rtcAlarm s)
def execWakeStart (s : State) : Res := .next (wakeStart s)
def execWakeReady (pll : Bool) (s : State) : Res := .next (wakeReady pll s)
def execRtcWrite (w : World) (v : Word) (s : State) : Res := .next (blockWrite w 20 0x18 v (rtcSet v) s)

end Sys2Proof.Machine
end

