-- ==== Sys2Proof/Machine/Holdup.lean ====
section
/-! DEFINITION. Machine/Holdup.lean: SAVE_READY, the sag sequence, the save record, the resume, and homing (19_holdup_and_save.md;
Table 2.8; R57, R516, R582). -/
namespace Sys2Proof.Machine
open Sys2Proof

/-! ### The save record (Table 19.3) -/

/-- PORT p. -/
def portBytes (c : EncCfg) (e : EncPort) (unver : Bool) : List Byte :=
  [BitVec.ofNat 8 (packBits [c.inc, c.abs]), BitVec.ofNat 8 (packBits [e.err, e.frame, e.illegal, unver]), 0, 0] ++
    wordBytes e.count ++ wordBytes e.pos ++ wordBytes e.zlat

/-- SNAP n: the words of DK_BnSNAP. -/
def snapBytes (s : State) (n : Nat) : List Byte :=
  fitBytes 32 ((List.range 6).flatMap fun k => wordBytes ((readDk s (0x100 + 0x20 * n + 4 * k)).getD 0))

/-- LOCKOUT: NCAUSE, NEEDS and up to 16 codes in the order of R331. -/
def lockoutBytes (s : State) : List Byte :=
  let l := sortBy (fun (a b : Cause) => decide (a.code.toNat ≤ b.code.toNat)) s.saf.causes
  fitBytes 64 (fitBytes 36 (([BitVec.ofNat 8 (min 255 l.length), BitVec.ofNat 8 (causeNeeds s), 0, 0] : List Byte) ++ (l.take 16).flatMap fun c => leBytes 2 c.code.toNat))

/-- CHANNEL k of a recipe key: a channel that has been destroyed shows DESTROYED with SLOT 0 (log entry 63). -/
def keyBytes (s : State) (k : Nat) : List Byte :=
  match (activeRecipe s).bind fun r => r.chans.find? fun e => decide (e.key = k) with
  | none => List.replicate 4 0xFF
  | some e =>
    if k = 0 then List.replicate 4 0xFF
    else match keySlot s k with
      | some i =>
        let c := s.chn.slots[i]
        [BitVec.ofNat 8 e.template, BitVec.ofNat 8 (c.st.code + (if c.bankB then 16 else 0)), BitVec.ofNat 8 i.val, 0]
      | none => [BitVec.ofNat 8 e.template, 32, 0, 0]

/-- The record at the capture instant, with SEQ, SAGNUM and CRC still 0. -/
def recordBytes (kind : Nat) (s : State) : List Byte :=
  fitBytes 0x700 (
    ([0x54, 0x57, 0x56, 0x53, 1, 0, 0x00, 0x07] : List Byte) ++ zeroBytes 8 ++
    [BitVec.ofNat 8 kind, BitVec.ofNat 8 (s.sys.mode.code + 16 * s.sys.mode.sub), if s.sys.rcpValid then BitVec.ofNat 8 s.sys.recipe else 0xFF,
      (match s.sys.change with | some c => BitVec.ofNat 8 c.rcp | none => 0xFF), (match s.sys.change with | some c => BitVec.ofNat 8 c.step | none => 0), 0, 0, 0] ++
    wordBytes s.boot.safeId ++ wordBytes s.boot.imgId0 ++ wordBytes s.boot.imgId1 ++ wordBytes (rtcS s) ++ leBytes 2 (rtcMs s) ++ [0, 0] ++
    wordBytes (opHours s) ++ leBytes 2 s.save.vsave0 ++ zeroBytes 14 ++
    s.saf.ax.toList.flatMap (axisBytes false) ++
    (fins 4).flatMap (fun (p : Fin 4) => portBytes s.img.enc[p] s.enc[p] (s.save.unver.getLsbD p)) ++
    lockoutBytes s ++ (List.range 4).flatMap (snapBytes s) ++ s.le.board.toList.flatMap wordBytes ++ (List.range 256).flatMap (keyBytes s))

/-- The record as written: SEQ and SAGNUM filled in, and the CRC. -/
def recordSeal (seq sagnum : Nat) (r : List Byte) : List Byte :=
  let b := r.take 8 ++ leBytes 4 seq ++ leBytes 4 sagnum ++ (r.drop 16).take 0x6EC
  b ++ wordBytes (crc32c b)

/-! ### SAVE_READY (R523, R525, R536) -/

/-- The wake table of a resume starts (R536, Table 20.3 CAUSE 0x5). -/
def sagWake (s : State) : State :=
  { s with save := { s.save with resuming := false }, aon := { s.aon with step := .waking, cause := 5, index := 0, fromSag := true } }

/-- SAVE_READY_SET: VSAVE has reached 42.0 V; a resume that waits for it starts its wake. -/
def saveReadySet (v : BitVec 16) (s : State) : State :=
  let s := { s with save := { s.save with vsave := v.toNat } }
  if v.toNat < 4200 then s
  else
    let s := { s with save := { s.save with ready := true } }
    if s.save.resuming then sagWake s else s

/-- SAVE_READY_CLEAR: VSAVE has fallen below 41.5 V. -/
def saveReadyClear (v : BitVec 16) (s : State) : State :=
  { s with save := { s.save with vsave := v.toNat, ready := if v.toNat < 4150 then false else s.save.ready } }

/-- HOLDUP_LOW: SAVE_READY has been clear for 1 s in OPERATE or LOCKOUT, outside a sag and a resume (R525). -/
def holdupLow (s : State) : State :=
  if (s.sys.mode = .operate ∨ s.sys.mode.isLockout) ∧ !s.save.ready ∧ !s.save.active ∧ !s.save.coreOff then raise cHoldupLow 0xFF 0 s else s

/-! ### The sag (R527-R530, R543, R545-R549, R568, R582) -/

/-- A save runs: in OPERATE or LOCKOUT with SAVE_READY set, or in WATCH (R528). -/
def saveRuns (s : State) : Bool :=
  decide (s.sys.mode = .watch) || ((decide (s.sys.mode = .operate) || s.sys.mode.isLockout) && s.save.ready)

/-- The wake table runs (R568). -/
def wakeRuns (s : State) : Bool := decide (s.aon.step = .waking) || decide (s.aon.step = .restored)

/-- A tag write that the Chest has not accepted ends FAULT_PD. -/
def TagPort.sag (served : Bool) (t : TagPort) : TagPort := if t.pend && !served then { t with pend := false, result := 3, hsp := none } else t

/-- Tag writes that the Chest has not accepted end FAULT_PD; the one being served goes on (R530, R582). -/
def tagSag (s : State) : State :=
  let keep := tagNext s
  (s.modTag 0 (TagPort.sag (decide (keep = some 0)))).modTag 1 (TagPort.sag (decide (keep = some 1)))

/-- Drive channels are HELD, and no START waits (R54, R537). -/
def sagChannels (s : State) : State :=
  (fins 256).foldl (fun (s : State) (i : Fin 256) =>
    if isDrive s s.chn.slots[i] then holdNow i (s.modSlot i fun c => { c with startPend := false }) else s) s

/-- What every confirmed sag does at once: outputs gated, the power-down of the network domain decided, the lift, a pending homing, sessions
and a WATCH entry end (R201, R363, R471, R528, R547, Sequence 19.1). -/
def sagStop (v : Nat) (s : State) : State :=
  let s := tagSag (netLost (watchAbandon (lockoutOutputs false s)))
  let s := if s.spm.lift.isSome then liftEnd 0 s else s
  let s := domainPowerDown 3 (busFresh (sagChannels s))
  fieldsRefresh { s with
    saf := { s.saf with homing := none }
    flash := { s.flash with run := none }
    save := { s.save with
      charge := false, fromVsave := s.save.ready || saveRuns s, vsave := v, vmin := v, vsave0 := v, at_ := s.now, active := true
      homeRes := if s.saf.homing.isSome then 0 else s.save.homeRes, homeAxis := if s.saf.homing.isSome then 0 else s.save.homeAxis
      resuming := false, noHoldup := false } }

/-- The core domains go off: the Drawer is filled, the rails go (Sequence 19.1 last steps, R528); a rail fault that waited follows (R516). -/
def coreDown (s : State) : State :=
  let s := domainsOff (drawerFill (leDown s))
  let s := fieldsRefresh { s with
    save := { s.save with active := false, coreOff := true, act := false, fromVsave := false, saving := false, step := .none }
    aon := { s.aon with step := if s.sys.mode = .watch then .asleep else .none }
    hl := { s.hl with on := false, link := false }
    -- records not popped are lost from the Window (R423)
    cab := { s.cab with fifo := [], hold := [] }
    pmu := { s.pmu with pg := 0 } }
  match s.pmu.railPend with
  | some r => railReset .rail false { s with pmu := { s.pmu with railId := r } }
  | none => s

/-- A sag that no save follows: the count is written and the core domains go off (R528, R543, R546, R579). -/
def sagUnsaved (s : State) : State := coreDown (lifeFlush (if (tagNext s).isSome then tagWriteComplete s else s))

/-- BOOT halts; in BOOT.CHARGE after SAVE_READY it restarts there (Table 2.8, R545, R546). -/
def bootHalt (s : State) : State :=
  if s.sys.mode.isBoot then
    { s with boot := { s.boot with halted := true, chargeBack := decide (s.sys.mode = .bootCharge) && s.save.ready, capCheck := false, phase := .idle, header := [], body := [] } }
  else s

/-- The core domains are off and no wake table runs: VIN is not watched for a sag. -/
def sagIdle (s : State) : Bool := s.save.active || (s.save.coreOff && !wakeRuns s && !s.save.resuming)

/-- SAG_CONFIRM: VIN has been below the sag threshold for tSAGDEB; `v` is VSAVE at that instant in 10 mV. -/
def sagConfirm (v : BitVec 16) (s : State) : State :=
  if !s.pmu.released ∨ s.pmu.rails ≠ .up ∨ sagIdle s then s
  else if s.save.coreOff ∧ s.save.resuming then
    lifeFlush { s with life := { s.life with sag := s.life.sag + 1 }, save := { s.save with charge := false, resuming := false, vsave := v.toNat } }
  else
    let saves := saveRuns s
    let s := bootHalt (sagStop v.toNat { s with life := { s.life with sag := s.life.sag + 1 } })
    if saves then { s with save := { s.save with saving := true, act := true, step := .confirmed } } else sagUnsaved s

/-- SAVE_CAPTURE: the accepted Chest store and the running samples complete, the record captures the state, and at most 8 waiting history entries are written
(Sequence 19.1, R327, R530). -/
def saveCapture (s : State) : State :=
  if s.save.step ≠ .confirmed then s
  else
    let s := leFinish (if (tagNext s).isSome then tagWriteComplete s else s)
    let kind := if s.sys.mode = .watch ∨ wakeRuns s then 2 else 1
    (s.saf.hist.take 8).foldl (fun s e => histStore e s) { s with
      save := { s.save with step := .captured, record := recordBytes kind s }
      saf := { s.saf with hist := s.saf.hist.drop 8 } }

/-- SAVE_RECORD_WRITE: the count of this sag, then the record into the slot that does not hold the newest valid one, header block last;
with `ok` false a second read-back failed and the header block is not written (R534, R535, R579). -/
def saveRecordWrite (ok : Bool) (s : State) : State :=
  if s.save.step ≠ .captured then s
  else
    let s := lifeFlush s
    let old := newestSlot s
    let b := match old with | some x => !x | none => false
    let seq := match old with | some x => leAt (slotBytes s x) 8 4 + 1 | none => 1
    let r := recordSeal seq (sagCount s) s.save.record
    let base := if b then 0x30005000 else 0x30004000
    let s := memPut (base + 32) (r.drop 32) s
    let s := if ok then memPut base (r.take 32) s else s
    { s with
      save := { s.save with step := .written, record := [], seq := if ok then BitVec.ofNat 32 seq else s.save.seq } }

/-- Energy in 0.1 mJ from SAVE_CAP and two VSAVE readings in 10 mV (R531, log entry 5). -/
def saveEnergy (c v0 v1 : Nat) : Nat := (Config.roundFree (c * (v0 * v0 - v1 * v1) : Nat) 2000000).toNat

/-- SAVE_COMPLETE: the Drawer is filled and the core domains go off; `v` is VSAVE at the end, `vmin` its lowest reading. -/
def saveComplete (v vmin : BitVec 16) (s : State) : State :=
  if s.save.step ≠ .written then s
  else
    coreDown { s with save := { s.save with
      vsave := v.toNat, vmin := vmin.toNat, dur := satNat 65535 (s.now - s.save.at_), energy := satNat 65535 (saveEnergy s.save.capC s.save.vsave0 v.toNat) } }

/-! ### Coming back (R533, R536, R544, R548) -/

/-- AON_LOSS: VSAVE has fallen below 12 V with the core off or in a sag: everything held from it is lost, and with VBAT below 2.0 V the RTC count
too (R498, R533, R544). It is a power cycle: the causes end with entries of KIND 5 (Table 11.4, log entry 45). -/
def aonLoss (vbat : Bool) (s : State) : State :=
  if !s.save.active ∧ !s.save.coreOff then s
  else
    let (w, s) := if vbat then (0, s) else takeFree s
    let s := flushHist (endCauses { s with saf := { s.saf with hist := [] } })
    let r := fullReset .sagLoss { s with pmu := { rtcLost := s.pmu.rtcLost || !vbat, rails := .off, started := 0, pg := 0, porst := s.pmu.porst } }
    { r with
      mem := memClear (memClear r.mem 0x10000000 0x10100000) 0x20000000 0x20140000
      aon := { r.aon with rtcAcc := if vbat then r.aon.rtcAcc else w.toNat * 10000000000000 } }

/-- SAG_RESUME: VIN has been back for 50 ms (R536); in LOCKOUT.MAINT a full reset follows (Table 2.8, log entry 64). -/
def sagResume (s : State) : State :=
  if !s.save.coreOff ∨ s.boot.halted ∨ wakeRuns s ∨ s.save.resuming then s
  else if s.sys.mode = .lockoutMaint then bringUpStart (fullResetEnd .maint s)
  else
    let s := { s with save := { s.save with charge := true, resuming := true } }
    if s.save.ready then sagWake s else s

/-- RESUME_HOLDUP_TIMEOUT: SAVE_READY has not come within 5 s: the wake runs, into LOCKOUT.FAULT (R536). -/
def resumeHoldupTimeout (s : State) : State :=
  if s.save.resuming ∧ !s.save.ready then sagWake { s with save := { s.save with noHoldup := true } } else s

/-! ### Homing and position verification (R541, R550) -/

/-- POSITION_VERIFY_TIMEOUT: the port stays UNVERIFIED. -/
def positionVerifyTimeout (p : Fin 4) (s : State) : State :=
  { s with save := { s.save with verify := s.save.verify.filter fun x => decide (x.1 ≠ p) } }

/-! ### Meanings -/

def execSaveReadySet (v : BitVec 16) (s : State) : Res := .next (saveReadySet v s)
def execSaveReadyClear (v : BitVec 16) (s : State) : Res := .next (saveReadyClear v s)
def execHoldupLow (s : State) : Res := .next (holdupLow s)
def execSagConfirm (v : BitVec 16) (s : State) : Res := .next (sagConfirm v s)
def execSaveCapture (s : State) : Res := .next (saveCapture s)
def execSaveRecordWrite (ok : Bool) (s : State) : Res := .next (saveRecordWrite ok s)
def execSaveComplete (v vmin : BitVec 16) (s : State) : Res := .next (saveComplete v vmin s)
def execAonLoss (vbat : Bool) (s : State) : Res := .next (aonLoss vbat s)
def execSagResume (s : State) : Res := .next (sagResume s)
def execResumeHoldupTimeout (s : State) : Res := .next (resumeHoldupTimeout s)
def execSaveHome (w : World) (n : Fin 4) (s : State) : Res := .next (blockWrite w 22 0x18 (0x80000000#32 ||| fld n.val 0 2) (saveHome n) s)
def execPositionVerifyTimeout (p : Fin 4) (s : State) : Res := .next (positionVerifyTimeout p s)

end Sys2Proof.Machine
end

