-- ==== Sys2Proof/Machine/Hsp.lean ====
section
/-! DEFINITION. Machine/Hsp.lean: HSP sessions and commands, and the maintenance commands (16_host_interfaces.md R456-R461, R470, R473;
R87, R95-R97, R126, R131, R577). A datagram is its bytes as received; a row takes the datagrams of its own OP. -/
namespace Sys2Proof.Machine
open Sys2Proof

/-- HSP is served on a port. -/
def hspOn (s : State) (p : Fin 2) : Bool := ethUp s p

/-- World of a session (R110). -/
def sessWorld (x : Session) : World := if x.ns then .NS else .S

/-- Codes of Table 7.2. -/
def respCode : Resp → Nat
  | .done => 0 | .faultWorld => 1 | .faultDecode => 2 | .faultPd => 3 | .faultEcc => 4

/-! ### HELLO (R457, R473) -/

/-- The free bytes of n words (log entry 4). -/
def freeBytes : Nat → State → List Byte × State
  | 0, s => ([], s)
  | n + 1, s =>
    let (x, s) := takeFree s
    let (t, s) := freeBytes n s
    (wordBytes x ++ t, s)

/-- A SID that a session may take: no open session has it, and no command of a closed one still runs under it, whose answer is discarded
(R470). -/
def sidFree (s : State) (n : Nat) : Bool :=
  (sessOf s n).isNone && s.flash.run.all (fun c => decide (c.sid ≠ n)) && s.net.xfers.all (fun x => decide (x.sid ≠ n)) && s.chest.port.all fun t => t.hsp.all fun x => decide (x.1 ≠ n)

/-- A non-zero SID that is free: the free value offered where it is one, else the least number that is. -/
def pickSid (s : State) (x : Nat) : Nat :=
  if x ≠ 0 ∧ sidFree s x then x
  else match (List.range (7 + s.net.xfers.length)).find? fun n => sidFree s (n + 1) with
    | some n => n + 1
    | none => 7 + s.net.xfers.length

/-- HELLO: no valid pre-shared key or a failed HMAC drops the request; four open sessions answer BUSY under the pre-shared key; otherwise
a session opens with a SID, a nonce and a key, and its first answer carries the nonce. -/
def hello (p : Fin 2) (d : List Byte) (s : State) : State :=
  if hspOp d ≠ 1 ∨ !hspOn s p then s
  else if !hspForm d then ethDrop p s
  else match s.boot.psk[if hspNs d then (1 : Fin 2) else 0] with
    | none => badAuth p s
    | some psk =>
      if !hspAuth psk d ∨ hspSid d ≠ 0 then badAuth p s
      else if hspCtr d ≠ 0 then badReplay p s
      else if hspLen d ≠ 16 ∨ s.net.sess.length ≥ 4 then
        let (x, s) := takeFree s
        let r := if hspLen d ≠ 16 then rBadTemplate else rBusy
        { s with net := { s.net with hspTx := some (p, hspDatagram psk (hspNs d) 0 x.toNat 1 r (hspTag d) []) } }
      else
        let (x, s) := takeFree s
        let (nd, s) := freeBytes 4 s
        let sid := pickSid s x.toNat
        let k := hmac256 psk (ascii "TWVH" ++ hspPay d ++ nd ++ leBytes 4 sid)
        let s := { s with net := { s.net with sess := s.net.sess ++ [{ sid := sid, ns := hspNs d, port := p, key := k }] } }
        hspReply sid 1 rOk (hspTag d) nd s

/-! ### Requests of a session (R458, R459, R461) -/

/-- MAINT_EN_N is low. -/
def maintPin (s : State) : Bool := s.sys.maintLowAt.isSome

/-- What a command asks of the session's world and of the mode (Table 16.3, R461): the result that refuses it. -/
def hspBar (sec maint pin : Bool) (x : Session) (s : State) : Option Nat :=
  if sec && x.ns then some rWorld
  else if maint && decide (s.sys.mode ≠ .lockoutMaint) then some rMode
  else if pin && !maintPin s then some rMode
  else none

/-- A request of a session: accepted, answered BUSY while the session still runs one, refused, or run. -/
def hspRequest (op : Nat) (sec maint pin : Bool) (p : Fin 2) (d : List Byte) (body : Session → List Byte → State → State) (s : State) : State :=
  if hspOp d ≠ op ∨ !hspOn s p then s
  else if !hspForm d then ethDrop p s
  else match hspAccept p d s with
    | .error s' => s'
    | .ok x =>
      let s := hspTake p d x s
      if x.wait.isSome then hspSay x.sid op rBusy (hspTag d) [] s
      else match hspBar sec maint pin x s with
        | some r => hspReply x.sid op r (hspTag d) [] s
        | none => body x (hspPay d) s

/-- Answer a request. -/
def hspDone (x : Session) (d : List Byte) (result : Nat) (payload : List Byte) (s : State) : State :=
  hspReply x.sid (hspOp d) result (hspTag d) payload s

/-- The session waits for what it has started. -/
def hspHold (x : Session) (d : List Byte) (s : State) : State :=
  s.modSess x.sid fun y => { y with wait := some { op := hspOp d, rtag := hspTag d } }

/-! ### Commands for either world (R460) -/

/-- CLOSE. -/
def hspClose (p : Fin 2) (d : List Byte) : State → State :=
  hspRequest 0x02 false false false p d fun x _ s =>
    let s := hspDone x d rOk [] s
    { s with net := { s.net with sess := s.net.sess.filter fun y => decide (y.sid ≠ x.sid) } }

/-- A session of a SID closes without a datagram; what it has started goes on and its answer is discarded (R470). -/
def sessClose (sid : Nat) (s : State) : State := { s with net := { s.net with sess := s.net.sess.filter fun y => decide (y.sid ≠ sid) } }

/-- A payload that Table 16.3 does not allow. -/
def hspBad (x : Session) (d : List Byte) (s : State) : State := hspDone x d rBadTemplate [] s

/-- The transaction of one word of a READ, WRITE or CAPREAD. -/
def HspXfer.kind (x : HspXfer) : Access := if x.op = 0x11 then .write else .read

/-- The answer of a READ, WRITE or CAPREAD that has ended (Table 16.3): a code of Table 7.2 and the words read, or the number written. -/
def hspXferEnd (x : HspXfer) (r : Resp) (s : State) : State :=
  let code : List Byte := [BitVec.ofNat 8 (respCode r), 0, 0, 0]
  if x.op = 0x31 then
    if r = .done then hspReply x.sid x.op rOk x.rtag (x.got.flatMap wordBytes) s else hspReply x.sid x.op rWorld x.rtag [] s
  else if x.op = 0x11 then hspReply x.sid x.op rOk x.rtag (code ++ leBytes 2 x.got.length) s
  else hspReply x.sid x.op rOk x.rtag (code ++ x.got.flatMap wordBytes) s

/-- One word has been moved. -/
def HspXfer.moved (x : HspXfer) (words : List Word) : HspXfer :=
  { x with addr := x.addr + 4, data := x.data.drop 1, got := x.got ++ (if x.op = 0x11 then [0] else words) }

/-- n words, one transaction each, until one is not DONE (R197, R460); a transaction without a tag waits, and the command with it (R196). -/
def hspMove : Nat → HspXfer → State → State
  | 0, x, s => hspXferEnd x .done s
  | n + 1, x, s =>
    let r := busAccess 4 (if x.ns then .NS else .S) x.kind x.addr 4 (x.data.take 1) s
    match r.waits with
    | some id => { r.s with net := { r.s.net with xfers := r.s.net.xfers ++ [{ x with id := id, left := n }] } }
    | none => if r.res = .done then hspMove n (x.moved r.words) r.s else hspXferEnd x r.res r.s

/-- A command whose waiting transaction has been answered goes on. -/
def hspResume (x : HspXfer) (r : Resp) (words : List Word) (s : State) : State :=
  let s := { s with net := { s.net with xfers := s.net.xfers.filter fun y => decide (y.id ≠ x.id) } }
  if r = .done then hspMove x.left (x.moved words) s else hspXferEnd x r s

/-- The responses of this command reach the HSP commands that wait for them. -/
def hspResumes (s : State) : State :=
  s.net.xfers.foldl (fun s x => match s.fab.resps.find? fun a => decide (a.1 = x.id) with
    | some (_, (r, words)) => hspResume x r words s
    | none => s) s

/-- A READ, WRITE or CAPREAD of n words starts. -/
def hspXferGo (x : Session) (d : List Byte) (a : Nat) (data : List Word) (n : Nat) (s : State) : State :=
  hspMove n { sid := x.sid, op := hspOp d, rtag := hspTag d, ns := x.ns, id := 0, addr := a, data := data, left := 0 } (busFresh (hspHold x d s))

/-- READ. -/
def hspRead (p : Fin 2) (d : List Byte) : State → State :=
  hspRequest 0x10 false false false p d fun x b s =>
    let n := leAt b 4 2
    if b.length ≠ 6 ∨ n = 0 ∨ n > 64 then hspBad x d s
    else hspXferGo x d (leAt b 0 4) [] n s

/-- WRITE. -/
def hspWrite (p : Fin 2) (d : List Byte) : State → State :=
  hspRequest 0x11 false false false p d fun x b s =>
    let n := leAt b 4 2
    if n = 0 ∨ b.length ≠ 8 + 4 * n then hspBad x d s
    else hspXferGo x d (leAt b 0 4) ((List.range n).map fun i => BitVec.ofNat 32 (leAt b (8 + 4 * i) 4)) n s

/-- CHN: the command runs on port 1 with the session's world, after one that still waits there (R142, R460). -/
def hspChn (p : Fin 2) (d : List Byte) : State → State :=
  hspRequest 0x20 false false false p d fun x b s =>
    if b.length ≠ 32 then hspBad x d s
    else
      let cmd := Vector.ofFn fun (k : Fin 8) => BitVec.ofNat 32 (leAt b (4 * k.val) 4)
      let cmd := cmd.set 0 (if x.ns then cmd[0] ||| 0x100#32 else cmd[0] &&& ~~~0x100#32)
      let s := portFinish 1 (portGo 1 ((portFinish 1 s).modPort 1 fun q => { q with cmd := cmd }))
      hspDone x d (getf s.chn.ports[1].rsp[0] 0 8) (s.chn.ports[1].rsp.toList.flatMap wordBytes) s

/-- A mode request of a session: BUSY with COLLIDE while another is pending, else the session waits for its end (R66, R460). -/
def hspMode (x : Session) (d : List Byte) (req : State → State) (s : State) : State :=
  if s.sys.resPend then
    let s := req s
    hspDone x d rBusy (wordBytes (sysModeResWord s)) s
  else req (hspHold x d s)

/-- World of the session as a requester. -/
def sessReq (x : Session) : Requester := .hsp (sessWorld x)

/-- RECIPE. -/
def hspRecipe (p : Fin 2) (d : List Byte) : State → State :=
  hspRequest 0x21 false false false p d fun x b s =>
    if b.length ≠ 1 ∨ leAt b 0 1 > 15 then hspBad x d s else hspMode x d (selectRecipe (sessReq x) (leAt b 0 1)) s

/-- WATCH. -/
def hspWatch (p : Fin 2) (d : List Byte) : State → State :=
  hspRequest 0x22 false false false p d fun x b s => if b ≠ [] then hspBad x d s else hspMode x d (enterWatch (sessReq x)) s

/-- MAINT (R51). On an NS session it is refused REFUSED_WORLD before anything else, and SYS_MODERES reports it unless it still reports a
pending request (R46, R61, R66, R461, log entry 43). -/
def hspMaint (p : Fin 2) (d : List Byte) : State → State :=
  hspRequest 0x40 false false false p d fun x b s =>
    if x.ns ∧ s.sys.resPend then
      let s := enterMaint (sessReq x) s
      hspDone x d rWorld (wordBytes (sysModeResWord s)) s
    else if b ≠ [] ∧ !x.ns then hspBad x d s
    else hspMode x d (enterMaint (sessReq x)) s

/-- The status page (Table 16.4). -/
def statusPage (x : Session) (s : State) : List Byte :=
  let ns := sessWorld x = .NS
  wordBytes (sysModeWord s) ++ wordBytes (bootStatWord s) ++ wordBytes s.boot.safeId ++ wordBytes s.boot.imgId0 ++ wordBytes s.boot.imgId1 ++
    wordBytes (sysModeResWord s) ++ chestBytes s 0 16 ++ wordBytes (if ns then 0 else (readSaf s 0x54).getD 0) ++
    wordBytes (if ns ∧ !blockWritable s .NS 14 then 0 else (readSpm s 0x04).getD 0) ++ wordBytes ((readCabw s 0x00).getD 0) ++ wordBytes (rtcS s) ++
    List.replicate 8 0

/-- STATUS. -/
def hspStatus (p : Fin 2) (d : List Byte) : State → State :=
  hspRequest 0x30 false false false p d fun x b s => if b ≠ [] then hspBad x d s else hspDone x d rOk (statusPage x s) s

/-- CAPREAD: words of the unit's buffer in capture RAM, read with the session's world. -/
def hspCapread (p : Fin 2) (d : List Byte) : State → State :=
  hspRequest 0x31 false false false p d fun x b s =>
    let n := leAt b 4 2
    let word := leAt b 2 2
    if b.length ≠ 6 ∨ leAt b 0 1 > 3 ∨ n = 0 ∨ n > 256 then hspBad x d s
    else
      let u := s.cap[Fin.ofNat 4 (leAt b 0 1)]
      if hiddenUnit (sessWorld x) u then hspDone x d rWorld [] s
      else if u.st = 1 ∨ u.st = 2 then hspDone x d rBusy [] s
      else if u.st = 0 then hspDone x d rBadState [] s
      else if word < u.buf ∨ u.buf + u.len < word + n then hspBad x d s
      else hspXferGo x d (0x20100000 + 4 * word) [] n s

/-- TAGREAD (R580). -/
def hspTagread (p : Fin 2) (d : List Byte) : State → State :=
  hspRequest 0x32 false false false p d fun x b s =>
    let ofs := leAt b 0 2
    let n := leAt b 2 2
    if b.length ≠ 4 ∨ n = 0 ∨ ofs + n > 1024 then hspBad x d s else hspDone x d rOk (chestBytes s (0x2000 + ofs) n) s

/-- TAGWRITE: port 0's buffer is filled and GO is written (R575-R577). -/
def hspTagwrite (p : Fin 2) (d : List Byte) : State → State :=
  hspRequest 0x33 false false false p d fun x b s =>
    let ofs := leAt b 0 2
    if b.length ≠ 36 ∨ ofs % 32 ≠ 0 ∨ ofs ≥ 1024 then hspBad x d s
    else if s.chest.port[0].pend then hspDone x d rBusy [] (s.modTag 0 fun t => { t with collide := true })
    else
      let s := s.modTag 0 fun t => { t with buf := Vector.ofFn fun (k : Fin 8) => BitVec.ofNat 32 (leAt b (4 + 4 * k.val) 4) }
      let s := tagGo 0 (BitVec.ofNat 5 (ofs / 32)) x.ns (some (x.sid, hspTag d)) s
      if s.chest.port[0].pend then hspHold x d s else hspDone x d rBadState [] s

/-! ### Flash commands (R95, R461) -/

/-- A flash command starts: one runs at a time; the controller is unlocked by the first. -/
def flashStart (x : Session) (d : List Byte) (f : FlashCmd → FlashCmd) (s : State) : State :=
  if s.flash.run.isSome then hspDone x d rBusy [] s
  else
    let s := hspHold x d s
    { s with
      flash := { s.flash with unlocked := true, run := some (f { sid := x.sid, op := hspOp d, rtag := hspTag d }) }
      boot := { s.boot with csDriven := true, qspiDriven := true } }

/-- A request that is a flash command: refused too once MAINT_EN_N has gone high in this stay in LOCKOUT.MAINT (R71, R108). -/
def hspFlash (op : Nat) (p : Fin 2) (d : List Byte) (body : Session → List Byte → State → State) : State → State :=
  hspRequest op true true true p d fun x b s => if s.flash.barred then hspDone x d rMode [] s else body x b s

/-- FLASH_SEL. -/
def hspFlashSel (p : Fin 2) (d : List Byte) : State → State :=
  hspFlash 0x41 p d fun x b s =>
    if b.length ≠ 1 ∨ leAt b 0 1 > 1 then hspBad x d s else flashStart x d (fun c => { c with cs := decide (leAt b 0 1 = 1) }) s

/-- FLASH_ERASE. -/
def hspFlashErase (p : Fin 2) (d : List Byte) : State → State :=
  hspFlash 0x42 p d fun x b s =>
    if b.length ≠ 5 ∨ leAt b 4 1 > 1 then hspBad x d s
    else flashStart x d (fun c => { c with cs := s.flash.cs, addr := leAt b 0 4, count := leAt b 4 1 }) s

/-- FLASH_PROG. -/
def hspFlashProg (p : Fin 2) (d : List Byte) : State → State :=
  hspFlash 0x43 p d fun x b s =>
    if b.length ≠ 260 ∨ leAt b 0 4 % 256 ≠ 0 then hspBad x d s
    else flashStart x d (fun c => { c with cs := s.flash.cs, addr := leAt b 0 4, data := b.drop 4 }) s

/-- FLASH_READ. -/
def hspFlashRead (p : Fin 2) (d : List Byte) : State → State :=
  hspFlash 0x44 p d fun x b s =>
    if b.length ≠ 6 ∨ leAt b 4 2 = 0 ∨ leAt b 4 2 > 1024 then hspBad x d s
    else flashStart x d (fun c => { c with cs := s.flash.cs, addr := leAt b 0 4, count := leAt b 4 2 }) s

/-- The standard commands that a flash command sends (R95). -/
def flashSends (c : FlashCmd) (a4 : Bool) : List (List Byte) :=
  match c.op with
  | 0x42 => [[0x06], (if c.count = 0 then (0x20 : Byte) else 0xD8) :: flashAddr a4 c.addr, [0x05]]
  | 0x43 => [[0x06], (0x02 : Byte) :: flashAddr a4 c.addr ++ c.data, [0x05]]
  | 0x44 => [flashFastRead a4 c.addr]
  | _ => []

/-- What discovery refuses in a maintenance session: a clear quad-enable bit is set, not refused (R95). -/
def probeFail (f : FlashId) : Bool := (discoveryFail { f with qe := true }).isSome

/-- The command is answered and no command runs. -/
def flashAnswer (c : FlashCmd) (result : Nat) (payload : List Byte) (s : State) : State :=
  hspReply c.sid c.op result c.rtag payload { s with flash := { s.flash with run := none } }

/-- A command on a chip select that discovery has passed. -/
def flashFinish (c : FlashCmd) (id : Option FlashId) (data : List Byte) (sent : List (List Byte)) (s : State) : State :=
  let s := { s with flash := { s.flash with sent := sent ++ flashSends c s.flash.addr4 } }
  match c.op with
  | 0x41 => flashAnswer c rOk (beBytes 3 ((id.map FlashId.id).getD 0).toNat ++ [if s.flash.addr4 then 1 else 0] ++ leBytes 4 s.flash.density) s
  | 0x44 => flashAnswer c rOk (slice data 0 c.count) s
  | _ => flashAnswer c rOk [] s

/-- FLASH_COMMAND_COMPLETE: the flash reports completion, or 4 s have passed; discovery runs first where it has not passed on the chip
select. -/
def flashCommandComplete (done : Bool) (id : Option FlashId) (data : List Byte) (s : State) : State :=
  match s.flash.run with
  | none => s
  | some c =>
    if !done then flashAnswer c rBadState [] s
    else if s.flash.found ∧ c.op ≠ 0x41 then flashFinish c id data [] s
    else
      let f := id.getD { id := 0, sfdp := false, dw1 := 0, dw2 := 0, dw15 := none, qe := false }
      if probeFail f then
        flashAnswer c rResource [] { s with flash := { s.flash with cs := c.cs, found := false, sent := flashProbe true f } }
      else
        let s := { s with flash := { s.flash with cs := c.cs, found := true, addr4 := flash4Byte f, density := flashDensity f.dw2 } }
        flashFinish c (some f) data (flashProbe true f) s

/-! ### Keys, OTP, locks and reset -/

/-- KEY_WRITE (R125, R126). -/
def hspKeyWrite (p : Fin 2) (d : List Byte) : State → State :=
  hspRequest 0x45 true true true p d fun x b s =>
    if b.length ≠ 33 ∨ leAt b 0 1 > 5 then hspBad x d s
    else
      let e := b.drop 1 ++ [1, 0, 0, 0]
      hspDone x d rOk [] (memPut (0x30001000 + 64 * leAt b 0 1) (e ++ wordBytes (crc32c e) ++ List.replicate 24 0) s)

/-- A slot is ACTIVE as programmed (R87). -/
def slotActive (o : Otp) (n : Fin 4) : Bool := decide (o.newHash[n] ≠ 0) && !o.newRevoked.getLsbD n

/-- OTP_SLOT: program the hash of the key-store entry of an EMPTY slot, or revoke a slot while another stays ACTIVE (R87, R97). -/
def hspOtpSlot (p : Fin 2) (d : List Byte) : State → State :=
  hspRequest 0x46 true true true p d fun x b s =>
    if b.length ≠ 2 ∨ leAt b 0 1 > 3 ∨ leAt b 1 1 > 1 then hspBad x d s
    else
      let n : Fin 4 := Fin.ofNat 4 (leAt b 0 1)
      if leAt b 1 1 = 0 then
        match keyEntry s n.val with
        | some k =>
          if s.otp.newHash[n] ≠ 0 ∨ s.otp.newRevoked.getLsbD n then hspDone x d rBadState [] s
          else hspDone x d rOk [] { s with otp := { s.otp with newHash := s.otp.newHash.set n (beNat (sha256 k)) } }
        | none => hspDone x d rBadState [] s
      else if (fins 4).any fun (k : Fin 4) => decide (k ≠ n) && slotActive s.otp k then
        hspDone x d rOk [] { s with otp := { s.otp with newRevoked := s.otp.newRevoked ||| (1#4 <<< n.val) } }
      else hspDone x d rBadState [] s

/-- SECURE_LOCK (R131). -/
def hspSecureLock (p : Fin 2) (d : List Byte) : State → State :=
  hspRequest 0x47 true true true p d fun x b s =>
    if b ≠ [] then hspBad x d s else hspDone x d rOk [] { s with otp := { s.otp with secureLock := true } }

/-- TAG_UNLOCK (R577). -/
def hspTagUnlock (p : Fin 2) (d : List Byte) : State → State :=
  hspRequest 0x48 true true true p d fun x b s =>
    if b.length ≠ 1 ∨ leAt b 0 1 > 7 then hspBad x d s
    else hspDone x d rOk [] (tagSetLocks (tagLocks s &&& ~~~(1#8 <<< leAt b 0 1)) s)

/-- RESET: answered, then a full reset (R461). -/
def hspReset (p : Fin 2) (d : List Byte) : State → State :=
  hspRequest 0x4F true true false p d fun x b s =>
    if b ≠ [] then hspBad x d s
    else
      let s := hspDone x d rOk [] s
      let t := fullResetEnd .maint s
      { t with net := { t.net with hspTx := s.net.hspTx } }

/-! ### Meanings -/

def execHello (p : Fin 2) (d : List Byte) (s : State) : Res := .next (hello p d s)
def execClose (p : Fin 2) (d : List Byte) (s : State) : Res := .next (hspClose p d s)
def execHspSessionTimeout (sid : Nat) (s : State) : Res := .next (sessClose sid s)
def execRead (p : Fin 2) (d : List Byte) (s : State) : Res := .next (hspRead p d s)
def execWrite (p : Fin 2) (d : List Byte) (s : State) : Res := .next (hspWrite p d s)
def execChn (p : Fin 2) (d : List Byte) (s : State) : Res := .next (hspChn p d s)
def execRecipe (p : Fin 2) (d : List Byte) (s : State) : Res := .next (hspRecipe p d s)
def execWatch (p : Fin 2) (d : List Byte) (s : State) : Res := .next (hspWatch p d s)
def execMaint (p : Fin 2) (d : List Byte) (s : State) : Res := .next (hspMaint p d s)
def execStatus (p : Fin 2) (d : List Byte) (s : State) : Res := .next (hspStatus p d s)
def execCapread (p : Fin 2) (d : List Byte) (s : State) : Res := .next (hspCapread p d s)
def execTagread (p : Fin 2) (d : List Byte) (s : State) : Res := .next (hspTagread p d s)
def execTagwrite (p : Fin 2) (d : List Byte) (s : State) : Res := .next (hspTagwrite p d s)
def execFlashSel (p : Fin 2) (d : List Byte) (s : State) : Res := .next (hspFlashSel p d s)
def execFlashErase (p : Fin 2) (d : List Byte) (s : State) : Res := .next (hspFlashErase p d s)
def execFlashProg (p : Fin 2) (d : List Byte) (s : State) : Res := .next (hspFlashProg p d s)
def execFlashRead (p : Fin 2) (d : List Byte) (s : State) : Res := .next (hspFlashRead p d s)
def execFlashCommandComplete (done : Bool) (id : Option FlashId) (data : List Byte) (s : State) : Res := .next (flashCommandComplete done id data s)
def execKeyWrite (p : Fin 2) (d : List Byte) (s : State) : Res := .next (hspKeyWrite p d s)
def execOtpSlot (p : Fin 2) (d : List Byte) (s : State) : Res := .next (hspOtpSlot p d s)
def execSecureLock (p : Fin 2) (d : List Byte) (s : State) : Res := .next (hspSecureLock p d s)
def execTagUnlock (p : Fin 2) (d : List Byte) (s : State) : Res := .next (hspTagUnlock p d s)
def execReset (p : Fin 2) (d : List Byte) (s : State) : Res := .next (hspReset p d s)

end Sys2Proof.Machine
end

