-- ==== Sys2Proof/Machine/Modbus.lean ====
section
/-! DEFINITION. Machine/Modbus.lean: the Modbus TCP server (16_host_interfaces.md R463, R464, Table 16.5). Every access is NS. -/
namespace Sys2Proof.Machine
open Sys2Proof

/-- MODBUS_CONNECT: at most four connections; a fifth is reset. -/
def modbusConnect (conn : Nat) (p : Fin 2) (s : State) : State :=
  if !modbusOn s p ∨ !ethUp s p ∨ (s.net.mb.any fun x => decide (x.1 = conn)) then s
  else if s.net.mb.length ≥ 4 then { s with net := { s.net with mbTx := none } }
  else { s with net := { s.net with mb := s.net.mb ++ [(conn, p)] } }

/-- MODBUS_IDLE_TIMEOUT: 60 s without a request. -/
def modbusIdleTimeout (conn : Nat) (s : State) : State :=
  { s with net := { s.net with mb := s.net.mb.filter fun x => decide (x.1 ≠ conn) } }

/-- Answer a request with a PDU. -/
def mbAnswer (conn : Nat) (h : MbHead) (pdu : List Byte) (s : State) : State :=
  { s with net := { s.net with mbTx := some (conn, beBytes 2 h.tid.toNat ++ [0, 0] ++ beBytes 2 (pdu.length + 1) ++ [h.unit] ++ pdu) } }

/-- Answer with an exception. -/
def mbExcept (conn : Nat) (h : MbHead) (fn : Byte) (code : Nat) (s : State) : State := mbAnswer conn h [fn ||| 0x80#8, BitVec.ofNat 8 code] s

/-- The connection is open and the network domain takes requests. -/
def mbOpen (s : State) (conn : Nat) : Bool :=
  match s.net.mb.find? fun x => decide (x.1 = conn) with
  | some x => modbusOn s x.2 && ethUp s x.2
  | none => false

/-- A half of a 32-bit value, the high half first (R463). -/
def mbHalf (v : Word) (low : Bool) : Nat := if low then getf v 0 16 else getf v 16 16

/-- A register of a block as a non-secure read gives it; none where the block is S. -/
def mbSource (s : State) (blk o : Nat) : Option Word := if blockWritable s .NS blk then regRead s 4 .NS blk o else none

/-- An input register (Table 16.5); none where it is unmapped or its source is S. -/
def mbInput (s : State) (r : Nat) : Option Nat :=
  let pair (v : Option Word) : Option Nat := v.map fun v => mbHalf v (decide (r % 2 = 1))
  if r < 2 then pair (some (sysModeWord s))
  else if r < 4 then pair (some s.boot.safeId)
  else if r < 6 then pair (some (bootStatWord s))
  else if r < 8 then pair (mbSource s 14 0x04)
  else if r < 10 then pair (mbSource s 14 0x08)
  else if r < 12 then pair (mbSource s 14 0x14)
  else if r < 14 then pair (mbSource s 14 0x18)
  else if r < 16 then pair (some s.cab.fast)
  else if r < 32 then (mbSource s 12 (4 * (r - 16))).map fun v => getf v 0 16
  else if r < 40 then pair (mbSource s 13 (0x10 * ((r - 32) / 2)))
  else if r < 48 then (mbSource s 11 (0x10 * (r - 40))).map fun v => getf v 16 16
  else if r < 56 then pair (some s.le.board[Fin.ofNat 64 (28 + (r - 48) / 2)])
  else none

/-- A holding register (Table 16.5); none where it is unmapped or its source is S. -/
def mbHolding (s : State) (r : Nat) : Option Nat :=
  if r < 64 then some (mbHalf s.le.board[Fin.ofNat 64 (32 + r / 2)] (decide (r % 2 = 1)))
  else if r = 64 then (mbSource s 14 0x0C).map fun v => getf v 0 16
  else if r < 67 then (mbSource s 14 0x10).map fun v => mbHalf v (decide (r = 66))
  else none

/-- A read of registers: the quantity, then each register (R463, R464). -/
def mbRead (conn : Nat) (h : MbHead) (fn : Byte) (reg : State → Nat → Option Nat) (start count : BitVec 16) (s : State) : State :=
  if !mbOpen s conn then s
  else if count = 0 ∨ 125 < count.toNat then mbExcept conn h fn 3 s
  else match (List.range count.toNat).mapM fun i => reg s (start.toNat + i) with
    | none => mbExcept conn h fn 2 s
    | some vs => mbAnswer conn h ([fn, BitVec.ofNat 8 (2 * vs.length)] ++ vs.flatMap (beBytes 2)) s

/-- A holding register that a write may name: an external word in HOSTWORDS, or SPM where it is NS (R464). -/
def mbWritable (s : State) (r : Nat) : Bool :=
  if r < 64 then hostWord s (32 + r / 2) else decide (r < 67) && blockWritable s .NS 14

/-- A range covers whole 32-bit pairs (R464). -/
def mbWhole (start count : Nat) : Bool :=
  (List.range count).all fun i =>
    let r := start + i
    let other := if r < 64 then (if r % 2 = 0 then r + 1 else r - 1) else if r = 65 then 66 else if r = 66 then 65 else r
    decide (start ≤ other) && decide (other < start + count)

/-- Set one word or half budget that a register starts; the second register of a pair is set with the first. -/
def mbSet (start : Nat) (vs : List Nat) (s : State) (i : Nat) : State :=
  let r := start + i
  let pair := BitVec.ofNat 32 (vs.getD i 0 * 65536 + vs.getD (i + 1) 0)
  if r < 64 then (if r % 2 = 0 then boardSet (Fin.ofNat 64 (32 + r / 2)) pair s else s)
  else if r = 64 then hostBudWrite (BitVec.ofNat 16 (vs.getD i 0)) s
  else if r = 65 then { s with spm := { s.spm with hostMass := pair } }
  else s

/-- Check a write and apply it as one action, then answer. -/
def mbWrite (conn : Nat) (h : MbHead) (fn : Byte) (start : Nat) (vs : List Nat) (answer : List Byte) (s : State) : State :=
  if !(List.range vs.length).all fun i => mbWritable s (start + i) then mbExcept conn h fn 2 s
  else if !mbWhole start vs.length then mbExcept conn h fn 3 s
  else mbAnswer conn h answer ((List.range vs.length).foldl (mbSet start vs) s)

/-- WRITE_SINGLE_REGISTER: function 06 serves holding 0-64 (Table 16.5). -/
def mbSingle (conn : Nat) (h : MbHead) (reg value : BitVec 16) (s : State) : State :=
  if !mbOpen s conn then s
  else if 64 < reg.toNat then mbExcept conn h 6 2 s
  else mbWrite conn h 6 reg.toNat [value.toNat] ([6] ++ beBytes 2 reg.toNat ++ beBytes 2 value.toNat) s

/-- WRITE_MULTIPLE_REGISTERS: the byte count must fit the quantity. -/
def mbMultiple (conn : Nat) (h : MbHead) (start count : BitVec 16) (data : List Byte) (s : State) : State :=
  if !mbOpen s conn then s
  else if count = 0 ∨ 123 < count.toNat ∨ data.length ≠ 2 * count.toNat then mbExcept conn h 16 3 s
  else mbWrite conn h 16 start.toNat ((List.range count.toNat).map fun i => beNat (slice data (2 * i) 2)) ([16] ++ beBytes 2 start.toNat ++ beBytes 2 count.toNat) s

/-- MODBUS_OTHER_FUNCTION: any other code. -/
def mbOther (conn : Nat) (h : MbHead) (fn : Byte) (s : State) : State :=
  if !mbOpen s conn ∨ fn = 3 ∨ fn = 4 ∨ fn = 6 ∨ fn = 16 then s else mbExcept conn h fn 1 s

/-! ### Meanings -/

def execModbusConnect (conn : Nat) (p : Fin 2) (s : State) : Res := .next (modbusConnect conn p s)
def execModbusIdleTimeout (conn : Nat) (s : State) : Res := .next (modbusIdleTimeout conn s)
def execReadHoldingRegisters (conn : Nat) (h : MbHead) (start count : BitVec 16) (s : State) : Res := .next (mbRead conn h 3 mbHolding start count s)
def execReadInputRegisters (conn : Nat) (h : MbHead) (start count : BitVec 16) (s : State) : Res := .next (mbRead conn h 4 mbInput start count s)
def execWriteSingleRegister (conn : Nat) (h : MbHead) (reg value : BitVec 16) (s : State) : Res := .next (mbSingle conn h reg value s)
def execWriteMultipleRegisters (conn : Nat) (h : MbHead) (start count : BitVec 16) (data : List Byte) (s : State) : Res :=
  .next (mbMultiple conn h start count data s)
def execModbusOtherFunction (conn : Nat) (h : MbHead) (fn : Byte) (s : State) : Res := .next (mbOther conn h fn s)

end Sys2Proof.Machine
end

