-- ==== Sys2Proof/Machine/Transactions.lean ====
section
/-! DEFINITION. Machine/Transactions.lean: the rows of the fabric's transactions and power domains; a response that an HSP command waits for lets
that command go on (07_fabric_and_bench.md R195-R202, R217, R218; R460). -/
namespace Sys2Proof.Machine
open Sys2Proof

def execTransactionIssue (r : BusReq) (s : State) : Res := .next (transactionIssue r s)
def execTransactionResponse (id : Nat) (struck : List (Word × Bool)) (s : State) : Res := .next (hspResumes (transactionResponse id struck s))
def execTagReturn (id : Nat) (s : State) : Res := .next (hspResumes (tagReturn id s))
def execDomainPowerDown (d : Fin 4) (s : State) : Res := .next (hspResumes (domainPowerDown d (busFresh s)))
def execQuiesceTimeout (d : Fin 4) (written : List (Nat × Nat)) (s : State) : Res := .next (hspResumes (quiesceTimeout d written s))
def execDomainIsolate (d : Fin 4) (s : State) : Res := .next (domainIsolate d s)

end Sys2Proof.Machine
end

