-- ==== Sys2Proof/Machine/Dispatch.lean ====
section
/-! DEFINITION. Machine/Dispatch.lean: one arm per command. -/
namespace Sys2Proof.Machine
open Sys2Proof

def exec (i : Instr) (s : State) : Host.Outcome State Fault Refusal :=
  match i with
  | .upFrame lane frame => Sys2Proof.Machine.execUpFrame lane frame s
  | .downFrame lane frame part => Sys2Proof.Machine.execDownFrame lane frame part s
  | .deckRecordResend => Sys2Proof.Machine.execDeckRecordResend s
  | .deckRecordAck => Sys2Proof.Machine.execDeckRecordAck s
  | .hbdTimeout t => Sys2Proof.Machine.execHbdTimeout t s
  | .deckLost => Sys2Proof.Machine.execDeckLost s
  | .frameRateWindow count => Sys2Proof.Machine.execFrameRateWindow count s
  | .deckSleep => Sys2Proof.Machine.execDeckSleep s
  | .deckWake => Sys2Proof.Machine.execDeckWake s
  | .deckPowerUp => Sys2Proof.Machine.execDeckPowerUp s
  | .vdkFail => Sys2Proof.Machine.execVdkFail s
  | .carrierLoss bridge t => Sys2Proof.Machine.execCarrierLoss bridge t s
  | .clkDkLoss => Sys2Proof.Machine.execClkDkLoss s
  | .clkDkReturn => Sys2Proof.Machine.execClkDkReturn s
  | .selectRecipe by_ rcp => Sys2Proof.Machine.execSelectRecipe by_ rcp s
  | .enterWatch by_ => Sys2Proof.Machine.execEnterWatch by_ s
  | .enterMaint by_ => Sys2Proof.Machine.execEnterMaint by_ s
  | .recipeCreateChannels => Sys2Proof.Machine.execRecipeCreateChannels s
  | .lkrstPress failed fresh => Sys2Proof.Machine.execLkrstPress failed fresh s
  | .maintEnHigh => Sys2Proof.Machine.execMaintEnHigh s
  | .resetRelease bootsel dkpresent testN clocks otp => Sys2Proof.Machine.execResetRelease bootsel dkpresent testN clocks otp s
  | .flashDiscovery flash => Sys2Proof.Machine.execFlashDiscovery flash s
  | .imageHeaderCheck header => Sys2Proof.Machine.execImageHeaderCheck header s
  | .bodyRead body => Sys2Proof.Machine.execBodyRead body s
  | .imageCommit => Sys2Proof.Machine.execImageCommit s
  | .selftestDone => Sys2Proof.Machine.execSelftestDone s
  | .saveReadySet v => Sys2Proof.Machine.execSaveReadySet v s
  | .saveReadyClear v => Sys2Proof.Machine.execSaveReadyClear v s
  | .vsaveFull v => Sys2Proof.Machine.execVsaveFull v s
  | .capacitanceCheckDone v1 v2 => Sys2Proof.Machine.execCapacitanceCheckDone v1 v2 s
  | .chargeTimeout => Sys2Proof.Machine.execChargeTimeout s
  | .transactionIssue r => Sys2Proof.Machine.execTransactionIssue r s
  | .transactionResponse id struck => Sys2Proof.Machine.execTransactionResponse id struck s
  | .tagReturn id => Sys2Proof.Machine.execTagReturn id s
  | .registerWrite init w target value => Sys2Proof.Machine.execRegisterWrite init w target value s
  | .lmemCoreWrite w addr size value => Sys2Proof.Machine.execLmemCoreWrite w addr size value s
  | .statusWordWrite w record value => Sys2Proof.Machine.execStatusWordWrite w record value s
  | .boardWordWrite w n value => Sys2Proof.Machine.execBoardWordWrite w n value s
  | .fabSnapTake w => Sys2Proof.Machine.execFabSnapTake w s
  | .domainPowerDown domain => Sys2Proof.Machine.execDomainPowerDown domain s
  | .quiesceTimeout domain written => Sys2Proof.Machine.execQuiesceTimeout domain written s
  | .domainIsolate domain => Sys2Proof.Machine.execDomainIsolate domain s
  | .create c => Sys2Proof.Machine.execCreate c s
  | .arm c => Sys2Proof.Machine.execArm c s
  | .start c => Sys2Proof.Machine.execStart c s
  | .liftStart c => Sys2Proof.Machine.execLiftStart c s
  | .hold c => Sys2Proof.Machine.execHold c s
  | .release c => Sys2Proof.Machine.execRelease c s
  | .swap c => Sys2Proof.Machine.execSwap c s
  | .inject c => Sys2Proof.Machine.execInject c s
  | .injectStop c => Sys2Proof.Machine.execInjectStop c s
  | .capture c => Sys2Proof.Machine.execCapture c s
  | .captureStop c => Sys2Proof.Machine.execCaptureStop c s
  | .destroy c => Sys2Proof.Machine.execDestroy c s
  | .query c => Sys2Proof.Machine.execQuery c s
  | .frameTick => Sys2Proof.Machine.execFrameTick s
  | .stageEvaluate lane bench => Sys2Proof.Machine.execStageEvaluate lane bench s
  | .sampleDeadline slot => Sys2Proof.Machine.execSampleDeadline slot s
  | .sampleComplete lane => Sys2Proof.Machine.execSampleComplete lane s
  | .captureGap unit => Sys2Proof.Machine.execCaptureGap unit s
  | .comparatorCrossing bridge phase code => Sys2Proof.Machine.execComparatorCrossing bridge phase code s
  | .deadTimeElapsed bridge leg => Sys2Proof.Machine.execDeadTimeElapsed bridge leg s
  | .tminElapsed bridge sw => Sys2Proof.Machine.execTminElapsed bridge sw s
  | .bandWindowEnd bridge => Sys2Proof.Machine.execBandWindowEnd bridge s
  | .ntcRead bridge ohms t => Sys2Proof.Machine.execNtcRead bridge ohms t s
  | .blankingEnd bridge sw levels t => Sys2Proof.Machine.execBlankingEnd bridge sw levels t s
  | .desat bridge levels t => Sys2Proof.Machine.execDesat bridge levels t s
  | .overcurrent bridge phase code t => Sys2Proof.Machine.execOvercurrent bridge phase code t s
  | .dcLinkSample bridge value t => Sys2Proof.Machine.execDcLinkSample bridge value t s
  | .bridgeTripReport bridge => Sys2Proof.Machine.execBridgeTripReport bridge s
  | .stoeRaise bridge => Sys2Proof.Machine.execStoeRaise bridge s
  | .gateEnable bridge t => Sys2Proof.Machine.execGateEnable bridge t s
  | .stoInhibitTest bridge sw readOff => Sys2Proof.Machine.execStoInhibitTest bridge sw readOff s
  | .stoPathTest bridge sw => Sys2Proof.Machine.execStoPathTest bridge sw s
  | .safetyCycle m => Sys2Proof.Machine.execSafetyCycle m s
  | .carrierGapReport bridge => Sys2Proof.Machine.execCarrierGapReport bridge s
  | .safeInputAccept si => Sys2Proof.Machine.execSafeInputAccept si s
  | .sbc axis => Sys2Proof.Machine.execSbc axis s
  | .brakeApplyElapsed axis => Sys2Proof.Machine.execBrakeApplyElapsed axis s
  | .brakeReleaseElapsed axis => Sys2Proof.Machine.execBrakeReleaseElapsed axis s
  | .brakeFeedback axis => Sys2Proof.Machine.execBrakeFeedback axis s
  | .axisReset axis => Sys2Proof.Machine.execAxisReset axis s
  | .safAxcmdReset axis => Sys2Proof.Machine.execSafAxcmdReset axis s
  | .encCrosscheck axis => Sys2Proof.Machine.execEncCrosscheck axis s
  | .testPulseStart toOut => Sys2Proof.Machine.execTestPulseStart toOut s
  | .testPulseEnd levels => Sys2Proof.Machine.execTestPulseEnd levels s
  | .offPulseStart out => Sys2Proof.Machine.execOffPulseStart out s
  | .offPulseEnd readLow => Sys2Proof.Machine.execOffPulseEnd readLow s
  | .onPulseStart out => Sys2Proof.Machine.execOnPulseStart out s
  | .onPulseEnd readOk => Sys2Proof.Machine.execOnPulseEnd readOk s
  | .smLockstep => Sys2Proof.Machine.execSmLockstep s
  | .smRamEcc corrected => Sys2Proof.Machine.execSmRamEcc corrected s
  | .smRamScrub corrected uncorrectable => Sys2Proof.Machine.execSmRamScrub corrected uncorrectable s
  | .smRomCheck romOk crcOk => Sys2Proof.Machine.execSmRomCheck romOk crcOk s
  | .historyWrite => Sys2Proof.Machine.execHistoryWrite s
  | .spmAllocation => Sys2Proof.Machine.execSpmAllocation s
  | .powerCriticalClear => Sys2Proof.Machine.execPowerCriticalClear s
  | .loadRedAssert => Sys2Proof.Machine.execLoadRedAssert s
  | .loadRedRelease => Sys2Proof.Machine.execLoadRedRelease s
  | .reduceRampStep => Sys2Proof.Machine.execReduceRampStep s
  | .prefTrip => Sys2Proof.Machine.execPrefTrip s
  | .hostbudTimeout => Sys2Proof.Machine.execHostbudTimeout s
  | .spmHostbudWrite w kw => Sys2Proof.Machine.execSpmHostbudWrite w kw s
  | .liftReevaluate => Sys2Proof.Machine.execLiftReevaluate s
  | .liftHoldShort => Sys2Proof.Machine.execLiftHoldShort s
  | .hlFrameOrigin => Sys2Proof.Machine.execHlFrameOrigin s
  | .hlFramePass port frame => Sys2Proof.Machine.execHlFramePass port frame s
  | .hlPassEnd port frame => Sys2Proof.Machine.execHlPassEnd port frame s
  | .hlLinkLost => Sys2Proof.Machine.execHlLinkLost s
  | .droopUpdate => Sys2Proof.Machine.execDroopUpdate s
  | .droopLeave => Sys2Proof.Machine.execDroopLeave s
  | .hlPortDown port => Sys2Proof.Machine.execHlPortDown port s
  | .hlTokenTimeout => Sys2Proof.Machine.execHlTokenTimeout s
  | .hlBackupOrigin => Sys2Proof.Machine.execHlBackupOrigin s
  | .cabStart rom params accel => Sys2Proof.Machine.execCabStart rom params accel s
  | .cabSample m => Sys2Proof.Machine.execCabSample m s
  | .zero w tag => Sys2Proof.Machine.execZero w tag s
  | .tare w tag => Sys2Proof.Machine.execTare w tag s
  | .tareClear w tag => Sys2Proof.Machine.execTareClear w tag s
  | .record w tag => Sys2Proof.Machine.execRecord w tag s
  | .alibiRead w tag => Sys2Proof.Machine.execAlibiRead w tag s
  | .cabStatus w tag => Sys2Proof.Machine.execCabStatus w tag s
  | .cabCommandComplete => Sys2Proof.Machine.execCabCommandComplete s
  | .cabStabilityTimeout => Sys2Proof.Machine.execCabStabilityTimeout s
  | .cabPowerDown torn => Sys2Proof.Machine.execCabPowerDown torn s
  | .calswChange closed => Sys2Proof.Machine.execCalswChange closed s
  | .hTelegram bytes => Sys2Proof.Machine.execHTelegram bytes s
  | .cTelegram bytes => Sys2Proof.Machine.execCTelegram bytes s
  | .sTelegram bytes => Sys2Proof.Machine.execSTelegram bytes s
  | .wTelegram => Sys2Proof.Machine.execWTelegram s
  | .displayTimeout => Sys2Proof.Machine.execDisplayTimeout s
  | .notLegalClear cause => Sys2Proof.Machine.execNotLegalClear cause s
  | .xcabLoss => Sys2Proof.Machine.execXcabLoss s
  | .cabwPop w => Sys2Proof.Machine.execCabwPop w s
  | .foMeasure currents => Sys2Proof.Machine.execFoMeasure currents s
  | .foShort out hot => Sys2Proof.Machine.execFoShort out hot s
  | .foRetry out => Sys2Proof.Machine.execFoRetry out s
  | .foRetryReset out => Sys2Proof.Machine.execFoRetryReset out s
  | .foClear w mask => Sys2Proof.Machine.execFoClear w mask s
  | .openLoadObserve out opened => Sys2Proof.Machine.execOpenLoadObserve out opened s
  | .tachPulse fan width period => Sys2Proof.Machine.execTachPulse fan width period s
  | .fanSpinTimeout fan => Sys2Proof.Machine.execFanSpinTimeout fan s
  | .fanKickEnd fan => Sys2Proof.Machine.execFanKickEnd fan s
  | .fanTachTimeout fan rpm => Sys2Proof.Machine.execFanTachTimeout fan rpm s
  | .fanRecover fan rpm => Sys2Proof.Machine.execFanRecover fan rpm s
  | .aiScan codes => Sys2Proof.Machine.execAiScan codes s
  | .encCountEdge port back both close => Sys2Proof.Machine.execEncCountEdge port back both close s
  | .absFrame port ready data err ended => Sys2Proof.Machine.execAbsFrame port ready data err ended s
  | .gpioEdge pin level => Sys2Proof.Machine.execGpioEdge pin level s
  | .spiDataWrite w value => Sys2Proof.Machine.execSpiDataWrite w value s
  | .spiFrameComplete data => Sys2Proof.Machine.execSpiFrameComplete data s
  | .uartDataWrite w value => Sys2Proof.Machine.execUartDataWrite w value s
  | .uartByteSent => Sys2Proof.Machine.execUartByteSent s
  | .uartByteReceived value => Sys2Proof.Machine.execUartByteReceived value s
  | .i2cGo w ctl => Sys2Proof.Machine.execI2cGo w ctl s
  | .i2cComplete ack data => Sys2Proof.Machine.execI2cComplete ack data s
  | .ethFrameReceive port frame => Sys2Proof.Machine.execEthFrameReceive port frame s
  | .ethLinkChange port up ref => Sys2Proof.Machine.execEthLinkChange port up ref s
  | .dmaDescriptorComplete port => Sys2Proof.Machine.execDmaDescriptorComplete port s
  | .hello port datagram => Sys2Proof.Machine.execHello port datagram s
  | .close port datagram => Sys2Proof.Machine.execClose port datagram s
  | .hspSessionTimeout sid => Sys2Proof.Machine.execHspSessionTimeout sid s
  | .read port datagram => Sys2Proof.Machine.execRead port datagram s
  | .write port datagram => Sys2Proof.Machine.execWrite port datagram s
  | .chn port datagram => Sys2Proof.Machine.execChn port datagram s
  | .recipe port datagram => Sys2Proof.Machine.execRecipe port datagram s
  | .watch port datagram => Sys2Proof.Machine.execWatch port datagram s
  | .maint port datagram => Sys2Proof.Machine.execMaint port datagram s
  | .status port datagram => Sys2Proof.Machine.execStatus port datagram s
  | .capread port datagram => Sys2Proof.Machine.execCapread port datagram s
  | .tagread port datagram => Sys2Proof.Machine.execTagread port datagram s
  | .tagwrite port datagram => Sys2Proof.Machine.execTagwrite port datagram s
  | .flashSel port datagram => Sys2Proof.Machine.execFlashSel port datagram s
  | .flashErase port datagram => Sys2Proof.Machine.execFlashErase port datagram s
  | .flashProg port datagram => Sys2Proof.Machine.execFlashProg port datagram s
  | .flashRead port datagram => Sys2Proof.Machine.execFlashRead port datagram s
  | .flashCommandComplete done id data => Sys2Proof.Machine.execFlashCommandComplete done id data s
  | .keyWrite port datagram => Sys2Proof.Machine.execKeyWrite port datagram s
  | .otpSlot port datagram => Sys2Proof.Machine.execOtpSlot port datagram s
  | .secureLock port datagram => Sys2Proof.Machine.execSecureLock port datagram s
  | .tagUnlock port datagram => Sys2Proof.Machine.execTagUnlock port datagram s
  | .reset port datagram => Sys2Proof.Machine.execReset port datagram s
  | .modbusConnect conn port => Sys2Proof.Machine.execModbusConnect conn port s
  | .modbusIdleTimeout conn => Sys2Proof.Machine.execModbusIdleTimeout conn s
  | .readHoldingRegisters conn head start count => Sys2Proof.Machine.execReadHoldingRegisters conn head start count s
  | .readInputRegisters conn head start count => Sys2Proof.Machine.execReadInputRegisters conn head start count s
  | .writeSingleRegister conn head reg value => Sys2Proof.Machine.execWriteSingleRegister conn head reg value s
  | .writeMultipleRegisters conn head start count data => Sys2Proof.Machine.execWriteMultipleRegisters conn head start count data s
  | .modbusOtherFunction conn head function => Sys2Proof.Machine.execModbusOtherFunction conn head function s
  | .canHeartbeat ctl => Sys2Proof.Machine.execCanHeartbeat ctl s
  | .joystickFrame ctl data => Sys2Proof.Machine.execJoystickFrame ctl data s
  | .joystickTimeout => Sys2Proof.Machine.execJoystickTimeout s
  | .tankFrame ctl tank data => Sys2Proof.Machine.execTankFrame ctl tank data s
  | .tankTimeout tank => Sys2Proof.Machine.execTankTimeout tank s
  | .canBusoffRecovery ctl => Sys2Proof.Machine.execCanBusoffRecovery ctl s
  | .xsysLoss => Sys2Proof.Machine.execXsysLoss s
  | .xaonSwitch => Sys2Proof.Machine.execXaonSwitch s
  | .xaonStartTimeout => Sys2Proof.Machine.execXaonStartTimeout s
  | .xaonLoss => Sys2Proof.Machine.execXaonLoss s
  | .refclkProbe edges => Sys2Proof.Machine.execRefclkProbe edges s
  | .vinQualified => Sys2Proof.Machine.execVinQualified s
  | .railStart => Sys2Proof.Machine.execRailStart s
  | .bringUpFail rail => Sys2Proof.Machine.execBringUpFail rail s
  | .bringUpRetry => Sys2Proof.Machine.execBringUpRetry s
  | .fullReset => Sys2Proof.Machine.execFullReset s
  | .railFault rail => Sys2Proof.Machine.execRailFault rail s
  | .vinOv v => Sys2Proof.Machine.execVinOv v s
  | .vinLow v => Sys2Proof.Machine.execVinLow v s
  | .vfoLow v => Sys2Proof.Machine.execVfoLow v s
  | .tempRead temps => Sys2Proof.Machine.execTempRead temps s
  | .sagConfirm v => Sys2Proof.Machine.execSagConfirm v s
  | .saveCapture => Sys2Proof.Machine.execSaveCapture s
  | .saveRecordWrite ok => Sys2Proof.Machine.execSaveRecordWrite ok s
  | .saveComplete v vmin => Sys2Proof.Machine.execSaveComplete v vmin s
  | .aonLoss vbat => Sys2Proof.Machine.execAonLoss vbat s
  | .holdupLow => Sys2Proof.Machine.execHoldupLow s
  | .sagResume => Sys2Proof.Machine.execSagResume s
  | .resumeHoldupTimeout => Sys2Proof.Machine.execResumeHoldupTimeout s
  | .saveHome w axis => Sys2Proof.Machine.execSaveHome w axis s
  | .positionVerifyTimeout port => Sys2Proof.Machine.execPositionVerifyTimeout port s
  | .watchCommit => Sys2Proof.Machine.execWatchCommit s
  | .tokenReturnTimeout => Sys2Proof.Machine.execTokenReturnTimeout s
  | .watchWindowEnd => Sys2Proof.Machine.execWatchWindowEnd s
  | .watchSample codes si temps => Sys2Proof.Machine.execWatchSample codes si temps s
  | .wakePin pin level => Sys2Proof.Machine.execWakePin pin level s
  | .rtcAlarm => Sys2Proof.Machine.execRtcAlarm s
  | .wakeStart => Sys2Proof.Machine.execWakeStart s
  | .wakeReady pll => Sys2Proof.Machine.execWakeReady pll s
  | .rtcWrite w value => Sys2Proof.Machine.execRtcWrite w value s
  | .tagWrite port w block => Sys2Proof.Machine.execTagWrite port w block s
  | .tagWriteComplete => Sys2Proof.Machine.execTagWriteComplete s
  | .tagLock port w seg => Sys2Proof.Machine.execTagLock port w seg s
  | .lifetimeWrite => Sys2Proof.Machine.execLifetimeWrite s
  | .hbuPause => Sys2Proof.Machine.execHbuPause s
  | .maintEnLow => Sys2Proof.Machine.execMaintEnLow s
  | .lkrstPressBegin low => Sys2Proof.Machine.execLkrstPressBegin low s
  | .prefTripRelease => Sys2Proof.Machine.execPrefTripRelease s
  | .vfoReturn v => Sys2Proof.Machine.execVfoReturn v s
  | .encZEdge port => Sys2Proof.Machine.execEncZEdge port s
  | .brakeDriverWatchdog => Sys2Proof.Machine.execBrakeDriverWatchdog s
  | .canBusError ctl transmit primary => Sys2Proof.Machine.execCanBusError ctl transmit primary s
  | .vinBelow10v => Sys2Proof.Machine.execVinBelow10v s
  | .bootSagRestart => Sys2Proof.Machine.execBootSagRestart s

end Sys2Proof.Machine
end

