-- ==== Sys2Proof/Machine/Tick.lean ====
section
/-! DEFINITION. Machine/Tick.lean: the idle microsecond (log entry 2; R498). -/
namespace Sys2Proof.Machine
open Sys2Proof

/-- The measurements that run by themselves: the VCORE current each millisecond (PMU_RAIL.ICORE), and XAON against CLK_SYS each second while
CLK_AON runs on it (CLK_AONERR). What they give is open: a free value (Tables 17.6, 18.7; log entries 4 and 87). -/
def measureTick (s : State) : State :=
  if s.now % 1000 ≠ 0 ∨ !vcoreOn s then s
  else
    let (x, s) := takeFree s
    let s := { s with pmu := { s.pmu with icore := getf x 0 12 } }
    if s.now % 1000000 ≠ 0 ∨ s.clk.aonFb then s else { s with clk := { s.clk with ppm := (x.extractLsb' 16 16).toInt, ppmValid := true } }

/-- One microsecond without a command: the Channel Manager takes its turn (R142), the clock of the model and the RTC advance (RTC_TRIM in
0.1 ppm, Table 17.3), the measurements, the minutes with VCORE on (Table 21.4), and a duty that waited for the period after a stretched pulse applies (R446). -/
def idleTick (s0 : State) : State :=
  let s := managerTurn s0
  let s := { s with
    now := s.now + 1
    aon := { s.aon with rtcAcc := s.aon.rtcAcc + (10000000 + (clkNow s).trim).toNat }
    life := { s.life with opUs := s.life.opUs + (if vcoreOn s then 1 else 0) } }
  measureTick (foPeriods s)

end Sys2Proof.Machine
end

