-- ==== Sys2Proof/Safety.lean ====
section
/-! DEFINITION. Safety.lean: what the statements call a safe state: the outputs of LOCKOUT, the entry to it for a code, the invariants that
every command keeps, what a command leaves alone, and what each command needs to have its effect, with the mark of that effect (Table 11.2, R48-R50,
R68, R195-R199, R36). -/
namespace Sys2Proof.Machine
open Sys2Proof

/-- Every drive output is off: no carrier, no safe output, no axis in use outside STO (Table 11.2). -/
def DriveOff (s : State) : Prop :=
  s.saf.ka = 0 ∧ s.saf.so = 0 ∧ ∀ n : Fin 4, s.saf.ax[n].st = .unused ∨ s.saf.ax[n].st = .sto

/-- LOCKOUT.FAULT with the drive outputs off, and the code among the recorded causes (R48, R54, R68). -/
def LockedFor (c : Code) (s : State) : Prop :=
  s.sys.mode = .lockoutFault ∧ DriveOff s ∧ ∃ x ∈ s.saf.causes, x.code = c

/-- An access of an initiator's pool takes its tag at once: one is free, nobody waits for it, and no transaction in flight has the next number. -/
def TagReady (s : State) (p : Fin 8) : Prop :=
  0 < s.fab.pools[p].free ∧ s.fab.pools[p].waiting = [] ∧ ∀ x ∈ s.fab.flight, x.id ≠ s.fab.nextId

/-- The state in which the write of one command is checked and performed: its transaction holds its tag (R195, R196). -/
def tagHeld (s : State) (i : BitVec 4) (w : World) (a : Word) (size : Nat) (v : Word) : State :=
  txnSend (txnMake i w .write a size [v] s) (busNumber (busFresh s))

/-- The fabric after an access of one command that is answered: its number is used up, its answer is the only response, a core that did not get
DONE has its access-fault exception, and the tag is back (R195, R197). -/
def fabAnswered (s : State) (i : BitVec 4) (r : Resp) : Fab :=
  { s.fab with
    nextId := s.fab.nextId + 1, resps := [(s.fab.nextId, (r, []))], excs := if isCore i && decide (r ≠ .done) then [(i, .write)] else [] }

/-- What recording a cause and entering LOCKOUT leave alone: the queue, the configuration in force, memory and the OTP bits, the deck,
the Loop Engine and the fabric, and the blocks that no lockout writes. -/
def LockoutFrame (s t : State) : Prop :=
  t.pending = s.pending ∧ t.now = s.now ∧ t.freeCtr = s.freeCtr ∧ t.img = s.img ∧ t.otp = s.otp ∧
  t.mem = s.mem ∧ t.dk = s.dk ∧ t.le = s.le ∧ t.fab = s.fab ∧ t.save = s.save ∧
  t.chest = s.chest ∧ t.clk = s.clk ∧ t.pmu = s.pmu ∧ t.spm = s.spm ∧ t.cab = s.cab ∧
  t.ain = s.ain ∧ t.enc = s.enc ∧ t.gpio = s.gpio ∧ t.ser = s.ser ∧ t.can = s.can ∧
  t.flash = s.flash

/-- The mode is one from which a lockout-class fault enters LOCKOUT: BOOT or OPERATE (R48, R69). -/
def FaultEnters (s : State) : Prop := s.sys.mode.isBoot = true ∨ s.sys.mode = .operate

/-- Tags of pool k in use by transactions in flight or in return (R195, R199). -/
def tagsOut (k : Fin 8) (s : State) : Nat :=
  s.fab.flight.countP (fun x => decide (x.pool = k)) + s.fab.ret.countP fun x => decide (x.pool = k)

/-- The size of each tag pool (Table 7.3). -/
def poolSize (k : Fin 8) : Nat := (#v[12, 16, 8, 40, 32, 4, 4, 12] : Vector Nat 8)[k]

/-- The books of the fabric tags balance: in every pool the free tags and those out make its size (R195, R200). -/
def TagBooks (s : State) : Prop := ∀ k : Fin 8, s.fab.pools[k].free + tagsOut k s = poolSize k

/-- The fixed bits of the block world table read 0 (R36). -/
def BwtFixed (s : State) : Prop := s.sec.bwt &&& ~~~bwtMask = 0

/-- The memory keeps its canonical form. -/
def MemWf (s : State) : Prop := Memory.wf s.mem = true

/-- The manager serves a command that comes in at once: the core domain is on and no port has a command waiting (R142). -/
def PortsIdle (s : State) : Prop := domDown s 1 = false ∧ ∀ p : Fin 4, s.chn.ports[p].pend = false

/-- A command on a port is taken and passes the checks of R152 before its own: the ports are idle, the mode admits it, the handle is current, the
channel's world admits it, and no recipe change runs. -/
def CallTaken (s : State) (op : Nat) (c : ChnCall) (i : Fin 256) : Prop :=
  PortsIdle s ∧ modeAllows s.sys.mode op c.port = true ∧ current s c.handle = some i ∧
    (callWorld c = .NS → s.chn.slots[i].world = .NS) ∧ s.sys.switching = false

/-- No channel counts as a consumer of ship power, whatever its class. -/
def NoConsumers (s : State) : Prop := ∀ i : Fin 256, s.chn.slots[i].startPend = false ∧ s.chn.slots[i].st ≠ .running

/-- Nothing runs that a power-down waits for or aborts: no lane evaluates a sample and no transaction is in flight; the always-on domain is on (R201,
R211). -/
def Settled (s : State) : Prop := (∀ l : Fin 4, s.le.lanes[l].work = []) ∧ s.fab.flight = [] ∧ s.fab.dom[0] = .on

/-- Ship power is not critical, of itself or on the ring (R344, R374). -/
def Calm (s : State) : Prop := s.spm.crit = false ∧ s.hl.crit = false

/-- A lane evaluates a channel whose next stage is d and no sample waits for a lane; the Loop Engine domain is on, and no word of the stage's
record has an uncorrectable error. -/
def StageReady (s : State) (l : Fin 4) (i : Fin 256) (w : Sample) (d : StageDesc) : Prop :=
  s.fab.dom[2] = .on ∧ s.le.queue = [] ∧ s.le.lanes[l].work.head? = some i ∧ s.chn.slots[i].smp = some w ∧
    (slotTemplate s s.chn.slots[i]).stages[w.next]? = some d ∧ MemWf s ∧
    ∀ x ∈ s.fab.hard, x < recAddr (recOf s.chn.slots[i] w.next) ∨ recAddr (recOf s.chn.slots[i] w.next) + 96 ≤ x

/-- A node that is not the keeper, that has joined without CFGERR or DUP, receives a good frame of a cycle that it has not yet forwarded and
in which its own slot is not FRESH. -/
def HlPass (s : State) (c : HlCfg) (b : List Byte) : Prop :=
  s.img.hl = some c ∧ s.hl.on = true ∧ c.node ≠ c.keeper ∧ frameGood c b = true ∧ s.hl.joined = true ∧
    s.hl.frame.map (fun f => fr16 f 0) ≠ some (fr16 b 0) ∧ slotFresh b c.node.val = false ∧ s.hl.cfgErr = false ∧ s.hl.dup = false

/-- A core of a world may command the running island of a TWV900-MW and no command is pending (R411). -/
def CabFree (s : State) (w : World) : Prop :=
  s.fab.dom[1] = .on ∧ (w = .S ∨ s.sec.bwt.getLsbD 9 = true) ∧ TagReady s (idPool (coreInit w) w) ∧ isMn s = false ∧ s.cab.run = true ∧
    s.cab.pend = false

/-- A core of a world may write a register of a block in the core domain, and its access takes its tag at once (R36, R196). -/
def CoreMayWrite (s : State) (w : World) (b : Nat) : Prop :=
  s.fab.dom[1] = .on ∧ (w = .S ∨ s.sec.bwt.getLsbD b = true) ∧ TagReady s (idPool (coreInit w) w)

/-- Only the island and its proxy have changed, and the access of the core has its response (R195, R197). -/
def CabOnly (s t : State) (w : World) : Prop := t = { s with cab := t.cab, fab := fabAnswered s (coreInit w) .done }

/-- The proxy shows the answer of a command with its operation, tag and code, and no command is pending (Table 14.8). -/
def CabAnswered (c : Cab) (op : Nat) (tag : Byte) (code : Nat) : Prop :=
  c.pend = false ∧ c.cmd = none ∧ c.ansValid = true ∧ c.ansCode = code ∧ c.ansTag = tag.toNat ∧ c.ansOp = op

/-- A fan in use that is commanded at least CHECK_DUTY and that no field output supplies (R431-R433). -/
def FanOn (s : State) (n : Fin 8) : Prop :=
  s.img.fan[n].use = true ∧ s.img.fan[n].checkDuty ≤ fanCommand s n ∧ s.img.fan[n].supplyFo = none

/-- Axis n as one safety cycle measures it, with the governing limit and the ceiling of that cycle (R285, R296). -/
def measured (s : State) (m : SmSample) (n : Fin 4) (c : AxisCfg) : Axis :=
  let a := s.saf.ax[n].measure c s.saf m
  { a with gov := slsGov c s.saf.siLvl, slsCeil := (slsCeiling c a (slsGov c s.saf.siLvl)).1 }

/-- The SLS ceiling of that cycle in 1/2000 counts/ms, none with no limit selected (R296, R311). -/
def cycleCeiling (s : State) (m : SmSample) (n : Fin 4) (c : AxisCfg) : Option Nat :=
  (slsCeiling c (s.saf.ax[n].measure c s.saf m) (slsGov c s.saf.siLvl)).2

/-- The safety monitor runs: it has not failed and the core domain is on (R324). -/
def MonitorRuns (s : State) : Prop := s.saf.halted = false ∧ s.fab.dom[1] = .on

/-- A safety cycle in which no axis demands or fails and no homing request waits (R286, R296-R298). -/
def QuietCycle (s : State) (m : SmSample) : Prop :=
  MonitorRuns s ∧ s.saf.homing = none ∧ ∀ n c, axisCfg s n = some c →
    inputDems c s.saf.siLvl = [] ∧ cycleDems c (measured s m n c) (cycleCeiling s m n c) = [] ∧
      cycleFaults n c (measured s m n c) (cycleCeiling s m n c) = []

/-- Only axis n is being released, at the given step of Procedure 11.1. -/
def OnlyReleasing (s : State) (n : Fin 4) (k : Nat) : Prop :=
  s.saf.ax[n].st = .releasing ∧ s.saf.ax[n].relStep = k ∧ ∀ i : Fin 4, i ≠ n → s.saf.ax[i].st ≠ .releasing

/-- Everything but the safety monitor, the brake counters and the channels is as before. -/
def SafetyOnly (s t : State) : Prop := t = { s with saf := t.saf, life := t.life, chn := t.chn }

/-- Only axis n has changed, and it is now a. -/
def AxisBecomes (s t : State) (n : Fin 4) (a : Axis) : Prop :=
  t = { s with saf := { s.saf with ax := t.saf.ax } } ∧ t.saf.ax[n] = a ∧ ∀ i : Fin 4, i ≠ n → t.saf.ax[i] = s.saf.ax[i]

/-- The conditions of an axis reset (R300): no STO_IN or SS1_IN input is low; a verified position lies within the SLP limits; |v| is at or below SSTILL;
the brakes are applied with matching feedback. -/
def AxisResetOk (s : State) (n : Fin 4) (c : AxisCfg) : Prop :=
  (∀ k : Fin 16, (c.stoIn ||| c.ss1In).getLsbD k = true → s.saf.siLvl.getLsbD k = true) ∧
  (c.pos1.isSome = true → s.saf.ax[n].unver = false → c.slpLo ≤ s.saf.ax[n].p ∧ s.saf.ax[n].p ≤ c.slpHi) ∧
  s.saf.ax[n].v.natAbs ≤ c.sstill ∧ s.saf.bkH &&& s.saf.bkL &&& c.brakes = 0 ∧
  (∀ k, c.bkfbIn = some k → s.saf.siLvl.getLsbD k = false)

/-- A core of the world that owns tag port p may write its registers, and its access takes its tag at once (Table 4.5). -/
def TagPortWrite (s : State) (p : Fin 2) : Prop := s.fab.dom[1] = .on ∧ TagReady s (idPool (coreInit (tagWorld p)) (tagWorld p))

/-- Only the Ethernet port p has changed, and it is now e. -/
def PortBecomes (s t : State) (p : Fin 2) (e : EthPort) : Prop :=
  t = { s with net := { s.net with eth := t.net.eth } } ∧ t.net.eth[p] = e ∧ ∀ q : Fin 2, q ≠ p → t.net.eth[q] = s.net.eth[q]

/-- An IPv4 packet that the stack of a port takes: to its MAC and address own, without options or fragments, with a good header checksum, carrying m by
protocol q (R452). -/
def IpTaken (s : State) (p : Fin 2) (own : Nat) (f m : List Byte) (q : Nat) : Prop :=
  portIp s p = some own ∧ ethUp s p = true ∧ etherType f = 0x0800 ∧ toMe s p f = true ∧ 34 ≤ f.length ∧ slice f 14 1 = [0x45] ∧
    inetSum (slice f 14 20) = 0 ∧ 20 ≤ beNat (slice f 16 2) ∧ 14 + beNat (slice f 16 2) ≤ f.length ∧ beNat (slice f 20 2) % 16384 = 0 ∧
    beNat (slice f 30 4) = own ∧ beNat (slice f 23 1) = q ∧ m = (f.drop 34).take (beNat (slice f 16 2) - 20)

/-- The HSP row of a datagram's OP (Table 16.3). -/
def hspRow (p : Fin 2) (d : List Byte) : Option Instr :=
  match hspOp d with
  | 0x02 => some (.close p d)
  | 0x10 => some (.read p d)
  | 0x11 => some (.write p d)
  | 0x20 => some (.chn p d)
  | 0x21 => some (.recipe p d)
  | 0x22 => some (.watch p d)
  | 0x30 => some (.status p d)
  | 0x31 => some (.capread p d)
  | 0x32 => some (.tagread p d)
  | 0x33 => some (.tagwrite p d)
  | 0x40 => some (.maint p d)
  | 0x41 => some (.flashSel p d)
  | 0x42 => some (.flashErase p d)
  | 0x43 => some (.flashProg p d)
  | 0x44 => some (.flashRead p d)
  | 0x45 => some (.keyWrite p d)
  | 0x46 => some (.otpSlot p d)
  | 0x47 => some (.secureLock p d)
  | 0x48 => some (.tagUnlock p d)
  | 0x4F => some (.reset p d)
  | _ => none

/-- A request of a session that the port receives whole, with a good HMAC, KEY and counter (R456, R458). -/
def HspTaken (s : State) (p : Fin 2) (d : List Byte) (x : Session) : Prop :=
  ethUp s p = true ∧ hspForm d = true ∧ sessOf s (hspSid d) = some x ∧ x.ns = hspNs d ∧ hspAuth x.key d = true ∧ x.ctr < hspCtr d ∧ x.rctr < 4294967295

/-- The state once the session has taken the request. -/
def hspTook (s : State) (p : Fin 2) (d : List Byte) (x : Session) : State := s.modSess x.sid fun y => { y with ctr := hspCtr d, port := p }

/-- The request is answered on its port with a result and a payload, under the session key and the next response number (R457, R458). -/
def HspAnswered (t : State) (p : Fin 2) (d : List Byte) (x : Session) (result : Nat) (payload : List Byte) : Prop :=
  t.net.hspTx = some (p, hspDatagram x.key x.ns x.sid (x.rctr + 1) (hspOp d) result (hspTag d) payload) ∧
  sessOf t x.sid = some { x with ctr := hspCtr d, port := p, rctr := x.rctr + 1 }

/-- The transaction of the one word that a READ or WRITE of a session moves (R460). -/
def hspTxn (s : State) (x : Session) (k : Access) (a : Nat) (data : List Word) : Txn := txnMake 4 (sessWorld x) k (BitVec.ofNat 32 a) 4 data s

/-- The state in which that word is checked and moved: the session waits, and the transaction holds its tag (R195, R196). -/
def hspHolding (s : State) (p : Fin 2) (d : List Byte) (x : Session) (t : Txn) : State :=
  txnSend t (busNumber (busFresh (hspHold x d (hspTook s p d x))))

/-- The session waits for what its request has started; nothing has been sent. -/
def HspWaits (s t : State) (p : Fin 2) (d : List Byte) (x : Session) : Prop :=
  t.net.hspTx = s.net.hspTx ∧ sessOf t x.sid = some { x with ctr := hspCtr d, port := p, wait := some { op := hspOp d, rtag := hspTag d } }

/-- A maintenance command may run: the session is keyed S, the mode is LOCKOUT.MAINT and MAINT_EN_N is low (R461). -/
def MaintOpen (s : State) (x : Session) : Prop := x.ns = false ∧ s.sys.mode = .lockoutMaint ∧ maintPin s = true

/-- The command words of a CHN payload, with CMD0.WORLD set to the session's world (R460). -/
def chnWords (ns : Bool) (b : List Byte) : Vector Word 8 :=
  Vector.ofFn fun (k : Fin 8) =>
    if k = 0 then (if ns then BitVec.ofNat 32 (leAt b 0 4) ||| 0x100#32 else BitVec.ofNat 32 (leAt b 0 4) &&& 0xFFFFFEFF#32)
    else BitVec.ofNat 32 (leAt b (4 * k.val) 4)

/-- Every tag is free or out, and a request waits in its own pool (R195, R196, R200). -/
def TagsKept (s : State) : Prop := TagBooks s ∧ ∀ k : Fin 8, ∀ t ∈ s.fab.pools[k].waiting, t.pool = k

/-- Leg p of a bridge that switches it (R256, R259, R264): HI and LO are never on together; a switch that is on is the state asked for, and the leg
waits for a turn-on with both of its switches off; with RUN 0 or the bridge not released both are off and no change waits. -/
def LegApart (b : DkBridge) (p : Fin 3) : Prop :=
  ¬(b.sw[hiSw p].on = true ∧ b.sw[loSw p].on = true) ∧
  (b.sw[hiSw p].on = true → b.want[p] = true ∧ b.pend[p] = none) ∧
  (b.sw[loSw p].on = true → b.want[p] = false ∧ b.pend[p] = none) ∧
  (∀ h, b.pend[p] = some h → b.sw[hiSw p].on = false ∧ b.sw[loSw p].on = false ∧ b.want[p] = h) ∧
  (b.run = false ∨ b.released = false → b.sw[hiSw p].on = false ∧ b.sw[loSw p].on = false ∧ b.pend[p] = none ∧ b.defer[p] = none)

/-- Leg W of the store bridge (R256, R269, R270): the HYSC stage never drives it, B3WH stays off, and the chopper switch is on only while the bridge is
released. -/
def ChopperLeg (b : DkBridge) : Prop :=
  (b.run = true → b.noW = true) ∧ b.sw[hiSw 2].on = false ∧ b.pend[(2 : Fin 3)] = none ∧ b.defer[(2 : Fin 3)] = none ∧
  (b.released = false → b.sw[loSw 2].on = false)

/-- The legs of every bridge (R259). -/
def LegInterlock (s : State) : Prop :=
  ∀ n : Fin 4, (∀ p : Fin 3, (n = 3 ∧ p = 2 ∧ s.dk.cfg.b3store = true) ∨ LegApart s.dk.br[n] p) ∧
    (n = 3 → s.dk.cfg.b3store = true → ChopperLeg s.dk.br[n])

/-- What each command needs of the state and its operands, and of nothing else, to have the effect that the spec gives it: here one form of it,
where it has several. -/
def CommandReady (s : State) : Instr → Prop
  | .upFrame lane f => countsErrors s = true ∧ frameOk 160 f = true ∧ frameType 160 f = 1 ∧ s.trst.up[lane].last = some (frameSeq 160 f - 1) ∧
    popcount16 (s.trst.up[lane].hist <<< 1) < 3 ∧ ∀ d : Fin 2, popcount16 s.trst.dnHist[d] < 3
  | .downFrame lane f _ => s.dk.clk = true ∧ s.dk.powered = true ∧ frameOk 80 f = true ∧ frameType 80 f = 1 ∧
    s.dk.dnLast[lane] ≠ some (frameSeq 80 f)
  | .deckRecordResend => s.trst.recSent = true ∧ s.trst.linkUp = true ∧ mayAdopt s = true
  | .deckRecordAck => s.dk.got.isSome = true
  | .hbdTimeout _ => s.dk.powered = true ∧ s.dk.asleep = false
  | .deckLost => s.trst.adopted = true ∧ s.trst.sleep = false
  | .frameRateWindow n => s.trst.adopted = true ∧ s.trst.sleep = false ∧ (n < 980 ∨ 1020 < n)
  | .deckSleep => s.trst.sleepSent = true ∧ s.dk.powered = true ∧ s.dk.clk = true
  | .deckWake => s.trst.wakeSent = true ∧ s.dk.powered = true ∧ s.dk.clk = true
  | .deckPowerUp => s.dk.powered = false
  | .vdkFail => True
  | .carrierLoss _ _ => s.dk.powered = true
  | .clkDkLoss => True
  | .clkDkReturn => s.dk.powered = true ∧ s.dk.clk = false
  | .selectRecipe q r => q = .core .S ∧ s.sys.resPend = false ∧ ∃ x, recipeAt s r.toNat = some x ∧
    recipeRefusal (modeTake actSelect r.toNat s) .S r.toNat true = none ∧ goingSlots (modeTake actSelect r.toNat s) x = []
  | .enterWatch q => q = .core .S ∧ s.sys.resPend = false ∧ watchRefusal s = none ∧ s.trst.adopted = true ∧ s.trst.sleep = false
  | .enterMaint q => q = .hsp .S ∧ s.sys.resPend = false ∧ s.sys.mode = .lockoutFault ∧ maintLow s = true
  | .recipeCreateChannels => ∃ c r, s.sys.change = some c ∧ c.step = 1 ∧ c.asked = true ∧ changeFreed s c = true ∧ recipeAt s c.rcp = some r ∧
    r.chans = []
  | .lkrstPress x f => x = [] ∧ f = [] ∧ (∃ t0, s.saf.pressAt = some t0 ∧ 500000 ≤ s.now - t0 ∧ s.now - t0 ≤ 3000000) ∧
    s.sys.mode = .lockoutFault ∧ s.sys.entry = enFault ∧ s.sys.lkFrom = .operate ∧ (∀ c ∈ s.saf.causes, codeClass c.code = 2 ∧
    c.code ≠ cDeckLost) ∧ (∀ i : Fin 256, s.chn.slots[i].autoPend = false)
  | .maintEnHigh => True
  | .resetRelease b _ tn ck ok => s.sys.mode = .bootPowerup ∧ s.pmu.released = false ∧ s.pmu.rails = .up ∧ b ≠ 3 ∧ tn = true ∧ ck = true ∧
    ok = true
  | .flashDiscovery f => inPhase .discovery s = true ∧ discoveryFail f = none
  | .imageHeaderCheck h => inPhase .header s = true ∧ h.length = 256 ∧ headerFail s h = none
  | .bodyRead b => inPhase .body s = true ∧ b.length = u32 s.boot.header 8 - 256 ∧ sha256 b = slice s.boot.header 0x28 32
  | .imageCommit => inPhase .commit s = true ∧ ∃ p, commitCheck s.boot.header (s.boot.header ++ s.boot.body) = .ok p
  | .selftestDone => s.sys.mode = .bootSelftest ∧ s.boot.halted = false
  | .saveReadySet v => s.save.resuming = false ∧ 4200 ≤ v.toNat
  | .saveReadyClear v => v.toNat < 4150
  | .vsaveFull _ => s.sys.mode = .bootCharge ∧ s.boot.halted = false ∧ s.save.ready = true ∧ s.boot.capCheck = false
  | .capacitanceCheckDone v w => s.sys.mode = .bootCharge ∧ s.boot.halted = false ∧ s.boot.capCheck = true ∧ s.save.ready = true ∧
    s.img.mode = none ∧ w.toNat < v.toNat ∧ (v.toNat - w.toNat) * 100 = 50000 ∧ (∀ i : Fin 256, s.chn.slots[i].autoPend = false)
  | .chargeTimeout => s.sys.mode = .bootCharge ∧ s.boot.halted = false
  | .transactionIssue r => r.init ≠ .jtag ∧ txnRefused s (txnOf r s.fab.nextId) = none ∧ 0 < s.fab.pools[(txnOf r s.fab.nextId).pool].free ∧
    s.fab.pools[(txnOf r s.fab.nextId).pool].waiting = []
  | .transactionResponse n l => ∃ x, s.fab.flight.find? (fun y => decide (y.id = n)) = some x ∧ l = [] ∧ x.kind = .read ∧ x.size = 4 ∧
    target x.addr.toNat = .sram ∧ x.addr.toNat % 4 = 0 ∧ x.init ≠ 6 ∧ memWorldCheck s x.world .read x.addr.toNat = .ok ∧ x.dma = none ∧
    (∀ y ∈ s.net.xfers, y.id ≠ n) ∧ x.addr.toNat ∉ s.fab.hard ∧ x.addr.toNat ∉ s.fab.soft
  | .tagReturn n => ∃ x, s.fab.ret.find? (fun y => decide (y.id = n)) = some x ∧ s.fab.pools[x.pool].waiting = []
  | .registerWrite i w x _ => (i = .appCore ∧ x = .csr 0x7C0) ∨ (i = .secureCore ∧ w = .S ∧ x = .addr 0x40030000 ∧ s.fab.dom[1] = .on ∧
    TagReady s 0 ∧ s.sec.lock = false)
  | .lmemCoreWrite w a n _ => n = 4 ∧ target a.toNat = .lmem ∧ (∃ r o, lmemRec a.toNat = some (r, o) ∧ o < 0x40) ∧ a.toNat % 4 = 0 ∧
    lmemWritable s a.toNat = true ∧ w = .S ∧ s.fab.dom[1] = .on ∧ s.fab.dom[2] = .on ∧ TagReady s 0
  | .statusWordWrite w r _ => (recOwner s r.val).isSome = true ∧ w = .S ∧ s.fab.dom[1] = .on ∧ s.fab.dom[2] = .on ∧ TagReady s 0 ∧ MemWf s
  | .boardWordWrite w n _ => hostWord s n.val = true ∧ s.fab.dom[1] = .on ∧ s.fab.dom[2] = .on ∧ TagReady s (idPool (coreInit w) w)
  | .fabSnapTake w => w = .S ∧ s.fab.dom[1] = .on ∧ TagReady s 0
  | .domainPowerDown d => d ≠ 0 ∧ s.fab.dom[d] = .on
  | .quiesceTimeout d _ => s.fab.dom[d] = .quiescing ∧ (∀ x ∈ s.fab.flight, x.kind ≠ .write ∧ x.dma = none ∧ ∀ y ∈ s.net.xfers, y.id ≠ x.id)
  | .domainIsolate d => s.fab.dom[d] = .quiescing ∧ (∀ x ∈ s.fab.flight ++ s.fab.ret, txnIn d x = false)
  | .create c => PortsIdle s ∧ s.sys.mode = .operate ∧ s.sys.switching = false ∧ getf c.w[0] 16 8 = 0 ∧ ∃ p,
    createPlan s (callWorld c) (getf c.w[0] 0 8) (getf c.w[0] 8 8) (getb c.w[0] 24) (some []) [] = .ok p
  | .arm c => ∃ i, CallTaken s opArm c i ∧ s.chn.slots[i].st = .created
  | .start c => ∃ i, CallTaken s opStart c i ∧ (s.chn.slots[i].st = .armed ∨ s.chn.slots[i].st = .held) ∧ getb c.w[0] 0 = false ∧
    isDrive s s.chn.slots[i] = false ∧ s.chn.slots[i].bridges = 0 ∧ 2 < (slotTemplate s s.chn.slots[i]).pclass ∧ NoConsumers s ∧ Calm s
  | .liftStart c => ∃ (i : Fin 256) (g : LiftCfg) (r v : Nat), CallTaken s opStart c i ∧
    (s.chn.slots[i].st = .armed ∨ s.chn.slots[i].st = .held) ∧ s.img.lift = some g ∧ profileBad s s.chn.slots[i] c = none ∧ s.spm.lift = none ∧
    s.chn.slots[i].axis = some g.axis ∧ s.saf.ax[g.axis].st = .released ∧ s.trst.adopted = true ∧ powerBarred s s.chn.slots[i] = false ∧
    (r = rOk ∨ r = rCurtailed) ∧ liftAdmit (spmAlloc (startMark i s)) g (liftOf s g i c) (spmAlloc (startMark i s)).chn.slots[i].grant = (r, (0,
    v))
  | .hold c => ∃ i, CallTaken s opHold c i ∧ s.chn.slots[i].st = .running
  | .release c => ∃ i, CallTaken s opRelease c i ∧ s.chn.slots[i].st = .faulted
  | .swap c => ∃ i, CallTaken s opSwap c i ∧ getf c.w[0] 0 2 = 2 ∧
    (s.chn.slots[i].st = .created ∨ s.chn.slots[i].st = .armed ∨ s.chn.slots[i].st = .faulted)
  | .inject c => ∃ i, CallTaken s opInject c i ∧ (s.chn.slots[i].st = .running ∨ s.chn.slots[i].st = .held) ∧
    injBadWord (slotTemplate s s.chn.slots[i]) c = none ∧ kvGet (getf c.w[0] 0 4) s.chn.slots[i].inj = none ∧ getf c.w[0] 4 4 ≠ 15 ∧
    tuneOk s s.chn.slots[i] = true ∧ (mag (sInt c.w[1]) : Int) ≤ sInt (bankWord s (recOf s.chn.slots[i] (getf c.w[0] 0 4)) s.chn.slots[i].bankB 0)
  | .injectStop c => getf c.w[0] 4 4 = 15 ∧ ∃ i, CallTaken s opInject c i ∧ (s.chn.slots[i].st = .running ∨ s.chn.slots[i].st = .held) ∧
    injBadWord (slotTemplate s s.chn.slots[i]) c = none ∧ (kvGet (getf c.w[0] 0 4) s.chn.slots[i].inj).isSome = true
  | .capture c => ∃ i, CallTaken s opCapture c i ∧ s.chn.slots[i].st ≠ .draining ∧ capBadWord (slotTemplate s s.chn.slots[i]) c = none ∧
    bufWritable s s.chn.slots[i].world c.w[2].toNat c.w[3].toNat = true ∧ (∀ k : Fin 4, s.cap[k].st ≠ 1 ∧ s.cap[k].st ≠ 2)
  | .captureStop c => ∃ (i : Fin 256) (k : Fin 4), CallTaken s opCapture c i ∧ s.chn.slots[i].st ≠ .draining ∧ getf c.w[0] 0 2 = k.val ∧
    getf c.w[0] 8 4 = 0xF ∧ s.cap[k].slot = i ∧ (s.cap[k].st = 1 ∨ s.cap[k].st = 2)
  | .destroy c => ∃ i, CallTaken s opDestroy c i ∧ s.chn.slots[i].destroyPend = false ∧
    (s.chn.slots[i].st = .created ∨ s.chn.slots[i].st = .armed ∨ s.chn.slots[i].st = .faulted)
  | .query c => c.handle ≠ 0 ∧ ∃ i, CallTaken s opQuery c i
  | .frameTick => s.fab.dom[2] = .on ∧ s.save.active = true ∧ (∀ p : Fin 4, s.chn.ports[p].pend = false)
  | .stageEvaluate l _ => ∃ i w d, StageReady s l i w d
  | .sampleDeadline i => (s.chn.slots[i].smp).isSome = true
  | .sampleComplete l => ∃ i w r, s.fab.dom[2] = .on ∧ s.le.lanes[l].work = i :: r ∧ s.chn.slots[i].smp = some w ∧
    (slotTemplate s s.chn.slots[i]).stages.length ≤ w.next ∧ s.chn.slots[i].st = .running ∧ (∀ d ∈ (slotTemplate s s.chn.slots[i]).stages,
    d.type ≠ .xfer ∧ d.type ≠ .hysc) ∧ (slotTemplate s s.chn.slots[i]).sup.plModel = 0xFF ∧ (slotTemplate s s.chn.slots[i]).sup.feRef = 0xFF
  | .captureGap k => s.cap[k].rec_.isSome = true
  | .comparatorCrossing _ _ _ => True
  | .deadTimeElapsed b p => s.dk.clk = true ∧ s.dk.br[b].pend[p] = some true ∧ s.dk.br[b].sw[hiSw p].tmin = false
  | .tminElapsed b k => s.dk.cfg.b3store = false ∧ s.dk.br[b].deadDone[swLeg k] = false ∧ s.dk.br[b].vsel = false ∧
    s.dk.br[b].defer[swLeg k] = some true ∧ s.dk.br[b].dem[swLeg k] ≠ .rise
  | .bandWindowEnd b => s.dk.clk = true ∧ s.dk.br[b].winOn = true
  | .ntcRead b n _ => s.dk.clk = true ∧ s.dk.powered = true ∧ s.dk.acked = true ∧ s.dk.br[b].released = true ∧ s.dk.br[b].fault = false ∧
    s.dk.cfg.ntcTrip[b] ≠ 0 ∧ n = 0 ∧ s.dk.br[b].ntcCnt = 2
  | .blankingEnd b k l _ => s.dk.clk = true ∧ s.dk.br[b].released = true ∧ s.dk.br[b].fault = false ∧ l.getLsbD k = true
  | .desat b _ _ => s.dk.br[b].released = false ∧ s.dk.br[b].fault = false
  | .overcurrent b _ c _ => s.dk.clk = true ∧ s.dk.powered = true ∧ s.dk.acked = true ∧ s.dk.br[b].fault = false ∧
    (2048 + s.dk.cfg.oc[b] < c.toNat ∨ c.toNat + s.dk.cfg.oc[b] < 2048)
  | .dcLinkSample b v _ => s.dk.clk = true ∧ s.dk.powered = true ∧ s.dk.acked = true ∧ b ≠ 3 ∧ s.dk.br[b].fault = false ∧
    dcCode s.dk.cfg.dcOv[b] < v.toNat ∧ s.dk.br[b].ovCnt = 1 ∧ s.dk.cfg.dcUv[b] = 0
  | .bridgeTripReport b => s.dk.trip[b] = true ∧ s.trst.adopted = true ∧ FaultEnters s
  | .stoeRaise b => relCond s b = true ∧ s.saf.ka.getLsbD b = true ∧ s.dk.br[b].testHold = false
  | .gateEnable b _ => relCond s b = true ∧ s.dk.br[b].stoe = true ∧ s.dk.br[b].released = false ∧ s.dk.br[b].run = false ∧ s.dk.br[b].flt = 0
  | .stoInhibitTest b k r => inhibitTestable s b k = true ∧ r = false ∧ FaultEnters s
  | .stoPathTest b _ => s.dk.br[b].released = true ∧ FaultEnters s
  | .safetyCycle _ => MonitorRuns s ∧ s.saf.homing = none
  | .carrierGapReport b => (∃ n : Fin 4, s.saf.ax[n].relBridges.getLsbD b = true ∧ s.saf.ax[n].relStep = 3 ∧ ∀ i : Fin 4, i ≠ n →
    s.saf.ax[i].relBridges.getLsbD b = false) ∧ s.dk.br[b].testHold = true ∧ s.dk.br[b].gapSeen = true
  | .safeInputAccept k => MonitorRuns s ∧ siMasked s k = false
  | .sbc n => ∃ c, axisCfg s n = some c ∧ s.saf.ax[n].st = .ss1 ∧ 2 * c.sstillT ≤ s.saf.ax[n].stillCyc
  | .brakeApplyElapsed n => (axisCfg s n).isSome = true ∧ s.saf.ax[n].st = .braking
  | .brakeReleaseElapsed n => (axisCfg s n).isSome = true ∧ s.saf.ax[n].st = .releasing ∧ s.saf.ax[n].relStep = 4 ∧ s.saf.ax[n].latch = false ∧
    s.save.active = false ∧ (∀ b : Fin 4, s.saf.ax[n].relBridges.getLsbD b = true → s.trst.px[b].released = true)
  | .brakeFeedback n => FaultEnters s ∧ ∃ (c : AxisCfg) (k : Fin 16), axisCfg s n = some c ∧ c.bkfbIn = some k ∧
    s.saf.siLvl.getLsbD k ≠ brakesOn c s
  | .axisReset n => s.saf.ax[n].st = .sto ∧ ∃ (c : AxisCfg) (t0 : Nat), axisCfg s n = some c ∧ s.saf.ax[n].rstHighAt = some t0 ∧
    t0 + 100000 ≤ s.now ∧ s.now ≤ t0 + 3000000 ∧ AxisResetOk s n c
  | .safAxcmdReset n => s.saf.ax[n].st = .sto ∧ ∃ c : AxisCfg, axisCfg s n = some c ∧ c.swRst = true ∧ AxisResetOk s n c
  | .encCrosscheck n => diagOn s = true ∧ ∃ c : AxisCfg, axisCfg s n = some c ∧ c.xcRatio = 0 ∧ c.pos2 = none
  | .testPulseStart _ => diagOn s = true ∧ s.saf.toPulse = none
  | .testPulseEnd v => ∃ j, s.saf.toPulse = some j ∧ ∀ (k : Fin 16) (i : Fin 4), s.img.safeIo.tpMap[k] = some i →
    i = j ∨ s.saf.siLvl.getLsbD k = true → v.getLsbD k = decide (i ≠ j)
  | .offPulseStart o => diagOn s = true ∧ s.saf.offPulse = none ∧ s.saf.onPulse = none ∧ ∃ k : Fin 4, o = .so k ∧ s.saf.so.getLsbD k = true
  | .offPulseEnd r => r = true ∧ ∃ k : Fin 4, s.saf.offPulse = some (.so k)
  | .onPulseStart o => diagOn s = true ∧ s.saf.offPulse = none ∧ s.saf.onPulse = none ∧ s.save.active = false ∧ ∃ k : Fin 4, o = .so k ∧
    s.saf.so.getLsbD k = false ∧ s.img.safeIo.onpEn.getLsbD k = true
  | .onPulseEnd r => r = true ∧ s.saf.onPulse.isSome = true
  | .smLockstep => diagOn s = true ∧ FaultEnters s
  | .smRamEcc c => diagOn s = true ∧ c = true
  | .smRamScrub _ b => diagOn s = true ∧ b = false
  | .smRomCheck r _ => diagOn s = true ∧ r = false ∧ FaultEnters s
  | .historyWrite => s.saf.hist ≠ [] ∧ MemWf s
  | .spmAllocation => s.img.spm.isSome = true ∧ critNow s = false
  | .powerCriticalClear => s.spm.crit = true ∧ critNow s = false
  | .loadRedAssert => s.img.spm.isSome = true ∧ s.spm.loadRed = false ∧ NoConsumers s
  | .loadRedRelease => True
  | .reduceRampStep => NoConsumers s ∧ isKeeper s = false ∧ ∃ c a k, s.img.spm = some c ∧ s.spm.ramp = some (a, k) ∧ k < c.redRamp
  | .prefTrip => s.img.spm.isSome = true
  | .hostbudTimeout => NoConsumers s ∧ isKeeper s = false ∧ ∃ c, s.img.spm = some c ∧ c.source = 1
  | .spmHostbudWrite w _ => NoConsumers s ∧ isKeeper s = false ∧ CoreMayWrite s w 14 ∧ ∃ c, s.img.spm = some c ∧ c.source = 1
  | .liftReevaluate => ∃ g l, s.img.lift = some g ∧ s.spm.lift = some l ∧ (liftH s g l = 0 ∨ liftLive s l = false)
  | .liftHoldShort => ∃ l a, s.spm.lift = some l ∧ axisCfg s l.axis = some a ∧ s.spm.liftSt = 3 ∧ 2 * a.sstillT ≤ s.saf.ax[l.axis].stillCyc ∧
    s.saf.ax[l.axis].st = .released
  | .hlFrameOrigin => NoConsumers s ∧ s.hl.on = true ∧ s.hl.cfgErr = false ∧ s.hl.dup = false ∧ ∃ c p, s.img.hl = some c ∧ s.img.spm = some p ∧
    c.node = c.keeper ∧ c.ringId < 65536 ∧ c.nnodes ≤ 8
  | .hlFramePass _ b => (∃ c, HlPass s c b) ∧ NoConsumers s ∧ s.hl.leaving = false
  | .hlPassEnd p b => p = 0 ∧ s.hl.on = true ∧ s.hl.fold1 = false ∧ ∃ c, s.img.hl = some c ∧ c.node = c.keeper ∧ frameGood c b = true
  | .hlLinkLost => s.hl.on = true ∧ s.hl.link = true ∧ ∃ c, s.img.hl = some c ∧ c.role ≠ 2
  | .droopUpdate => s.hl.droop = true ∧ ∃ c, s.img.hl = some c ∧ c.droop = 0
  | .droopLeave => s.hl.droop = true ∧ s.hl.freshRun = 8
  | .hlPortDown p => p = 0 ∧ s.hl.on = true ∧ s.hl.fold0 = false
  | .hlTokenTimeout => s.img.hl.isSome = true ∧ s.hl.link = false
  | .hlBackupOrigin => s.hl.on = true ∧ s.hl.link = false ∧ s.hl.cfgErr = false ∧ s.hl.dup = false ∧ ∃ c, s.img.hl = some c ∧ c.node ≠ c.keeper ∧
    c.ringId < 65536
  | .cabStart _ _ _ => isMn s = false ∧ s.cab.run = false
  | .cabSample _ => s.cab.run = true
  | .zero w _ => CabFree s w ∧ s.cab.regArg = 0 ∧ s.cab.causes = 0 ∧ s.cab.par.tare = 0 ∧ s.cab.stable = true ∧
    50 * (s.cab.raw - s.cab.zero0.getD 0).natAbs ≤ s.cab.par.maxMg
  | .tare w _ => CabFree s w ∧ s.cab.regArg = 0 ∧ s.cab.causes = 0 ∧ s.cab.stable = true ∧ 0 < s.cab.gross ∧ s.cab.gross ≤ s.cab.par.maxMg
  | .tareClear w _ => CabFree s w ∧ s.cab.regArg = 0
  | .record w _ => CabFree s w ∧ s.cab.regArg = 0 ∧ s.cab.causes = 0 ∧ s.cab.noDisp = false ∧ s.cab.stable = true ∧ s.cab.overload = false ∧
    s.cab.underload = false
  | .alibiRead w _ => CabFree s w ∧ (s.cab.findRecord s.cab.regArg.toNat).isSome = true
  | .cabStatus w _ => CabFree s w ∧ s.cab.regArg = 0
  | .cabCommandComplete => s.cab.run = true ∧ s.cab.stable = true ∧ s.cab.causes = 0 ∧ s.cab.par.tare = 0 ∧ (∃ k, s.cab.cmd = some k ∧ k.op = 1) ∧
    50 * (s.cab.raw - s.cab.zero0.getD 0).natAbs ≤ s.cab.par.maxMg
  | .cabStabilityTimeout => s.cab.cmd.isSome = true
  | .cabPowerDown b => s.cab.run = true ∧ b = false
  | .calswChange _ => s.cab.run = true
  | .hTelegram b => s.cab.run = true ∧ hRequest b = some 0
  | .cTelegram b => s.cab.run = true ∧ s.cab.calsw = true ∧ s.cab.par.audit < 65535 ∧ ∃ q v p, cRequest b = some (some (q, v)) ∧
    s.cab.par.setParam q v = some p
  | .sTelegram b => s.cab.run = true ∧ s.cab.calsw = true ∧ s.cab.par.audit < 65535 ∧ sRequest b = some none
  | .wTelegram => s.cab.run = true ∧ s.cab.causes ≠ 0
  | .displayTimeout => s.cab.run = true
  | .notLegalClear k => s.cab.run = true ∧ k ≠ 0 ∧ k ≠ 2 ∧ k ≠ 3 ∧ k ≠ 7 ∧ s.cab.cond.getLsbD k = false
  | .xcabLoss => s.cab.run = true
  | .cabwPop w => CoreMayWrite s w 9 ∧ s.cab.fifo ≠ [] ∧ s.cab.hold = []
  | .foMeasure _ => True
  | .foShort n h => (s.fio.out[n].st = 1 ∨ s.fio.out[n].st = 2) ∧ (h = true ∨ inInrush s n = false) ∧ s.sys.mode ≠ .watch
  | .foRetry n => s.fio.out[n].st = 3 ∧ s.sys.mode ≠ .watch
  | .foRetryReset n => s.fio.out[n].st = 1 ∨ s.fio.out[n].st = 2
  | .foClear w _ => CoreMayWrite s w 10 ∧ w = .S
  | .openLoadObserve n b => b = true ∧ s.img.fo[n].mode ≠ 0 ∧ s.fio.vfoLow = false ∧ s.sys.mode ≠ .watch ∧
    s.fio.out[n].shortNow s.img.fo[n] s.now = false ∧ openMethod s.img.fo[n] s.fio.out[n] ≠ 0 ∧ s.fio.out[n].openCnt = 2 ∧
    s.fio.out[n].opened = false
  | .tachPulse n x _ => FanOn s n ∧ 50 ≤ x ∧ (s.fan[n].st = .spinUp ∨ s.fan[n].st = .kick)
  | .fanSpinTimeout n => FanOn s n ∧ s.fan[n].st = .spinUp ∧ s.fan[n].kicks < 3
  | .fanKickEnd n => FanOn s n ∧ s.fan[n].st = .kick
  | .fanTachTimeout n v => FanOn s n ∧ s.fan[n].st = .running ∧ v.toNat < s.img.fan[n].minRpm
  | .fanRecover n v => FanOn s n ∧ s.img.spm = none ∧ (s.fan[n].st = .stall ∨ s.fan[n].st = .tachLost) ∧ s.img.fan[n].minRpm ≤ v.toNat
  | .aiScan _ => coreRuns s = true ∧ s.img.spm = none
  | .encCountEdge p _ x y => s.img.enc[p].inc = true ∧ coreRuns s = true ∧ x = false ∧ y = false
  | .absFrame p r _ e x => s.img.enc[p].abs = true ∧ coreRuns s = true ∧ s.img.enc[p].errBit = false ∧ s.save.verify = [] ∧ r = true ∧ e = false ∧
    x = true
  | .gpioEdge n _ => s.gpio.dir.getLsbD n = false
  | .spiDataWrite w _ => CoreMayWrite s w 25 ∧ s.ser.spiBusy = false
  | .spiFrameComplete _ => s.ser.spiBusy = true ∧ getf s.ser.spiCtl 2 2 = 1
  | .uartDataWrite w _ => CoreMayWrite s w 25 ∧ s.ser.utx.length < 16
  | .uartByteSent => s.ser.utx ≠ []
  | .uartByteReceived _ => s.ser.urx.length < 16
  | .i2cGo w _ => CoreMayWrite s w 25 ∧ s.ser.i2cBusy = false
  | .i2cComplete _ _ => s.ser.i2cBusy = true
  | .ethFrameReceive p f => (portIp s p).isSome = true ∧ ethUp s p = true ∧ etherType f ≠ 0x0806 ∧ etherType f ≠ 0x0800
  | .ethLinkChange _ _ _ => s.fab.dom[3] = .on
  | .dmaDescriptorComplete p => s.fab.dom[3] ≠ .off ∧ s.net.eth[p].dma.isSome = true
  | .hello p d => hspOp d = 1 ∧ ethUp s p = true ∧ hspForm d = true ∧ (∃ k, s.boot.psk[if hspNs d then (1 : Fin 2) else 0] = some k ∧
    hspAuth k d = true) ∧ hspSid d = 0 ∧ hspCtr d = 0 ∧ hspLen d = 16 ∧ s.net.sess.length < 4 ∧ s.net.xfers.length < 4294967000
  | .close p d => ∃ x, HspTaken s p d x ∧ hspOp d = 0x02 ∧ x.wait = none
  | .hspSessionTimeout _ => True
  | .read p d => ∃ x b o, HspTaken s p d x ∧ hspOp d = 0x10 ∧ x.wait = none ∧ (hspPay d).length = 6 ∧ leAt (hspPay d) 4 2 = 1 ∧
    target (leAt (hspPay d) 0 4) = .periph b o ∧ tagFree s 4 = true ∧ pdFault s 4 (leAt (hspPay d) 0 4) = false ∧
    regDecodeFault (hspHolding s p d x (hspTxn s x .read (leAt (hspPay d) 0 4) [])) .read b o 4 = false ∧
    regWorldCheck (hspHolding s p d x (hspTxn s x .read (leAt (hspPay d) 0 4) [])) 4 (sessWorld x) .read b o = .ok
  | .write p d => ∃ x b o, HspTaken s p d x ∧ hspOp d = 0x11 ∧ x.wait = none ∧ (hspPay d).length = 12 ∧ leAt (hspPay d) 4 2 = 1 ∧
    target (leAt (hspPay d) 0 4) = .periph b o ∧ tagFree s 4 = true ∧ pdFault s 4 (leAt (hspPay d) 0 4) = false ∧
    regDecodeFault (hspHolding s p d x (hspTxn s x .write (leAt (hspPay d) 0 4) [BitVec.ofNat 32 (leAt (hspPay d) 8 4)])) .write b o 4 = false ∧
    regWorldCheck (hspHolding s p d x (hspTxn s x .write (leAt (hspPay d) 0 4) [BitVec.ofNat 32 (leAt (hspPay d) 8 4)])) 4 (sessWorld x) .write b o = .ok
  | .chn p d => (∀ q : Fin 4, s.chn.ports[q].pend = false) ∧ hspOp d = 0x20 ∧ (hspPay d).length = 32 ∧ ∃ x, HspTaken s p d x ∧ x.wait = none
  | .recipe p d => ∃ x r, HspTaken s p d x ∧ hspOp d = 0x21 ∧ x.wait = none ∧ (hspPay d).length = 1 ∧ leAt (hspPay d) 0 1 ≤ 15 ∧
    s.sys.resPend = false ∧ x.ns = false ∧
    recipeAt (modeTake 1 (leAt (hspPay d) 0 1) (hspHold x d (hspTook s p d x))) (leAt (hspPay d) 0 1) = some r ∧
    recipeRefusal (modeTake 1 (leAt (hspPay d) 0 1) (hspHold x d (hspTook s p d x))) (sessWorld x) (leAt (hspPay d) 0 1) true = none ∧
    goingSlots (modeTake 1 (leAt (hspPay d) 0 1) (hspHold x d (hspTook s p d x))) r = []
  | .watch p d => ∃ x, HspTaken s p d x ∧ hspOp d = 0x22 ∧ x.wait = none ∧ hspPay d = [] ∧ s.sys.resPend = false ∧ x.ns = false ∧
    watchRefusal (modeTake 2 0 (hspHold x d (hspTook s p d x))) = none
  | .maint p d => ∃ x, HspTaken s p d x ∧ hspOp d = 0x40 ∧ (∀ y ∈ s.net.sess, y.wait = none) ∧ hspPay d = [] ∧ x.ns = false ∧
    s.sys.resPend = false ∧ s.sys.mode = .lockoutFault ∧ maintLow s = true
  | .status p d => ∃ x, HspTaken s p d x ∧ hspOp d = 0x30 ∧ x.wait = none ∧ hspPay d = []
  | .capread p d => ∃ (x : Session) (k : Fin 4) (n w : Nat), HspTaken s p d x ∧ hspOp d = 0x31 ∧ x.wait = none ∧ (hspPay d).length = 6 ∧
    leAt (hspPay d) 0 1 = k.val ∧ leAt (hspPay d) 2 2 = w ∧ leAt (hspPay d) 4 2 = n ∧ 0 < n ∧ n ≤ 256 ∧
    hiddenUnit (sessWorld x) s.cap[k] = false ∧ s.cap[k].st = 3 ∧ s.cap[k].buf ≤ w ∧ w + n ≤ s.cap[k].buf + s.cap[k].len ∧ w + n ≤ 65536 ∧
    pdFault s 4 0x20100000 = false ∧ (∀ i, i < n → memWorldCheck s (sessWorld x) .read (0x20100000 + 4 * (w + i)) = .ok) ∧ tagFree s 4 = true ∧
    (∀ a ∈ s.fab.hard, a < 0x20100000 + 4 * w ∨ 0x20100000 + 4 * (w + n) ≤ a)
  | .tagread p d => ∃ x, HspTaken s p d x ∧ hspOp d = 0x32 ∧ x.wait = none ∧ (hspPay d).length = 4 ∧ 0 < leAt (hspPay d) 2 2 ∧
    leAt (hspPay d) 0 2 + leAt (hspPay d) 2 2 ≤ 1024
  | .tagwrite p d => ∃ x k, HspTaken s p d x ∧ hspOp d = 0x33 ∧ x.wait = none ∧ (hspPay d).length = 36 ∧ leAt (hspPay d) 0 2 = 32 * k ∧ k < 32 ∧
    s.chest.port[0].pend = false ∧ chestClosed s = false ∧ tagLocked s k = false
  | .flashSel p d => s.flash.run = none ∧ s.flash.barred = false ∧ hspOp d = 0x41 ∧ (hspPay d).length = 1 ∧ leAt (hspPay d) 0 1 ≤ 1 ∧ ∃ x,
    HspTaken s p d x ∧ x.wait = none ∧ MaintOpen s x
  | .flashErase p d => s.flash.run = none ∧ s.flash.barred = false ∧ hspOp d = 0x42 ∧ (hspPay d).length = 5 ∧ leAt (hspPay d) 4 1 ≤ 1 ∧ ∃ x,
    HspTaken s p d x ∧ x.wait = none ∧ MaintOpen s x
  | .flashProg p d => s.flash.run = none ∧ s.flash.barred = false ∧ hspOp d = 0x43 ∧ (hspPay d).length = 260 ∧ leAt (hspPay d) 0 4 % 256 = 0 ∧
    ∃ x, HspTaken s p d x ∧ x.wait = none ∧ MaintOpen s x
  | .flashRead p d => s.flash.run = none ∧ s.flash.barred = false ∧ hspOp d = 0x44 ∧ (hspPay d).length = 6 ∧ 1 ≤ leAt (hspPay d) 4 2 ∧
    leAt (hspPay d) 4 2 ≤ 1024 ∧ ∃ x, HspTaken s p d x ∧ x.wait = none ∧ MaintOpen s x
  | .flashCommandComplete b _ _ => b = true ∧ s.flash.found = true ∧ ∃ r, s.flash.run = some r ∧ r.op = 0x43
  | .keyWrite p d => hspOp d = 0x45 ∧ (hspPay d).length = 33 ∧ leAt (hspPay d) 0 1 ≤ 5 ∧ MemWf s ∧ ∃ x, HspTaken s p d x ∧ x.wait = none ∧
    MaintOpen s x
  | .otpSlot p d => hspOp d = 0x46 ∧ (hspPay d).length = 2 ∧ leAt (hspPay d) 1 1 = 0 ∧ (∃ n : Fin 4, leAt (hspPay d) 0 1 = n.val ∧
    (keyEntry s n.val).isSome = true ∧ s.otp.newHash[n] = 0 ∧ s.otp.newRevoked.getLsbD n = false) ∧ ∃ x, HspTaken s p d x ∧ x.wait = none ∧
    MaintOpen s x
  | .secureLock p d => ∃ x, HspTaken s p d x ∧ x.wait = none ∧ MaintOpen s x ∧ hspOp d = 0x47 ∧ hspPay d = []
  | .tagUnlock p d => hspOp d = 0x48 ∧ (hspPay d).length = 1 ∧ leAt (hspPay d) 0 1 ≤ 7 ∧ MemWf s ∧ ∃ x, HspTaken s p d x ∧ x.wait = none ∧
    MaintOpen s x
  | .reset p d => s.sys.mode = .lockoutMaint ∧ hspOp d = 0x4F ∧ hspPay d = [] ∧ ∃ x, HspTaken s p d x ∧ x.wait = none ∧ x.ns = false
  | .modbusConnect c p => modbusOn s p = true ∧ ethUp s p = true ∧ (∀ x ∈ s.net.mb, x.1 ≠ c) ∧ s.net.mb.length < 4
  | .modbusIdleTimeout _ => True
  | .readHoldingRegisters c _ a n => mbOpen s c = true ∧ 0 < n.toNat ∧ n.toNat ≤ 125 ∧ a.toNat + n.toNat ≤ 64
  | .readInputRegisters c _ a n => mbOpen s c = true ∧ a = 0 ∧ n = 4
  | .writeSingleRegister c _ r _ => mbOpen s c = true ∧ r = 64 ∧ blockWritable s .NS 14 = true
  | .writeMultipleRegisters c _ a n b => mbOpen s c = true ∧ n = 2 ∧ ∃ (k : Fin 32) (b0 b1 b2 b3 : Byte), a = BitVec.ofNat 16 (2 * k.val) ∧
    b = [b0, b1, b2, b3] ∧ hostWord s (32 + k.val) = true
  | .modbusOtherFunction c _ fn => mbOpen s c = true ∧ fn ≠ 3 ∧ fn ≠ 4 ∧ fn ≠ 6 ∧ fn ≠ 16
  | .canHeartbeat n => ∃ c, canCfg s = some c ∧ canOn s n c = true
  | .joystickFrame n d => (∃ c, canCfg s = some c ∧ canOn s n c = true ∧ c.joyId.isSome = true) ∧ s.can.ctl[n].joySeen ≠ some d[6].toNat ∧
    s.can.joyLast ≠ some d[6].toNat
  | .joystickTimeout => ∃ c, canCfg s = some c ∧ c.joyId.isSome = true
  | .tankFrame n i d => (∃ c, canCfg s = some c ∧ canOn s n c = true ∧ i.val < c.tankN) ∧ s.can.ctl[n].tankSeen[i] ≠ some d[5].toNat ∧
    s.can.tankLast[i] ≠ some d[5].toNat
  | .tankTimeout i => ∃ c, canCfg s = some c ∧ i.val < c.tankN
  | .canBusoffRecovery n => s.can.ctl[n].busOff = true
  | .xsysLoss => s.clk.fail = false ∧ vcoreOn s = true ∧ s.pmu.released = true ∧ s.save.active = false ∧ FaultEnters s
  | .xaonSwitch => (clkNow s).aonSrc ≠ 2
  | .xaonStartTimeout => (clkNow s).aonSrc ≠ 2 ∧ s.clk.aonFb = true
  | .xaonLoss => s.clk.aonFb = false
  | .refclkProbe _ => maintNet s = true
  | .vinQualified => s.pmu.rails = .off
  | .railStart => s.pmu.rails = .rising ∧ s.pmu.started = 3
  | .bringUpFail r => s.pmu.released = false ∧ (s.pmu.rails = .rising ∨ s.pmu.rails = .up) ∧ r.val < s.pmu.started
  | .bringUpRetry => s.pmu.rails = .retry ∧ s.pmu.coolWait = false
  | .fullReset => True
  | .railFault r => s.pmu.released = true ∧ s.pmu.rails = .up ∧ s.pmu.pg.getLsbD r = true ∧ s.save.active = false
  | .vinOv v => s.pmu.cfg.vinOv < v.toNat ∧ s.pmu.released = true ∧ FaultEnters s
  | .vinLow _ => True
  | .vfoLow _ => True
  | .tempRead x => s.pmu.rails = .up ∧ s.pmu.released = true ∧ vcoreOn s = true ∧ ∀ i : Fin 8, ∃ v, x[i] = some v ∧ v.toInt < 30720
  | .sagConfirm _ => s.pmu.released = true ∧ s.pmu.rails = .up ∧ s.save.active = false ∧ s.save.coreOff = false ∧
    (s.sys.mode = .operate ∨ s.sys.mode.isLockout = true) ∧ s.save.ready = true
  | .saveCapture => s.save.step = .confirmed ∧ tagNext s = none ∧ ∀ l : Fin 4, s.le.lanes[l].work = []
  | .saveRecordWrite b => s.save.step = .captured ∧ s.save.record.length = 0x700 ∧ MemWf s ∧ newestSlot s = none ∧ b = true
  | .saveComplete _ _ => s.save.step = .written ∧ s.pmu.railPend = none ∧ (∀ i : Fin 256, s.chn.slots[i].st ≠ .draining) ∧ Settled s
  | .aonLoss _ => (s.save.active = true ∨ s.save.coreOff = true) ∧ MemWf s
  | .holdupLow => s.sys.mode = .operate ∧ s.save.ready = false ∧ s.save.active = false ∧ s.save.coreOff = false
  | .sagResume => s.save.coreOff = true ∧ s.boot.halted = false ∧ wakeRuns s = false ∧ s.save.resuming = false ∧ s.sys.mode ≠ .lockoutMaint ∧
    s.save.ready = true
  | .resumeHoldupTimeout => s.save.resuming = true ∧ s.save.ready = false
  | .saveHome w _ => w = .S ∧ s.fab.dom[0] = .on ∧ s.fab.dom[1] = .on ∧ TagReady s 0
  | .positionVerifyTimeout _ => True
  | .watchCommit => s.sys.mode = .operate ∧ s.aon.step = .closing ∧ Settled s
  | .tokenReturnTimeout => s.aon.step = .tokens
  | .watchWindowEnd => s.aon.step = .window ∧ ∀ n : Fin 4, wakeLevel s n = false
  | .watchSample _ _ x => s.sys.mode = .watch ∧ s.aon.step = .asleep ∧ s.img.watch.isSome = true ∧ ∃ j : Fin 6, 34560 < x[j].toInt
  | .wakePin n l => s.sys.mode = .watch ∧ s.aon.step = .asleep ∧ wakeCfg s n = 1 ∧ l = true
  | .rtcAlarm => s.sys.mode = .watch ∧ s.aon.step = .asleep ∧ s.aon.alarmEn = true ∧ rtcS s = s.aon.alarmS
  | .wakeStart => s.aon.step = .waking ∧ drawerOk s.aon.drawer = true
  | .wakeReady p => p = true ∧ s.aon.step = .restored ∧ (s.sys.mode = .watch ∨ s.sys.mode = .operate) ∧ s.saf.causes = [] ∧
    s.save.noHoldup = false ∧ (s.trst.adopted = false ∨ deckLinked s = true) ∧ s.sys.change = none ∧ (∀ i : Fin 256,
    s.chn.slots[i].wasRun = false ∧ s.chn.slots[i].autoPend = false)
  | .rtcWrite w _ => w = .S ∧ s.fab.dom[0] = .on ∧ s.fab.dom[1] = .on ∧ TagReady s 0
  | .tagWrite p w b => w = tagWorld p ∧ s.chest.port[p].pend = false ∧ chestClosed s = false ∧ tagLocked s b.toNat = false ∧ TagPortWrite s p
  | .tagWriteComplete => ∃ p, tagNext s = some p
  | .tagLock p w _ => w = tagWorld p ∧ MemWf s ∧ TagPortWrite s p
  | .lifetimeWrite => vcoreOn s = true ∧ MemWf s
  | .hbuPause => s.trst.adopted = false
  | .maintEnLow => s.sys.maintLowAt = none
  | .lkrstPressBegin b => b = true
  | .prefTripRelease => True
  | .vfoReturn _ => True
  | .encZEdge p => s.img.enc[p].inc = true ∧ coreRuns s = true
  | .brakeDriverWatchdog => s.saf.halted = true
  | .canBusError n x _ => x = true ∧ ∃ c, canCfg s = some c ∧ canOn s n c = true
  | .vinBelow10v => s.pmu.rails = .held
  | .bootSagRestart => s.boot.halted = true

/-- The mark of that effect on the next state. -/
def CommandDone (s t : State) : Instr → Prop
  | .upFrame lane f => t.trst.up[lane].last = some (frameSeq 160 f)
  | .downFrame lane f _ => t.dk.dnLast[lane] = some (frameSeq 80 f)
  | .deckRecordResend => t.trst.recSends = s.trst.recSends + 1
  | .deckRecordAck => t.dk.acked = true ∧ t.dk.got = none
  | .hbdTimeout _ => t.dk.hbd = false ∧ ∀ b : Fin 4, t.dk.br[b].stoe = false ∧ t.dk.br[b].released = false
  | .deckLost => t.trst.adopted = false
  | .frameRateWindow _ => t.trst.adopted = false
  | .deckSleep => t.trst.sleep = true ∧ t.dk.asleep = true
  | .deckWake => t.trst.sleep = false ∧ t.dk.asleep = false
  | .deckPowerUp => t.dk.powered = true ∧ t.dk.hbu = true
  | .vdkFail => t.dk.powered = false ∧ t.dk.hbu = false
  | .carrierLoss b _ => t.dk.br[b].ka = false ∧ t.dk.br[b].stoe = false ∧ t.dk.br[b].released = false
  | .clkDkLoss => t.dk.clk = false ∧ t.dk.hbu = false
  | .clkDkReturn => t.dk.clk = true ∧ t.dk.hbu = true
  | .selectRecipe _ r => t.sys.resPend = true ∧ t.sys.switching = true ∧ t.sys.change = some { rcp := r.toNat }
  | .enterWatch _ => t.sys.resPend = true ∧ t.trst.sleepSent = true ∧ t.aon.step = .deck
  | .enterMaint _ => t.sys.mode = .lockoutMaint
  | .recipeCreateChannels => t.sys.change = none ∧ t.sys.rcpValid = true ∧ t.sys.switching = false
  | .lkrstPress _ _ => t.sys.mode = .operate ∧ t.saf.causes = []
  | .maintEnHigh => t.sys.maintLowAt = none
  | .resetRelease b dk _ _ _ => t.sys.mode = .bootImage ∧ t.sys.bootsel = b ∧ t.sys.dkpresent = dk
  | .flashDiscovery _ => t.boot.phase = .header
  | .imageHeaderCheck h => t.boot.phase = .body ∧ t.boot.header = h
  | .bodyRead b => t.boot.phase = .commit ∧ t.boot.body = b
  | .imageCommit => t.sys.mode = .bootSelftest ∧ t.boot.loaded = true
  | .selftestDone => t.sys.mode = .bootCharge ∧ t.save.charge = true
  | .saveReadySet _ => t.save.ready = true
  | .saveReadyClear _ => t.save.ready = false
  | .vsaveFull _ => t.boot.capCheck = true ∧ t.save.charge = false
  | .capacitanceCheckDone _ _ => t.sys.mode = .operate ∧ t.save.capC = 100
  | .chargeTimeout => LockedFor cHoldupLow t
  | .transactionIssue r => t.fab.flight = s.fab.flight ++ [txnOf r s.fab.nextId]
  | .transactionResponse n _ => ∃ x, s.fab.flight.find? (fun y => decide (y.id = n)) = some x ∧ t.fab.ret = s.fab.ret ++ [x] ∧
    t.fab.resps = [(x.id, (.done, [memWord s.mem x.addr.toNat]))]
  | .tagReturn n => ∃ x, s.fab.ret.find? (fun y => decide (y.id = n)) = some x ∧ t.fab.ret = s.fab.ret.erase x ∧
    t.fab.pools[x.pool].free = s.fab.pools[x.pool].free + 1
  | .registerWrite _ _ x v => match x with | .csr _ => t.sys.mirqEn0 = v | .addr _ => t.sec.bwt = v &&& 0x03BFFEF7
  | .lmemCoreWrite _ a _ v => t.mem = memSetBytes s.mem a.toNat (leBytes 4 v.toNat)
  | .statusWordWrite _ r _ => memWord t.mem (recAddr r.val + 0x5C) = memWord s.mem (recAddr r.val + 0x5C) &&& 0xFFFE0000#32
  | .boardWordWrite _ n v => t.le.board[n] = v
  | .fabSnapTake _ => t.fab.settled = s.fab.ret.isEmpty
  | .domainPowerDown d => t.fab.dom[d] = .quiescing
  | .quiesceTimeout d _ => t.fab.flight = s.fab.flight.filter (fun x => !txnIn d x) ∧ t.fab.ret = s.fab.ret ++ s.fab.flight.filter (txnIn d)
  | .domainIsolate d => t.fab.dom[d] = .off
  | .create c => ∃ i : Fin 256, s.chn.slots[i].st = .free ∧ t.chn.slots[i].st = .created ∧ t.chn.slots[i].template = getf c.w[0] 0 8
  | .arm c => ∀ i, CallTaken s opArm c i → t.chn.slots[i].st = .armed
  | .start c => ∀ i, CallTaken s opStart c i → t.chn.slots[i].startPend = true
  | .liftStart c => ∀ (i : Fin 256) (g : LiftCfg), CallTaken s opStart c i → s.img.lift = some g → t.spm.lift = some (liftOf s g i c)
  | .hold c => ∀ i, CallTaken s opHold c i → t.chn.slots[i].holdPend = true
  | .release c => ∀ i, CallTaken s opRelease c i → t.chn.slots[i].st = .held
  | .swap c => ∀ i, CallTaken s opSwap c i → t.chn.slots[i].bankB = !s.chn.slots[i].bankB
  | .inject c => ∀ i, CallTaken s opInject c i → (kvGet (getf c.w[0] 0 4) t.chn.slots[i].inj).isSome = true
  | .injectStop c => ∀ i, CallTaken s opInject c i → (kvGet (getf c.w[0] 0 4) t.chn.slots[i].inj).map (fun j => j.stop) = some true
  | .capture c => t.cap[(Fin.ofNat 4 (getf c.w[0] 0 2) : Fin 4)].st = 1
  | .captureStop c => ∀ k : Fin 4, getf c.w[0] 0 2 = k.val → t.cap[k].st = 4 ∧ t.cap[k].fin = 3
  | .destroy c => ∀ i, CallTaken s opDestroy c i → t.chn.slots[i].st = .free
  | .query c => ∀ i, CallTaken s opQuery c i → getf t.chn.ports[c.port].rsp[1] 8 4 = s.chn.slots[i].st.code
  | .frameTick => t.le.tick = s.le.tick + 1
  | .stageEvaluate l _ => ∀ i w d, StageReady s l i w d → ∃ v, t.chn.slots[i].smp = some v ∧ v.next = w.next + 1
  | .sampleDeadline i => t.chn.slots[i].smp = s.chn.slots[i].smp.map (fun w => { w with late := true })
  | .sampleComplete l => ∀ i r, s.le.lanes[l].work = i :: r → t.le.lanes[l].work = r ∧ t.chn.slots[i].smp = none
  | .captureGap k => t.cap[k].rec_ = none ∧ t.cap[k].gap = true
  | .comparatorCrossing b p code => t.dk.br[b].dem[p] = (if s.dk.br[b].upper p < code then .fall else if code < s.dk.br[b].lower p then .rise else .none)
  | .deadTimeElapsed b p => t.dk.br[b].sw[hiSw p].on = true ∧ t.dk.br[b].pend[p] = none
  | .tminElapsed b k => t.dk.br[b].sw[k].tmin = false ∧ t.dk.br[b].defer[swLeg k] = none
  | .bandWindowEnd b => t.dk.br[b].lastN = s.dk.br[b].winN ∧ t.dk.br[b].winN = 0
  | .ntcRead b _ _ => t.dk.br[b].fault = true ∧ t.dk.br[b].ntcShort = true
  | .blankingEnd b _ _ x => t.dk.br[b].fault = true ∧ t.dk.br[b].snap.t1 = x
  | .desat b l _ => t.dk.br[b].flt = l
  | .overcurrent b p _ _ => t.dk.br[b].fault = true ∧ t.dk.br[b].snap.src1 = snapSrc 2 (2 * p.val)
  | .dcLinkSample b _ x => t.dk.br[b].fault = true ∧ t.dk.br[b].snap.t1 = x
  | .bridgeTripReport b => t.dk.trip[b] = false ∧ t.trst.px[b].bfault = true ∧ t.trst.px[b].snap = s.dk.br[b].snap
  | .stoeRaise b => t.dk.br[b].stoe = true
  | .gateEnable b _ => t.dk.br[b].released = true
  | .stoInhibitTest _ _ _ => LockedFor cStoPathTest t
  | .stoPathTest _ _ => LockedFor cStoPathTest t
  | .safetyCycle m => t.saf.cycle = s.saf.cycle + 1 ∧ t.saf.siRaw = m.si
  | .carrierGapReport b => t.dk.br[b].testHold = false ∧ t.trst.preTest[b] = false
  | .safeInputAccept k => t.saf.siLvl.getLsbD k = s.saf.siFilt.getLsbD k
  | .sbc n => t.saf.ax[n].st = .braking
  | .brakeApplyElapsed n => t.saf.ax[n].st = .sto
  | .brakeReleaseElapsed n => t.saf.ax[n].st = .released
  | .brakeFeedback _ => LockedFor 0x0114 t
  | .axisReset n => t.saf.ax[n].latch = false ∧ t.saf.ax[n].w = 0
  | .safAxcmdReset n => t.saf.ax[n].latch = false ∧ t.saf.ax[n].w = 0
  | .encCrosscheck n => t.saf.ax[n].xcOn = true
  | .testPulseStart j => t.saf.toPulse = some j
  | .testPulseEnd _ => t.saf.toPulse = none ∧ t.saf.toOut = 0xF
  | .offPulseStart o => t.saf.offPulse = some o
  | .offPulseEnd _ => t.saf.offPulse = none
  | .onPulseStart o => t.saf.onPulse = some o
  | .onPulseEnd _ => t.saf.onPulse = none
  | .smLockstep => t.saf.halted = true ∧ t.saf.alive = false
  | .smRamEcc _ => t.saf.smEcc = satNat 65535 (s.saf.smEcc + 1)
  | .smRamScrub n _ => t.saf.smEcc = satNat 65535 (s.saf.smEcc + n)
  | .smRomCheck _ _ => t.saf.halted = true ∧ LockedFor 0x0206 t
  | .historyWrite => t.saf.hist = s.saf.hist.tail
  | .spmAllocation => t.spm.a = budgetNow s ∧ t.spm.p0min = p0Min s ∧ t.spm.total ≤ t.spm.a
  | .powerCriticalClear => t.spm.crit = false
  | .loadRedAssert => t.spm.loadRed = true
  | .loadRedRelease => t.spm.loadRed = false ∧ t.spm.ramp = none
  | .reduceRampStep => ∀ a k, s.spm.ramp = some (a, k) → t.spm.ramp = some (a, k + 1)
  | .prefTrip => t.spm.prefTrip = true
  | .hostbudTimeout => t.spm.src = 3 ∧ t.spm.hostOk = false
  | .spmHostbudWrite _ v => t.spm.hostBud = v.toNat ∧ t.spm.src = 1
  | .liftReevaluate => t.spm.lift = none ∧ t.spm.offer = 0
  | .liftHoldShort => t.spm.lift = none ∧ t.spm.liftSt = 4
  | .hlFrameOrigin => ∃ c f, s.img.hl = some c ∧ t.hl.out = some f ∧ frameGood c f = true
  | .hlFramePass _ b => t.hl.link = true ∧ t.hl.frame = some b
  | .hlPassEnd _ b => t.hl.out = some b ∧ t.hl.outPort = 1
  | .hlLinkLost => t.hl.link = false
  | .droopUpdate => t.hl.droopT = s.hl.t0
  | .droopLeave => t.hl.droop = false ∧ t.hl.rampLeft = 8
  | .hlPortDown _ => t.hl.fold0 = true ∧ t.hl.folds = incSat 65535 s.hl.folds
  | .hlTokenTimeout => t.hl.offer = none ∧ t.hl.pool = 0
  | .hlBackupOrigin => t.hl.backup = true ∧ ∃ c f, s.img.hl = some c ∧ t.hl.out = some f ∧ frameGood c f = true
  | .cabStart _ _ _ => t.cab.run = true ∧ t.cab.causes.getLsbD 2 = true
  | .cabSample _ => t.cab.wseq = s.cab.wseq + 1 ∧ t.cab.ms = s.cab.ms + 1
  | .zero _ g => t.cab.zero = s.cab.raw ∧ CabAnswered t.cab 1 g 0
  | .tare _ g => CabAnswered t.cab 2 g 0
  | .tareClear _ g => t.cab.par.tare = 0 ∧ CabAnswered t.cab 3 g 0
  | .record _ g => t.cab.newest = s.cab.newest + 1 ∧ CabAnswered t.cab 4 g 0
  | .alibiRead _ g => CabAnswered t.cab 5 g 0
  | .cabStatus _ g => t.cab.wseq = s.cab.wseq + 1 ∧ CabAnswered t.cab 6 g 0
  | .cabCommandComplete => t.cab.zero = s.cab.raw ∧ t.cab.pend = false ∧ t.cab.ansCode = 0
  | .cabStabilityTimeout => t.cab.cmd = none ∧ t.cab.pend = false ∧ t.cab.ansCode = 1
  | .cabPowerDown _ => t.cab.run = false ∧ t.cab.par = { s.cab.par with itime := s.cab.itime }
  | .calswChange b => t.cab.calsw = b
  | .hTelegram _ => t.cab.noDisp = false
  | .cTelegram _ => t.cab.par.audit = s.cab.par.audit + 1
  | .sTelegram _ => t.cab.par.audit = s.cab.par.audit + 1
  | .wTelegram => t.cab.tx = telegram "E" [decField s.cab.causes.toNat]
  | .displayTimeout => t.cab.noDisp = true
  | .notLegalClear k => t.cab.causes.getLsbD k = false
  | .xcabLoss => t.cab.causes.getLsbD 0 = true ∧ t.cab.cmd = none
  | .cabwPop _ => t.cab.fifo = s.cab.fifo.tail
  | .foMeasure cur => ∀ n : Fin 32, cur[n] = none → t.fio.out[n].i = s.fio.out[n].i
  | .foShort n _ => t.fio.out[n].short = true ∧ t.fio.out[n].duty = 0
  | .foRetry n => t.fio.out[n].short = false ∧ t.fio.out[n].duty = foCommand s n
  | .foRetryReset n => t.fio.out[n].retryLeft = s.img.fo[n].retry
  | .foClear _ m => ∀ n : Fin 32, m.getLsbD n = true → s.fio.out[n].st = 4 → t.fio.out[n].st ≠ 4 ∧ t.fio.out[n].short = false
  | .openLoadObserve n _ => t.fio.out[n].opened = true ∧ t.fio.evCode = 0x0701
  | .tachPulse n _ _ => t.fan[n].st = .running
  | .fanSpinTimeout n => t.fan[n].st = .kick ∧ t.fan[n].duty = 1024
  | .fanKickEnd n => t.fan[n].st = .spinUp
  | .fanTachTimeout n _ => t.fan[n].st = .stall ∧ t.fan[n].duty = 1024
  | .fanRecover n _ => t.fan[n].st = .running
  | .aiScan codes => ∀ n : Fin 16, s.img.ai[n].mode ≠ 0 → s.img.ai[n].avg = 0 → s.ain[n].acc = 0 → s.ain[n].n = 0 → t.ain[n].val = codes[n].toNat
  | .encCountEdge p b _ _ => t.enc[p].count = if b != s.img.enc[p].dir then s.enc[p].count - 1 else s.enc[p].count + 1
  | .absFrame p _ d _ _ => t.enc[p].pos = BitVec.ofNat 32 (absPos s.img.enc[p] d)
  | .gpioEdge n l => t.gpio.inp.getLsbD n = l
  | .spiDataWrite _ v => t.ser.spiTx = v ∧ t.ser.spiBusy = true
  | .spiFrameComplete d => t.ser.spiBusy = false ∧ t.ser.spiData = d &&& 0xFFFF#32
  | .uartDataWrite _ b => t.ser.utx = s.ser.utx ++ [b]
  | .uartByteSent => t.ser.utx = s.ser.utx.drop 1
  | .uartByteReceived b => t.ser.urx = s.ser.urx ++ [b]
  | .i2cGo _ v => t.ser.i2cBusy = true ∧ t.ser.i2cCtl = v &&& 0x1FF#32
  | .i2cComplete a _ => t.ser.i2cBusy = false ∧ t.ser.nack = !a
  | .ethFrameReceive p _ => t.net.eth[p].drop = incSat 4294967295 s.net.eth[p].drop
  | .ethLinkChange p u r => t.net.eth[p].link = (u && (r || s.clk.refo.getLsbD p) && (portIp s p).isSome) ∧ t.clk.ethRef.getLsbD p = r
  | .dmaDescriptorComplete p => t.net.eth[p].dma = none
  | .hello p d => ∃ x, t.net.sess = s.net.sess ++ [x] ∧ x.ns = hspNs d ∧ x.port = p
  | .close p d => ∀ x, HspTaken s p d x → sessOf t x.sid = none
  | .hspSessionTimeout n => t.net.sess = s.net.sess.filter fun y => decide (y.sid ≠ n)
  | .read p d => ∀ x b o, HspTaken s p d x → target (leAt (hspPay d) 0 4) = .periph b o → t = hspReply x.sid 0x10 0 (hspTag d) ([0, 0, 0,
    0] ++ wordBytes ((regRead (hspHolding s p d x (hspTxn s x .read (leAt (hspPay d) 0 4) [])) 4 (sessWorld x) b o).getD 0)) (txnDone (hspTxn s x .read (leAt (hspPay d) 0 4) []) (busAnswer (hspTxn s x .read (leAt (hspPay d) 0 4) []) .done [(regRead (hspHolding s p d x (hspTxn s x .read (leAt (hspPay d) 0 4) [])) 4 (sessWorld x) b o).getD 0] (regReadEffect b o (hspHolding s p d x (hspTxn s x .read (leAt (hspPay d) 0 4) [])))))
  | .write p d => ∀ x b o, HspTaken s p d x → target (leAt (hspPay d) 0 4) = .periph b o → t = hspReply x.sid 0x11 0 (hspTag d) [0, 0, 0, 0, 1,
    0] (txnDone (hspTxn s x .write (leAt (hspPay d) 0 4) [BitVec.ofNat 32 (leAt (hspPay d) 8 4)]) (busAnswer (hspTxn s x .write (leAt (hspPay d) 0 4) [BitVec.ofNat 32 (leAt (hspPay d) 8 4)]) .done [] (regWrite (.core (sessWorld x)) (sessWorld x) b o (BitVec.ofNat 32 (leAt (hspPay d) 8 4)) (hspHolding s p d x (hspTxn s x .write (leAt (hspPay d) 0 4) [BitVec.ofNat 32 (leAt (hspPay d) 8 4)])))))
  | .chn _ d => t.chn.ports[1].cmd = chnWords (hspNs d) (hspPay d)
  | .recipe _ d => t.sys.resPend = true ∧ t.sys.switching = true ∧ t.sys.change = some { rcp := leAt (hspPay d) 0 1 }
  | .watch _ _ => t.sys.resPend = true ∧ t.sys.resAction = 2
  | .maint _ _ => t.sys.mode = .lockoutMaint
  | .status p d => ∀ x, HspTaken s p d x → ∃ b, HspAnswered t p d x 0 b
  | .capread p d => ∀ x, HspTaken s p d x →
    HspAnswered t p d x 0 (memBytes s.mem (0x20100000 + 4 * leAt (hspPay d) 2 2) (4 * leAt (hspPay d) 4 2))
  | .tagread p d => ∀ x, HspTaken s p d x → HspAnswered t p d x 0 (memBytes s.mem (0x30002000 + leAt (hspPay d) 0 2) (leAt (hspPay d) 2 2))
  | .tagwrite _ d => t.chest.port[0].pend = true ∧ 32 * t.chest.port[0].target = leAt (hspPay d) 0 2
  | .flashSel _ d => ∃ r, t.flash.run = some r ∧ r.op = 0x41 ∧ r.cs = decide (leAt (hspPay d) 0 1 = 1)
  | .flashErase _ d => ∃ r, t.flash.run = some r ∧ r.op = 0x42 ∧ r.addr = leAt (hspPay d) 0 4
  | .flashProg _ d => ∃ r, t.flash.run = some r ∧ r.op = 0x43 ∧ r.data = (hspPay d).drop 4
  | .flashRead _ d => ∃ r, t.flash.run = some r ∧ r.op = 0x44 ∧ r.addr = leAt (hspPay d) 0 4
  | .flashCommandComplete _ _ _ => t.flash.run = none ∧ t.flash.sent.head? = some [0x06]
  | .keyWrite _ d => memBytes t.mem (0x30001000 + 64 * leAt (hspPay d) 0 1) 32 = (hspPay d).drop 1
  | .otpSlot _ d => ∀ (n : Fin 4) (k : List Byte), leAt (hspPay d) 0 1 = n.val → keyEntry s n.val = some k → t.otp.newHash[n] = beNat (sha256 k)
  | .secureLock _ _ => t.otp.secureLock = true
  | .tagUnlock _ d => tagLocks t = tagLocks s &&& ~~~(1#8 <<< leAt (hspPay d) 0 1)
  | .reset _ _ => t.sys.mode = .bootPowerup ∧ t.pmu.cause = .maint
  | .modbusConnect c p => t.net.mb = s.net.mb ++ [(c, p)]
  | .modbusIdleTimeout c => t.net.mb = s.net.mb.filter fun x => decide (x.1 ≠ c)
  | .readHoldingRegisters c h a n => t = mbAnswer c h ([3,
    BitVec.ofNat 8 (2 * n.toNat)] ++ (List.range n.toNat).flatMap fun i => beBytes 2 (mbHalf s.le.board[Fin.ofNat 64 (32 + (a.toNat + i) / 2)] (decide ((a.toNat + i) % 2 = 1)))) s
  | .readInputRegisters c h _ _ => t = mbAnswer c h ([4,
    8] ++ beBytes 2 (getf (sysModeWord s) 16 16) ++ beBytes 2 (getf (sysModeWord s) 0 16) ++ beBytes 2 (getf s.boot.safeId 16 16) ++ beBytes 2 (getf s.boot.safeId 0 16)) s
  | .writeSingleRegister c h _ v => t = mbAnswer c h ([6, 0, 64] ++ beBytes 2 v.toNat) (hostBudWrite v s)
  | .writeMultipleRegisters c h a _ b => ∃ (k : Fin 32) (b0 b1 b2 b3 : Byte), a = BitVec.ofNat 16 (2 * k.val) ∧ b = [b0, b1, b2, b3] ∧
    t = mbAnswer c h ([16] ++ beBytes 2 (2 * k.val) ++ [0, 2]) (boardSet (Fin.ofNat 64 (32 + k.val)) (b0 ++ b1 ++ b2 ++ b3) s)
  | .modbusOtherFunction c h fn => t = mbAnswer c h [fn ||| 0x80#8, 1] s
  | .canHeartbeat n => t.can.ctl[n].hbCnt = (s.can.ctl[n].hbCnt + 1) % 256
  | .joystickFrame n d => t.can.joyLast = some d[6].toNat ∧ t.can.ctl[n].joyStale = false
  | .joystickTimeout => ∀ n : Fin 2, t.can.ctl[n].joyStale = true
  | .tankFrame _ i d => t.can.tankLast[i] = some d[5].toNat
  | .tankTimeout i => ∀ n : Fin 2, t.can.ctl[n].tankStale = s.can.ctl[n].tankStale ||| (1#32 <<< i.val)
  | .canBusoffRecovery n => t.can.ctl[n].busOff = false ∧ t.can.ctl[n].tec = 0
  | .xsysLoss => t.clk.rc = true ∧ t.clk.fail = true ∧ LockedFor 0x0208 t
  | .xaonSwitch => t.clk.aonFb = false
  | .xaonStartTimeout => t.clk.nAon = incSat 255 s.clk.nAon ∧ t.clk.rtcInacc = true
  | .xaonLoss => t.clk.aonFb = true ∧ t.clk.rtcInacc = true
  | .refclkProbe b => t.clk.refo.getLsbD 0 = !b
  | .vinQualified => t.pmu.rails = .rising ∧ t.pmu.started = 1
  | .railStart => t.pmu.rails = .up ∧ t.pmu.pg = 15
  | .bringUpFail r => t.pmu.failRail = r.val ∧ t.pmu.pg = 0
  | .bringUpRetry => t.pmu.rails = .rising
  | .fullReset => t.sys.mode = .bootPowerup ∧ t.pmu.cause = .porst
  | .railFault r => t.sys.mode = .bootPowerup ∧ t.pmu.cause = .rail ∧ t.pmu.railId = r.val
  | .vinOv _ => LockedFor 0x0502 t
  | .vinLow v => t.pmu.vin = v.toNat ∧ t.pmu.vinLow = decide (v.toNat < 1800)
  | .vfoLow v => t.fio.vfo = v.toNat ∧ t.fio.vfoLow = true
  | .tempRead x => t.pmu.hot = false ∧ ∀ i : Fin 8, t.pmu.temp[i] = x[i].map BitVec.toInt
  | .sagConfirm _ => t.save.active = true ∧ t.save.step = .confirmed ∧ DriveOff t
  | .saveCapture => t.save.step = .captured
  | .saveRecordWrite _ => t.save.step = .written ∧ t.save.seq = 1
  | .saveComplete _ _ => t.save.active = false ∧ t.save.coreOff = true
  | .aonLoss _ => t.sys.mode = .bootPowerup ∧ t.pmu.cause = .sagLoss ∧ t.pmu.rails = .off
  | .holdupLow => LockedFor 0x0501 t
  | .sagResume => t.aon.step = .waking ∧ t.aon.fromSag = true
  | .resumeHoldupTimeout => t.save.noHoldup = true ∧ t.aon.step = .waking
  | .saveHome _ n => t.saf.homing = some (n, sInt s.save.homePos)
  | .positionVerifyTimeout p => t.save.verify = s.save.verify.filter fun x => decide (x.1 ≠ p)
  | .watchCommit => t.sys.mode = .watch ∧ t.aon.step = .window
  | .tokenReturnTimeout => t.aon.step = .closing ∧ t.hl.on = false
  | .watchWindowEnd => t.aon.step = .asleep
  | .watchSample _ _ _ => t.aon.step = .waking
  | .wakePin n _ => t.aon.step = .waking ∧ t.aon.cause = 3 ∧ t.aon.index = n.val
  | .rtcAlarm => t.aon.step = .waking ∧ t.aon.cause = 4
  | .wakeStart => t.aon.step = .restored ∧ t.pmu.pg = 0xF
  | .wakeReady _ => t.sys.mode = .operate ∧ t.aon.step = .none
  | .rtcWrite _ v => t.aon.rtcAcc = v.toNat * 10000000000000 ∧ t.pmu.rtcLost = false
  | .tagWrite p _ b => t.chest.port[p].pend = true ∧ t.chest.port[p].target = b.toNat
  | .tagWriteComplete => ∀ p, tagNext s = some p → t.chest.port[p].pend = false ∧ t.chest.port[p].result = 1
  | .tagLock _ _ l => tagLocks t = tagLocks s ||| l
  | .lifetimeWrite => memBytes t.mem 0x30006000 64 = lifeBytes (memBytes s.mem 0x30006000 64) s.life
  | .hbuPause => t.trst.linkUp = false
  | .maintEnLow => t.sys.maintLowAt = some s.now
  | .lkrstPressBegin _ => t.saf.lkrst = false
  | .prefTripRelease => t.spm.prefTrip = false
  | .vfoReturn v => t.fio.vfo = v.toNat ∧ t.fio.vfoLow = false
  | .encZEdge p => t.enc[p].zseen = true
  | .brakeDriverWatchdog => t.saf.bkH = 0 ∧ t.saf.bkL = 0
  | .canBusError n _ _ => t.can.ctl[n].tec = s.can.ctl[n].tec + 8
  | .vinBelow10v => t.pmu.rails = .off ∧ t.pmu.row = 0
  | .bootSagRestart => t.boot.halted = false ∧ t.save.coreOff = false

end Sys2Proof.Machine
end

