-- ==== Sys2Proof/Certificates/Slice0/Obligations.lean ====
section
/-! DEFINITION. Certificates/Slice0/Obligations.lean: the statements for the provers. Each is about every state that meets its hypotheses,
says which next state the command answers, and what that command leaves alone. -/
open Sys2Proof Sys2Proof.Machine

/-- The queue: a step takes the command at the front and runs it with the queue's rest; an empty queue is an idle microsecond, in which, where
no command waits on a port, no duty for the end of a stretched pulse and no measurement falls due, only the clock of the model, the RTC and the minutes of
operation advance (log entry 2, the model's choice); the ready port whose turn it is is served first (R142). -/
def Obligations.StepRunsQueuedCommand : Prop :=
  (∀ (s : State) (c : Instr) (rest : List Instr), s.pending = c :: rest → step s = exec c { s with pending := rest }) ∧
  (∀ s : State, s.pending = [] → (∀ p : Fin 4, s.chn.ports[p].pend = false) → (∀ n : Fin 32, s.fio.out[n].late = false) →
    (s.now + 1) % 1000 ≠ 0 → ∃ t, step s = .next t ∧
    t = { s with now := s.now + 1, aon := { s.aon with rtcAcc := t.aon.rtcAcc }, life := { s.life with opUs := t.life.opUs } } ∧
    t.aon.rtcAcc = s.aon.rtcAcc + (10000000 + (if s.boot.loaded then s.clk.cfg.trim else 0)).toNat ∧
    t.life.opUs = s.life.opUs + (if vcoreOn s then 1 else 0)) ∧
  (∀ (s : State) (p : Fin 4), s.pending = [] → domDown s 1 = false → s.chn.ports[p].pend = true →
    (∀ q : Fin 4, q ≠ p → s.chn.ports[q].pend = false) → ∃ t, step s = .next t ∧ t.chn.ports[p].pend = false ∧ t.chn.ports[p].done = true ∧
      t.chn.last = p)

/-- R23, UP_FRAME while errors count (the deck adopted and linked, no sleep command in force and no wake command under way) and no lane window reaches the
limit of R24. An accepted idle frame k + 1 above the reference becomes the reference and counts the k frames between them that were not discarded and
counted already; a frame whose CRC fails, and one that repeats the reference, count one and leave the reference; an accepted data frame also refreshes the DK proxy and runs only its own lane's decimators. Nothing outside the logic island's side of
the Trestle changes. R24, R42. When three of the last 16 frame periods of an up-lane are bad while errors count, TRESTLE_CRC is raised: from BOOT or
OPERATE the device enters LOCKOUT for it with the drive outputs off; in LOCKOUT it is recorded as a further cause and the mode stays. -/
def Obligations.UpFrames : Prop :=
  ((∀ (s : State) (lane : Fin 4) (f : BitVec 160) (l k : BitVec 4), countsErrors s = true → frameOk 160 f = true → frameType 160 f = 1 →
    s.trst.up[lane].last = some l → frameSeq 160 f = l + 1 + k → k ≠ 15 →
    popcount16 (histBad (k.toNat - s.trst.up[lane].disc) s.trst.up[lane].hist <<< 1) < 3 → (∀ d : Fin 2, popcount16 s.trst.dnHist[d] < 3) →
    ∃ t, exec (.upFrame lane f) s = .next t ∧ t = { s with trst := t.trst } ∧ t.trst.up[lane].last = some (frameSeq 160 f) ∧
      t.trst.up[lane].errs = min 255 (s.trst.up[lane].errs + (k.toNat - s.trst.up[lane].disc)) ∧ t.trst.up[lane].disc = 0 ∧ (∀ i : Fin 4, i ≠ lane → t.trst.up[i] = s.trst.up[i]) ∧
      t.trst.dec = s.trst.dec ∧ t.trst.px = s.trst.px ∧ t.trst.adopted = true) ∧
  (∀ (s : State) (lane : Fin 4) (f : BitVec 160), countsErrors s = true →
    frameOk 160 f = false ∨ s.trst.up[lane].last = some (frameSeq 160 f) →
    popcount16 (s.trst.up[lane].hist <<< 1 ||| 1) < 3 → (∀ d : Fin 2, popcount16 s.trst.dnHist[d] < 3) →
    ∃ t, exec (.upFrame lane f) s = .next t ∧ t = { s with trst := t.trst } ∧ t.trst.up[lane].last = s.trst.up[lane].last ∧
      t.trst.up[lane].errs = min 255 (s.trst.up[lane].errs + 1) ∧
      t.trst.up[lane].disc = (if frameOk 160 f then s.trst.up[lane].disc else s.trst.up[lane].disc + 1) ∧ (∀ i : Fin 4, i ≠ lane → t.trst.up[i] = s.trst.up[i]) ∧
      t.trst.dec = s.trst.dec ∧ t.trst.px = s.trst.px ∧ t.trst.adopted = true) ∧
  (∀ (s : State) (lane : Fin 4) (f : BitVec 160) (l : BitVec 4), countsErrors s = true → frameOk 160 f = true → frameType 160 f = 0 →
    s.trst.up[lane].last = some l → frameSeq 160 f = l + 1 → popcount16 (s.trst.up[lane].hist <<< 1) < 3 →
    (∀ d : Fin 2, popcount16 s.dk.dnHist[d] < 3) →
    ∃ t, exec (.upFrame lane f) s = .next t ∧ t = { s with trst := t.trst } ∧ t.trst.up[lane].last = some (l + 1) ∧
      t.trst.up[lane].errs = min 255 s.trst.up[lane].errs ∧ (∀ i : Fin 16, i.val / 4 ≠ lane.val → t.trst.dec[i] = s.trst.dec[i]) ∧
      t.trst.dnErrs = s.dk.dnErrs ∧
      ∀ b : Fin 4, t.trst.px[b].released = s.dk.br[b].released ∧ t.trst.px[b].run = s.dk.br[b].run ∧
        t.trst.px[b].n = s.dk.br[b].lastN ∧ t.trst.px[b].flt = s.dk.br[b].flt ∧ t.trst.px[b].bfault = s.trst.px[b].bfault)) ∧
  ((∀ (s : State) (lane : Fin 4) (f : BitVec 160), countsErrors s = true → frameOk 160 f = false →
    3 ≤ popcount16 (s.trst.up[lane].hist <<< 1 ||| 1) → FaultEnters s →
    ∃ t, exec (.upFrame lane f) s = .next t ∧ LockedFor cTrestleCrc t ∧ LockoutFrame s t) ∧
  (∀ (s : State) (lane : Fin 4) (f : BitVec 160), countsErrors s = true → frameOk 160 f = false →
    3 ≤ popcount16 (s.trst.up[lane].hist <<< 1 ||| 1) → s.sys.mode.isLockout = true →
    ∃ t, exec (.upFrame lane f) s = .next t ∧ t.sys = s.sys ∧ (∃ x ∈ t.saf.causes, x.code = cTrestleCrc) ∧ LockoutFrame s t))

/-- R23, DOWN_FRAME at a powered deck: a group of one frame is applied when that frame is accepted; the first frame of a longer group only waits; a
discarded frame drops its group whole and every bridge keeps its references, band and RUN; a group that the logic island has not sent changes nothing
(log entry 21). R27, R28, R248, R486, R499: link-up and adoption. A record
that goes unacknowledged in BOOT.SELFTEST is sent again; the acknowledgement of a whole record puts it in force, and the logic island adopts the deck
where R27 lets it and nowhere else (R28), in SELFTEST with every latch and snapshot cleared, otherwise with its own and those sent with the record (R267); before adoption an HBU pause restarts the count of 64 good frames and raises nothing; a deck starts with
every bridge off and no record. -/
def Obligations.DeckLinkUp : Prop :=
  ((∀ (s : State) (lane : Fin 2) (f : BitVec 80) (g : Nat) (u : HyscUpdate), s.dk.clk = true → s.dk.powered = true →
    frameOk 80 f = true → frameType 80 f = 0 → s.dk.dnLast[lane] ≠ some (frameSeq 80 f) → s.trst.hysc[u.bridge] = some u →
    kvGet g s.dk.groups = none →
    ∃ t, exec (.downFrame lane f (some { group := g, frames := 1, cmd := .hysc u })) s = .next t ∧ t = { s with dk := t.dk } ∧
      t.dk.dnLast[lane] = some (frameSeq 80 f) ∧ t.dk.br[u.bridge].run = u.run ∧ t.dk.br[u.bridge].refs = #v[u.refU, u.refV, u.refW] ∧
      (∀ b : Fin 4, b ≠ u.bridge → t.dk.br[b] = s.dk.br[b]) ∧ t.dk.cfg = s.dk.cfg) ∧
  (∀ (s : State) (lane : Fin 2) (f : BitVec 80) (g n : Nat) (c : DeckCmd), s.dk.clk = true → s.dk.powered = true →
    frameOk 80 f = true → frameType 80 f = 0 → s.dk.dnLast[lane] ≠ some (frameSeq 80 f) → s.dk.groups = [] →
    downSent s { group := g, frames := n + 2, cmd := c } = true →
    ∃ t, exec (.downFrame lane f (some { group := g, frames := n + 2, cmd := c })) s = .next t ∧ t = { s with dk := t.dk } ∧
      t.dk.br = s.dk.br ∧ t.dk.groups = [(g, { got := 1, cmd := c })] ∧ t.dk.dnLast[lane] = some (frameSeq 80 f)) ∧
  (∀ (s : State) (lane : Fin 2) (f : BitVec 80) (g n : Nat) (m : DownGroup) (c : DeckCmd), s.dk.clk = true → s.dk.powered = true →
    frameOk 80 f = false ∨ s.dk.dnLast[lane] = some (frameSeq 80 f) → s.dk.groups = [(g, m)] →
    ∃ t, exec (.downFrame lane f (some { group := g, frames := n, cmd := c })) s = .next t ∧ t = { s with dk := t.dk } ∧
      t.dk.br = s.dk.br ∧ t.dk.groups = [] ∧ t.dk.dnLast = s.dk.dnLast ∧ t.dk.got = s.dk.got ∧ t.dk.chopOn = s.dk.chopOn) ∧
  (∀ (s : State) (lane : Fin 2) (f : BitVec 80) (p : DownPart), s.dk.clk = true → s.dk.powered = true → frameOk 80 f = true →
    s.dk.dnLast[lane] ≠ some (frameSeq 80 f) → kvGet p.group s.dk.groups = none → downSent s p = false →
    ∃ t, exec (.downFrame lane f (some p)) s = .next t ∧ t = { s with dk := t.dk } ∧ t.dk.br = s.dk.br ∧ t.dk.groups = s.dk.groups ∧
      t.dk.got = s.dk.got ∧ t.dk.chopOn = s.dk.chopOn ∧ t.dk.chopOff = s.dk.chopOff)) ∧
  ((∀ s : State, s.trst.recSent = true → s.trst.linkUp = true → mayAdopt s = true →
    exec .deckRecordResend s = .next { s with trst := { s.trst with recSent := true, recSends := s.trst.recSends + 1 } }) ∧
  (∀ (s : State) (r : DeckRecord) (x : Vector (Option Snap) 4), s.dk.got = some (r, x) → s.trst.recSent = true → s.trst.linkUp = true →
    mayAdopt s = true →
    ∃ t, exec .deckRecordAck s = .next t ∧ t = { s with trst := t.trst, dk := t.dk } ∧ t.trst.adopted = true ∧ t.trst.everAdopted = true ∧
      t.dk.acked = true ∧ t.dk.cfg = r ∧ t.dk.got = none ∧
      (s.sys.mode = .bootSelftest → ∀ b : Fin 4, t.dk.br[b].fault = false ∧ t.dk.br[b].snap = {}) ∧
      (s.sys.mode ≠ .bootSelftest → ∀ b : Fin 4, t.dk.br[b].fault = (s.dk.br[b].fault || (x[b]).isSome) ∧
        (s.dk.br[b].fault = true → t.dk.br[b].snap = s.dk.br[b].snap) ∧
        ∀ n, s.dk.br[b].fault = false → x[b] = some n → t.dk.br[b].snap = n ∧ t.dk.br[b].gates = 0)) ∧
  (∀ (s : State) (r : DeckRecord) (x : Vector (Option Snap) 4), s.dk.got = some (r, x) → mayAdopt s = false →
    ∃ t, exec .deckRecordAck s = .next t ∧ t = { s with dk := t.dk } ∧ t.dk.acked = true ∧ t.dk.cfg = r) ∧
  (∀ s : State, s.trst.adopted = false →
    ∃ t, exec .hbuPause s = .next t ∧ t = { s with trst := t.trst } ∧ t.trst.linkUp = false ∧ t.trst.adopted = false ∧
      ∀ i : Fin 4, t.trst.up[i].good = 0 ∧ t.trst.up[i].last = s.trst.up[i].last ∧ t.trst.up[i].errs = s.trst.up[i].errs) ∧
  (∀ s : State, s.dk.powered = false →
    ∃ t, exec .deckPowerUp s = .next t ∧ t = { s with dk := t.dk } ∧ t.dk.powered = true ∧ t.dk.hbu = true ∧ t.dk.acked = false ∧
      ∀ b : Fin 4, t.dk.br[b].stoe = false ∧ t.dk.br[b].gates = 0) ∧
  (∀ s : State, s.dk.powered = true → s.dk.clk = false →
    ∃ t, exec .clkDkReturn s = .next t ∧ t = { s with dk := t.dk } ∧ t.dk.clk = true ∧ t.dk.hbu = true ∧ t.dk.acked = false ∧
      ∀ b : Fin 4, t.dk.br[b].stoe = false ∧ t.dk.br[b].gates = 0))

/-- R25, R26, R264, R486, R499: each loss turns the bridges it reaches off, gate commands and STOE, and leaves the logic island as it is; DECK_LOST from
an adopted deck ends the adoption and enters LOCKOUT for it. R33, R250, R270: the acknowledged sleep command is in force, stops the bridges and the
chopper and drops its thresholds; the wake command ends it, with every gate command off and STOE low, the deck still adopted and its record kept. -/
def Obligations.DeckSleepAndLoss : Prop :=
  ((∀ (s : State) (b : Fin 4) (t : Word), s.dk.powered = true →
    ∃ u, exec (.carrierLoss b t) s = .next u ∧ u = { s with dk := u.dk } ∧ u.dk.br[b].gates = 0 ∧ u.dk.br[b].stoe = false ∧
      u.dk.br[b].released = false ∧ u.dk.br[b].ka = false ∧ ∀ c : Fin 4, c ≠ b → u.dk.br[c] = s.dk.br[c]) ∧
  (∀ (s : State) (t : Word), s.dk.powered = true → s.dk.asleep = false →
    ∃ u, exec (.hbdTimeout t) s = .next u ∧ u = { s with dk := u.dk } ∧ u.dk.chop = false ∧ u.dk.chopPair = none ∧
      ∀ b : Fin 4, u.dk.br[b].gates = 0 ∧ u.dk.br[b].stoe = false ∧ u.dk.br[b].released = false) ∧
  (∀ s : State,
    ∃ u, exec .vdkFail s = .next u ∧ u = { s with dk := u.dk } ∧ u.dk.powered = false ∧ u.dk.hbu = false ∧
      ∀ b : Fin 4, u.dk.br[b].gates = 0 ∧ u.dk.br[b].stoe = false) ∧
  (∀ s : State,
    ∃ u, exec .clkDkLoss s = .next u ∧ u = { s with dk := u.dk } ∧ u.dk.clk = false ∧ u.dk.hbu = false ∧ u.dk.cfg = s.dk.cfg ∧
      ∀ b : Fin 4, u.dk.br[b].gates = 0 ∧ u.dk.br[b].stoe = false) ∧
  (∀ s : State, s.trst.adopted = true → s.trst.sleep = false → FaultEnters s →
    ∃ u, exec .deckLost s = .next u ∧ LockedFor cDeckLost u ∧ u.trst.adopted = false ∧ LockoutFrame s u) ∧
  (∀ s : State, s.trst.adopted = true → s.trst.sleep = false → s.sys.mode.isLockout = true →
    ∃ u, exec .deckLost s = .next u ∧ u.sys = s.sys ∧ (∃ x ∈ u.saf.causes, x.code = cDeckLost) ∧ u.trst.adopted = false ∧
      LockoutFrame s u) ∧
  (∀ (s : State) (n : Nat), s.trst.adopted = true → s.trst.sleep = false → FaultEnters s → n < 980 ∨ 1020 < n →
    ∃ u, exec (.frameRateWindow n) s = .next u ∧ LockedFor cDeckLost u ∧ u.trst.adopted = false ∧ LockoutFrame s u) ∧
  (∀ (s : State) (n : Nat), 980 ≤ n → n ≤ 1020 → exec (.frameRateWindow n) s = .next s)) ∧
  ((∀ s : State, s.trst.sleepSent = true → s.dk.powered = true → s.dk.clk = true → s.aon.step = .none →
    ∃ t, exec .deckSleep s = .next t ∧ t = { s with trst := t.trst, dk := t.dk } ∧ t.trst.sleep = true ∧ t.trst.adopted = s.trst.adopted ∧
      t.dk.asleep = true ∧ t.dk.chop = false ∧ t.dk.chopPair = none ∧ t.dk.chopOn = none ∧ t.dk.chopOff = none ∧
      ∀ b : Fin 4, t.dk.br[b].gates = 0 ∧ t.dk.br[b].stoe = false) ∧
  (∀ s : State, s.trst.wakeSent = true → s.dk.powered = true → s.dk.clk = true →
    ∃ t, exec .deckWake s = .next t ∧ t = { s with trst := t.trst, dk := t.dk } ∧ t.trst.sleep = false ∧ t.trst.adopted = s.trst.adopted ∧
      t.dk.asleep = false ∧ t.dk.cfg = s.dk.cfg ∧ t.dk.acked = s.dk.acked ∧ (∀ i : Fin 16, t.trst.dec[i].skip = 3) ∧
      ∀ b : Fin 4, t.dk.br[b].gates = 0 ∧ t.dk.br[b].stoe = false))

/-- R255-R261: the deck's own switching. A current above the upper edge demands a fall, one below the lower edge a rise, one between or exactly on an edge
nothing, and then no gate command changes. In independent-phase mode on a running, released bridge a fall turns HI off and asks LO on after tDEAD, a
rise the reverse; the turn-on follows when tDEAD has elapsed; a rise deferred by TMIN is dropped when it is no longer demanded. -/
def Obligations.LegDecisions : Prop :=
  (∀ (s : State) (b : Fin 4) (p : Fin 3) (code : Int), s.dk.clk = true → s.dk.br[b].run = true → s.dk.br[b].released = true →
    s.dk.br[b].vsel = false → s.dk.br[b].active.contains p = true → s.dk.br[b].upper p < code → s.dk.br[b].want[p] = true →
    s.dk.br[b].sw[hiSw p].tmin = false → s.dk.br[b].pend[p] = none →
    ∃ t, exec (.comparatorCrossing b p code) s = .next t ∧ t = { s with dk := t.dk } ∧ t.dk.br[b].sw[hiSw p].on = false ∧
      t.dk.br[b].pend[p] = some false ∧ (∀ k : Fin 6, k ≠ hiSw p → t.dk.br[b].sw[k] = s.dk.br[b].sw[k]) ∧
      ∀ c : Fin 4, c ≠ b → t.dk.br[c] = s.dk.br[c]) ∧
  (∀ (s : State) (b : Fin 4) (p : Fin 3) (code : Int), s.dk.clk = true → s.dk.br[b].run = true → s.dk.br[b].released = true →
    s.dk.br[b].vsel = false → s.dk.br[b].active.contains p = true → code < s.dk.br[b].lower p → s.dk.br[b].want[p] = false →
    s.dk.br[b].sw[loSw p].tmin = false → s.dk.br[b].pend[p] = none → s.dk.br[b].lower p ≤ s.dk.br[b].upper p →
    ∃ t, exec (.comparatorCrossing b p code) s = .next t ∧ t = { s with dk := t.dk } ∧ t.dk.br[b].sw[loSw p].on = false ∧
      t.dk.br[b].pend[p] = some true ∧ (∀ k : Fin 6, k ≠ loSw p → t.dk.br[b].sw[k] = s.dk.br[b].sw[k]) ∧
      ∀ c : Fin 4, c ≠ b → t.dk.br[c] = s.dk.br[c]) ∧
  (∀ (s : State) (b : Fin 4) (p : Fin 3) (code : Int), ∃ t, exec (.comparatorCrossing b p code) s = .next t ∧
    t.dk.br[b].dem[p] = (if s.dk.br[b].upper p < code then .fall else if code < s.dk.br[b].lower p then .rise else .none)) ∧
  (∀ (s : State) (b : Fin 4) (p : Fin 3) (code : Int), s.dk.br[b].lower p ≤ code → code ≤ s.dk.br[b].upper p →
    ∃ t, exec (.comparatorCrossing b p code) s = .next t ∧ t = { s with dk := t.dk } ∧ t.dk.br[b].sw = s.dk.br[b].sw ∧
      t.dk.br[b].pend = s.dk.br[b].pend ∧ t.dk.br[b].want = s.dk.br[b].want ∧ ∀ c : Fin 4, c ≠ b → t.dk.br[c] = s.dk.br[c]) ∧
  (∀ (s : State) (b : Fin 4) (p : Fin 3), s.dk.clk = true → s.dk.br[b].pend[p] = some true → s.dk.br[b].sw[hiSw p].tmin = false →
    ∃ t, exec (.deadTimeElapsed b p) s = .next t ∧ t = { s with dk := t.dk, life := t.life } ∧ t.dk.br[b].sw[hiSw p].on = true ∧
      t.dk.br[b].sw[hiSw p].blank = true ∧ t.dk.br[b].pend[p] = none ∧ t.life.sw[b] = s.life.sw[b] + 1 ∧
      ∀ k : Fin 6, k ≠ hiSw p → t.dk.br[b].sw[k] = s.dk.br[b].sw[k]) ∧
  (∀ (s : State) (b : Fin 4) (p : Fin 3), s.dk.clk = true → s.dk.br[b].pend[p] = some false → s.dk.br[b].sw[loSw p].tmin = false →
    ∃ t, exec (.deadTimeElapsed b p) s = .next t ∧ t = { s with dk := t.dk } ∧ t.dk.br[b].sw[loSw p].on = true ∧
      t.dk.br[b].pend[p] = none ∧ ∀ k : Fin 6, k ≠ loSw p → t.dk.br[b].sw[k] = s.dk.br[b].sw[k]) ∧
  (∀ (s : State) (b : Fin 4) (k : Fin 6), s.dk.cfg.b3store = false → s.dk.br[b].deadDone[swLeg k] = false →
    s.dk.br[b].vsel = false → s.dk.br[b].defer[swLeg k] = some true → s.dk.br[b].dem[swLeg k] ≠ .rise →
    ∃ t, exec (.tminElapsed b k) s = .next t ∧ t = { s with dk := t.dk } ∧ t.dk.br[b].defer[swLeg k] = none ∧
      t.dk.br[b].sw[k].tmin = false ∧ t.dk.br[b].want = s.dk.br[b].want ∧ ∀ j : Fin 6, t.dk.br[b].sw[j].on = s.dk.br[b].sw[j].on)

/-- R262 and Procedure 9.1, BAND_WINDOW_END: the new band is the step of max(1, rne(h / 64)) towards the target outside the deadband of 1/64, limited to
H_MIN and H_MAX, and the count is reported; without regulation nothing changes. R270: the chopper of B3 in store mode turns on at an output at or
above the on-threshold and off at one at or below the off-threshold, and holds between; while B3 is not released it is off. -/
def Obligations.BandAndChopper : Prop :=
  ((∀ (s : State) (b : Fin 4), s.dk.clk = true → s.dk.br[b].winOn = true →
    ∃ t, exec (.bandWindowEnd b) s = .next t ∧ t = { s with dk := t.dk } ∧
      t.dk.br[b].lastN = s.dk.br[b].winN ∧ t.dk.br[b].winN = 0 ∧ t.dk.br[b].sw = s.dk.br[b].sw ∧
      (∀ c : Fin 4, c ≠ b → t.dk.br[c] = s.dk.br[c]) ∧
      (let x := s.dk.br[b]
       let lf := x.active.length * x.fTarget.toNat
       let stepH := max 1 (rne (x.h : Int) 64).toNat
       let lim := fun n : Nat => min (max n (bandCode x.hMin)) (bandCode x.hMax)
       (64 * 1000 * x.winN > 65 * lf → t.dk.br[b].h = lim (x.h + stepH)) ∧
       (64 * 1000 * x.winN < 63 * lf → t.dk.br[b].h = lim (x.h - stepH)) ∧
       (63 * lf ≤ 64 * 1000 * x.winN → 64 * 1000 * x.winN ≤ 65 * lf → t.dk.br[b].h = lim x.h))) ∧
  (∀ (s : State) (b : Fin 4), s.dk.br[b].winOn = false → exec (.bandWindowEnd b) s = .next s)) ∧
  (∀ (s : State) (v : BitVec 31) (tm on off : Word), s.dk.clk = true → s.dk.powered = true → s.dk.acked = true → s.dk.cfg.b3store = true →
    s.dk.chopPair = some (on, off) → s.dk.chopTmin = false → v.toNat ≤ dcCode s.dk.cfg.dcOv[3] → s.dk.cfg.dcUv[3] = 0 →
    ∃ t, exec (.dcLinkSample 3 v tm) s = .next t ∧ t = { s with dk := t.dk } ∧ t.dk.chopPair = s.dk.chopPair ∧
      (s.dk.br[3].released = false → t.dk.chop = false) ∧
      (s.dk.br[3].released = true → (on.toInt ≤ v.toNat → t.dk.chop = true) ∧
        ((v.toNat : Int) ≤ off.toInt → (v.toNat : Int) < on.toInt → t.dk.chop = false) ∧
        (off.toInt < v.toNat → (v.toNat : Int) < on.toInt → t.dk.chop = s.dk.chop)))

/-- R265-R268, R281 and Table 9.5: the first trip of a bridge turns its gate commands and STOE off, latches, opens the snapshot with its source and time,
and waits to be reported; a line on a bridge that is neither released nor latched only shows its level; a second event on a latched bridge is recorded
and raises nothing. -/
def Obligations.BridgeTrips : Prop :=
  (∀ (s : State) (b : Fin 4) (k : Fin 6) (lv : BitVec 6) (tm : Word), s.dk.clk = true → s.dk.br[b].released = true →
    s.dk.br[b].fault = false → s.dk.br[b].flt = 0 → lv = BitVec.ofNat 6 (2 ^ k.val) → s.dk.br[b].sw[k].blank = false →
    ∃ t, exec (.desat b lv tm) s = .next t ∧ t = { s with dk := t.dk } ∧ t.dk.br[b].fault = true ∧ t.dk.br[b].gates = 0 ∧
      t.dk.br[b].stoe = false ∧ t.dk.br[b].released = false ∧ t.dk.br[b].snap.src1 = snapSrc 1 k.val ∧ t.dk.br[b].snap.t1 = tm ∧
      t.dk.br[b].snap.gates = s.dk.br[b].gates ∧ t.dk.trip[b] = true ∧ ∀ c : Fin 4, c ≠ b → t.dk.br[c] = s.dk.br[c]) ∧
  (∀ (s : State) (b : Fin 4) (lv : BitVec 6) (tm : Word), s.dk.br[b].released = false → s.dk.br[b].fault = false →
    exec (.desat b lv tm) s = .next (s.modBr b fun x => { x with flt := lv })) ∧
  (∀ (s : State) (b : Fin 4) (k : Fin 6) (lv : BitVec 6) (tm : Word), s.dk.clk = true → s.dk.br[b].released = true →
    s.dk.br[b].fault = false → lv.getLsbD k = true →
    ∃ t, exec (.blankingEnd b k lv tm) s = .next t ∧ t = { s with dk := t.dk } ∧ t.dk.br[b].fault = true ∧ t.dk.br[b].gates = 0 ∧
      t.dk.br[b].stoe = false ∧ t.dk.br[b].snap.src1 = snapSrc 1 k.val ∧ t.dk.br[b].snap.t1 = tm ∧ t.dk.trip[b] = true) ∧
  (∀ (s : State) (b : Fin 4) (p : Fin 3) (code : BitVec 12) (tm : Word), s.dk.clk = true → s.dk.powered = true → s.dk.acked = true →
    s.dk.br[b].fault = false → 2048 + s.dk.cfg.oc[b] < code.toNat ∨ code.toNat + s.dk.cfg.oc[b] < 2048 →
    ∃ t, exec (.overcurrent b p code tm) s = .next t ∧ t = { s with dk := t.dk } ∧ t.dk.br[b].fault = true ∧ t.dk.br[b].gates = 0 ∧
      t.dk.br[b].stoe = false ∧ t.dk.br[b].snap.src1 = snapSrc 2 (2 * p.val) ∧ t.dk.br[b].snap.t1 = tm ∧ t.dk.trip[b] = true) ∧
  (∀ (s : State) (b : Fin 4) (p : Fin 3) (code : BitVec 12) (tm : Word), s.dk.clk = true → s.dk.powered = true → s.dk.acked = true →
    s.dk.br[b].fault = true → s.dk.br[b].snap.valid2 = false → s.dk.br[b].snap.src1 ≠ snapSrc 2 (2 * p.val) →
    tm ≠ s.dk.br[b].snap.t1 → (tm - s.dk.br[b].snap.t1).toNat ≤ 400 → b ≠ 3 → 2048 + s.dk.cfg.oc[b] < code.toNat →
    exec (.overcurrent b p code tm) s = .next (s.modBr b fun x =>
      { x with snap := { x.snap with valid2 := true, src2 := snapSrc 2 (2 * p.val), t2 := tm } })) ∧
  (∀ (s : State) (b : Fin 4) (v : BitVec 31) (tm : Word), s.dk.clk = true → s.dk.powered = true → s.dk.acked = true → b ≠ 3 → s.dk.br[b].fault = false →
    dcCode s.dk.cfg.dcOv[b] < v.toNat → s.dk.br[b].ovCnt = 1 → s.dk.cfg.dcUv[b] = 0 →
    ∃ t, exec (.dcLinkSample b v tm) s = .next t ∧ t = { s with dk := t.dk } ∧ t.dk.br[b].fault = true ∧ t.dk.br[b].gates = 0 ∧
      t.dk.br[b].stoe = false ∧ t.dk.br[b].snap.src1 = snapSrc 3 0 ∧ t.dk.trip[b] = true) ∧
  (∀ (s : State) (b : Fin 4) (tm : Word), s.dk.clk = true → s.dk.powered = true → s.dk.acked = true → s.dk.br[b].released = true → s.dk.br[b].fault = false →
    s.dk.cfg.ntcTrip[b] ≠ 0 → s.dk.br[b].ntcCnt = 2 →
    ∃ t, exec (.ntcRead b 0 tm) s = .next t ∧ t = { s with dk := t.dk } ∧ t.dk.br[b].fault = true ∧ t.dk.br[b].gates = 0 ∧
      t.dk.br[b].ntcShort = true ∧ t.dk.br[b].snap.src1 = snapSrc 5 0 ∧ t.dk.trip[b] = true)

/-- R263, R254, R256: STOE is raised only while every condition of R263 holds, and TSTOE later the gate commands are enabled; with RUN 1 the band takes H
and every active leg asks for LO; a fault line that is high then trips the bridge at once; without a condition of R263 nothing changes, and HBD that
toggles anew is seen with the carriers of that moment (R26). R267, R274, R321, R333: a report of a trip gives the logic island its
copy of the latch and the snapshot and enters LOCKOUT for the code of its kind; a failed running inhibit test, and a switch untested for 100 ms on a
released bridge, enter LOCKOUT for STO_PATH_TEST; a passed test changes nothing. -/
def Obligations.BridgeReleaseAndReports : Prop :=
  ((∀ (s : State) (b : Fin 4), relCond s b = true → s.saf.ka.getLsbD b = true → s.dk.br[b].testHold = false →
    exec (.stoeRaise b) s = .next (s.modBr b fun x => { x with stoe := true })) ∧
  (∀ (s : State) (b : Fin 4) (tm : Word), s.dk.hbd = true ∨ hbdToggles s = false →
    s.dk.br[b].ka = false ∨ s.dk.hbd = false ∨ s.dk.br[b].fault = true ∨ s.dk.acked = false ∨ s.dk.powered = false →
    exec (.stoeRaise b) s = .next s ∧ exec (.gateEnable b tm) s = .next s) ∧
  (∀ (s : State) (b : Fin 4), s.dk.hbd = false → hbdToggles s = true → s.dk.powered = true →
    ∃ t, exec (.stoeRaise b) s = .next t ∧ t = { s with dk := t.dk } ∧ t.dk.hbd = true ∧
      ∀ c : Fin 4, t.dk.br[c].ka = s.saf.ka.getLsbD c ∧ (c ≠ b → t.dk.br[c].stoe = s.dk.br[c].stoe)) ∧
  (∀ (s : State) (b : Fin 4) (tm : Word), relCond s b = true → s.dk.br[b].stoe = true → s.dk.br[b].released = false → s.dk.br[b].run = true →
    s.dk.br[b].flt = 0 →
    ∃ t, exec (.gateEnable b tm) s = .next t ∧ t = { s with dk := t.dk } ∧ t.dk.br[b].released = true ∧ t.dk.br[b].sw = s.dk.br[b].sw ∧
      t.dk.br[b].h = bandCode (s.dk.br[b].hWord.getD 0) ∧ (∀ p : Fin 3, s.dk.br[b].active.contains p = true → t.dk.br[b].pend[p] = some false) ∧
      ∀ c : Fin 4, c ≠ b → t.dk.br[c] = s.dk.br[c]) ∧
  (∀ (s : State) (b : Fin 4) (tm : Word), relCond s b = true → s.dk.br[b].stoe = true → s.dk.br[b].released = false → s.dk.br[b].run = false →
    s.dk.br[b].flt = 0 →
    ∃ t, exec (.gateEnable b tm) s = .next t ∧ t = { s with dk := t.dk } ∧ t.dk.br[b].released = true ∧ t.dk.br[b].sw = s.dk.br[b].sw ∧
      t.dk.br[b].pend = s.dk.br[b].pend) ∧
  (∀ (s : State) (b : Fin 4) (k : Fin 6) (tm : Word), relCond s b = true → s.dk.br[b].stoe = true → s.dk.br[b].released = false →
    s.dk.br[b].flt = BitVec.ofNat 6 (2 ^ k.val) → s.dk.br[b].sw[k].blank = false →
    ∃ t, exec (.gateEnable b tm) s = .next t ∧ t = { s with dk := t.dk } ∧ t.dk.br[b].fault = true ∧ t.dk.br[b].gates = 0 ∧
      t.dk.br[b].stoe = false ∧ t.dk.br[b].released = false ∧ t.dk.br[b].snap.src1 = snapSrc 1 k.val ∧ t.dk.br[b].snap.t1 = tm ∧
      t.dk.trip[b] = true ∧ ∀ c : Fin 4, c ≠ b → t.dk.br[c] = s.dk.br[c])) ∧
  ((∀ (s : State) (b : Fin 4), s.dk.trip[b] = true → s.trst.adopted = true → FaultEnters s →
    ∃ t, exec (.bridgeTripReport b) s = .next t ∧ LockedFor (tripCode s.dk.br[b].snap.src1) t ∧ t.trst.px[b].bfault = true ∧
      t.trst.px[b].snap = s.dk.br[b].snap ∧ t.dk.trip[b] = false ∧ t.dk.br = s.dk.br ∧ t.mem = s.mem ∧ t.img = s.img) ∧
  (∀ (s : State) (b : Fin 4) (k : Fin 6), inhibitTestable s b k = true → FaultEnters s →
    ∃ t, exec (.stoInhibitTest b k false) s = .next t ∧ LockedFor cStoPathTest t ∧ LockoutFrame s t) ∧
  (∀ (s : State) (b : Fin 4) (k : Fin 6), exec (.stoInhibitTest b k true) s = .next s) ∧
  (∀ (s : State) (b : Fin 4) (k : Fin 6), s.dk.br[b].released = true → FaultEnters s →
    ∃ t, exec (.stoPathTest b k) s = .next t ∧ LockedFor cStoPathTest t ∧ LockoutFrame s t))

/-- R61, R66, R47, SELECT_RECIPE: while another request is pending only COLLIDE is set; a recipe number beyond COUNT is refused REFUSED_MODE with REASON
0x5; a non-secure requester without NS_SELECT is refused REFUSED_WORLD with REASON 0x5; outside OPERATE the answer is REFUSED_MODE with REASON 0x1; an
accepted request sets PEND and SWITCHING and starts the change, here one that destroys no channel. A refusal changes the request's report and nothing
else. R63, RECIPE_CREATE_CHANNELS: while a destroyed channel is not FREE nothing happens; once all are, a change to a recipe without channels puts its
axis configurations in force, ends with RESULT OK, and RECIPE, RCP_VALID and SWITCHING change; no channel and no memory changes. -/
def Obligations.RecipeChange : Prop :=
  ((∀ (s : State) (r : BitVec 4), s.sys.resPend = true →
    exec (.selectRecipe (.core .S) r) s = .next { s with sys := { s.sys with resCollide := true } }) ∧
  (∀ (s : State) (r : BitVec 4) (m : ModeTable), s.sys.resPend = false → s.img.mode = some m → m.recipes.length ≤ r.toNat →
    ∃ t, exec (.selectRecipe (.core .S) r) s = .next t ∧
      t = { s with net := t.net, sys := { s.sys with resAction := 1, resRcp := r.toNat, resCollide := false, resPend := false,
                                                     resResult := 0x14, resReason := 0x5, resIndex := 0xFF } }) ∧
  (∀ (s : State) (r : BitVec 4) (x : Recipe), s.sys.resPend = false → blockWritable s .NS 0 = true → recipeAt s r.toNat = some x →
    x.nsSelect = false →
    ∃ t, exec (.selectRecipe (.core .NS) r) s = .next t ∧
      t = { s with net := t.net, sys := { s.sys with resAction := 1, resRcp := r.toNat, resCollide := false, resPend := false,
                                                     resResult := 0x12, resReason := 0x5, resIndex := 0xFF } }) ∧
  (∀ (s : State) (r : BitVec 4) (x : Recipe), s.sys.resPend = false → recipeAt s r.toNat = some x → s.sys.mode ≠ .operate →
    ∃ t, exec (.selectRecipe (.core .S) r) s = .next t ∧
      t = { s with net := t.net, sys := { s.sys with resAction := 1, resRcp := r.toNat, resCollide := false, resPend := false,
                                                     resResult := 0x14, resReason := 0x1, resIndex := 0xFF } }) ∧
  (∀ (s : State) (r : BitVec 4) (x : Recipe), s.sys.resPend = false → recipeAt s r.toNat = some x →
    recipeRefusal (modeTake actSelect r.toNat s) .S r.toNat true = none → goingSlots (modeTake actSelect r.toNat s) x = [] →
    exec (.selectRecipe (.core .S) r) s = .next { s with sys := { s.sys with
      resAction := 1, resRcp := r.toNat, resCollide := false, resPend := true, switching := true
      change := some { rcp := r.toNat } } })) ∧
  ((∀ (s : State) (c : RcpChange), s.sys.change = some c → changeFreed s c = false → exec .recipeCreateChannels s = .next s) ∧
  (∀ (s : State) (c : RcpChange) (r : Recipe), s.sys.change = some c → c.step = 1 → c.asked = true → changeFreed s c = true →
    recipeAt s c.rcp = some r → r.chans = [] → s.sys.resPend = true →
    ∃ t, exec .recipeCreateChannels s = .next t ∧ t = { s with sys := t.sys, saf := t.saf, net := t.net } ∧ t.sys.recipe = c.rcp ∧
      t.sys.rcpValid = true ∧ t.sys.switching = false ∧ t.sys.change = none ∧ t.sys.resPend = false ∧ t.sys.resResult = 0 ∧
      t.sys.mode = s.sys.mode ∧ (∀ n : Fin 4, t.saf.ax[n].cfgIdx = r.axisCfg[n] ∧ t.saf.ax[n].latch = s.saf.ax[n].latch) ∧
      t.saf.ka = s.saf.ka ∧ t.saf.bkH = s.saf.bkH ∧ t.saf.causes = s.saf.causes))

/-- R51, R61, R71, Table 2.13: ENTER_MAINT is taken only from a session keyed S, in LOCKOUT.FAULT, with MAINT_EN_N low for 100 ms, and then enters
LOCKOUT.MAINT with every cause kept; a write by a core and a session keyed NS are refused with REASON 0xA, a pin that is not low long enough with
REASON 0x9, another mode with REASON 0x1; MAINT_EN_N going low starts its time, and its return leaves the mode as it is and, in LOCKOUT.MAINT, bars flash
commands. -/
def Obligations.MaintenanceMode : Prop :=
  (∀ s : State, s.sys.resPend = false → s.sys.mode = .lockoutFault → maintLow s = true →
    ∃ t, exec (.enterMaint (.hsp .S)) s = .next t ∧ t = { s with sys := t.sys, flash := t.flash, net := t.net } ∧
      t.sys.mode = .lockoutMaint ∧ t.sys.entry = enMaint ∧ t.sys.resResult = 0 ∧ t.sys.resPend = false) ∧
  (∀ s : State, s.sys.resPend = false →
    ∃ t, exec (.enterMaint (.core .S)) s = .next t ∧
      t = { s with net := t.net, sys := { s.sys with resAction := 3, resRcp := 0, resCollide := false, resPend := false,
                                                     resResult := 0x12, resReason := 0xA, resIndex := 0xFF } }) ∧
  (∀ s : State, s.sys.resPend = false → maintLow s = false →
    ∃ t, exec (.enterMaint (.hsp .S)) s = .next t ∧
      t = { s with net := t.net, sys := { s.sys with resAction := 3, resRcp := 0, resCollide := false, resPend := false,
                                                     resResult := 0x14, resReason := 0x9, resIndex := 0xFF } }) ∧
  (∀ s : State, s.sys.resPend = false →
    ∃ t, exec (.enterMaint (.hsp .NS)) s = .next t ∧
      t = { s with net := t.net, sys := { s.sys with resAction := 3, resRcp := 0, resCollide := false, resPend := false,
                                                     resResult := 0x12, resReason := 0xA, resIndex := 0xFF } }) ∧
  (∀ s : State, s.sys.resPend = false → s.sys.mode ≠ .lockoutFault → maintLow s = true →
    ∃ t, exec (.enterMaint (.hsp .S)) s = .next t ∧
      t = { s with net := t.net, sys := { s.sys with resAction := 3, resRcp := 0, resCollide := false, resPend := false,
                                                     resResult := 0x14, resReason := 0x1, resIndex := 0xFF } }) ∧
  (∀ s : State, s.sys.maintLowAt = none → exec .maintEnLow s = .next { s with sys := { s.sys with maintLowAt := some s.now } }) ∧
  (∀ s : State, s.sys.mode ≠ .lockoutMaint → exec .maintEnHigh s = .next { s with sys := { s.sys with maintLowAt := none } }) ∧
  (∀ s : State, s.sys.mode = .lockoutMaint →
    exec .maintEnHigh s = .next { s with sys := { s.sys with maintLowAt := none }, flash := { s.flash with barred := true } })

/-- R50, R325, R326, R72, R73: a press of 0.5 s to 3 s in LOCKOUT.FAULT with every cause gone is granted: it clears the causes and both copies of every
bridge fault, leaves every axis as it is (a latched one latched), and leads where LOCKOUT was entered from: OPERATE, BOOT.SELFTEST, or through a full
reset to BOOT.POWERUP with the table lock open again. A shorter or longer press only counts; with a cause of class 0x03 or 0x04, and when ENTRY is
STRAP, the press is counted as refused and the mode and the causes stay. -/
def Obligations.DeliberateReset : Prop :=
  (∀ (s : State) (t0 : Nat), s.saf.pressAt = some t0 → 500000 ≤ s.now - t0 → s.now - t0 ≤ 3000000 → s.sys.mode = .lockoutFault →
    s.sys.entry = enFault → (∀ c ∈ s.saf.causes, codeClass c.code = 2 ∧ c.code ≠ cDeckLost) → (∀ i : Fin 256, s.chn.slots[i].autoPend = false) →
    s.sys.lkFrom = .operate →
    ∃ t, exec (.lkrstPress [] []) s = .next t ∧ t.sys.mode = .operate ∧ t.sys.entry = enLkReset ∧ t.saf.causes = [] ∧
      t.saf.ax = s.saf.ax ∧ t.saf.ka = s.saf.ka ∧ t.saf.bkH = s.saf.bkH ∧ t.saf.pressAt = none ∧ t.chn = s.chn ∧ t.mem = s.mem ∧
      t.img = s.img ∧ ∀ b : Fin 4, t.dk.br[b].fault = false ∧ t.trst.px[b].bfault = false) ∧
  (∀ (s : State) (t0 : Nat), s.saf.pressAt = some t0 → 500000 ≤ s.now - t0 → s.now - t0 ≤ 3000000 → s.sys.mode = .lockoutFault →
    s.sys.entry = enFault → (∀ c ∈ s.saf.causes, codeClass c.code = 2 ∧ c.code ≠ cDeckLost) →
    s.sys.lkFrom = .bootSelftest ∨ s.sys.lkFrom = .bootCharge →
    ∃ t, exec (.lkrstPress [] []) s = .next t ∧ t.sys.mode = .bootSelftest ∧ t.sys.entry = enLkReset ∧ t.sys.appRun = false ∧
      t.saf.causes = [] ∧ t.saf.ax = s.saf.ax ∧ t.saf.ka = s.saf.ka ∧ t.img = s.img ∧ t.sec = s.sec ∧ t.chn = s.chn ∧ t.mem = s.mem) ∧
  (∀ (s : State) (t0 : Nat), s.saf.pressAt = some t0 → 500000 ≤ s.now - t0 → s.now - t0 ≤ 3000000 → s.sys.mode = .lockoutFault →
    s.sys.entry = enFault → (∀ c ∈ s.saf.causes, codeClass c.code = 2 ∧ c.code ≠ cDeckLost ∧ c.code ≠ cClockFail) →
    s.sys.lkFrom = .bootPowerup ∨ s.sys.lkFrom = .bootImage →
    ∃ t, exec (.lkrstPress [] []) s = .next t ∧ t.sys.mode = .bootPowerup ∧ t.pmu.cause = .lkrst ∧ t.pmu.rails = s.pmu.rails ∧
      t.sec.lock = false ∧ t.img = {} ∧ t.saf.causes = [] ∧ t.otp.newHash = s.otp.newHash ∧ t.cab.alibi = s.cab.alibi ∧
      t.aon.rtcAcc = s.aon.rtcAcc) ∧
  (∀ (s : State) (t0 : Nat) (x : List Code) (f : List (Code × (BitVec 8 × Word))), s.saf.pressAt = some t0 → s.now - t0 < 500000 →
    exec (.lkrstPress x f) s = .next { s with saf := { s.saf with
      lkrst := true, pressArmed := true, pressAt := none, pressShort := min 255 (s.saf.pressShort + 1) } }) ∧
  (∀ (s : State) (t0 : Nat) (x : List Code) (f : List (Code × (BitVec 8 × Word))), s.saf.pressAt = some t0 → 3000000 < s.now - t0 →
    exec (.lkrstPress x f) s = .next { s with saf := { s.saf with
      lkrst := true, pressArmed := true, pressAt := none, pressLong := min 255 (s.saf.pressLong + 1) } }) ∧
  (∀ (s : State) (t0 : Nat) (x : List Code) (f : List (Code × (BitVec 8 × Word))), s.saf.pressAt = some t0 → 500000 ≤ s.now - t0 → s.now - t0 ≤ 3000000 →
    s.sys.mode = .lockoutFault → s.sys.entry = enStrap ∨ (∃ c ∈ s.saf.causes, codeClass c.code = 3 ∨ codeClass c.code = 4) →
    exec (.lkrstPress x f) s = .next { s with saf := { s.saf with
      lkrst := true, pressArmed := true, pressAt := none, pressRefused := min 255 (s.saf.pressRefused + 1) } })

/-- R75, R76, R77, R88, R106, R482, RESET_RELEASE: with the rails up and reset not yet released, BOOTSEL = 11 or TEST_N low lead to LOCKOUT.FAULT with
ENTRY = STRAP, no cause and the flash never driven; a missing clock to LOCKOUT for CLOCK_FAIL on the system RC; an OTP area whose check fails to LOCKOUT for
OTP_CORRUPT with no attempt recorded; otherwise BOOT.IMAGE begins with discovery on the chip select that the strap names. After the release the straps
are not sampled again. R48, R92, R523, R526, R121, Table 19.1: SELFTEST passed begins BOOT.CHARGE with the charger on; VSAVE at 45 V with SAVE_READY
starts the check; a drop that gives C µF of 100 or more with SAVE_READY ends BOOT in OPERATE with the tables locked, C below 100 µF or no end within 5
s enters LOCKOUT for HOLDUP_LOW. -/
def Obligations.ResetReleaseAndBootEnd : Prop :=
  ((∀ (s : State) (b : BitVec 2) (dk tn ok : Bool), s.sys.mode = .bootPowerup → s.pmu.released = false → s.pmu.rails = .up → b = 3 ∨ tn = false →
    ∃ t, exec (.resetRelease b dk tn true ok) s = .next t ∧ t.sys.mode = .lockoutFault ∧ t.sys.entry = enStrap ∧ DriveOff t ∧
      t.saf.causes = s.saf.causes ∧ t.sys.bootsel = b ∧ t.sys.dkpresent = dk ∧ t.sys.testN = tn ∧ t.boot.csDriven = s.boot.csDriven ∧
      t.boot.qspiDriven = s.boot.qspiDriven ∧ t.img = s.img ∧ (s.dk.hbd = true ∨ s.dk.powered = false → t.dk = s.dk)) ∧
  (∀ (s : State) (b : BitVec 2) (dk : Bool), s.sys.mode = .bootPowerup → s.pmu.released = false → s.pmu.rails = .up → b ≠ 3 →
    ∃ t, exec (.resetRelease b dk true true true) s = .next t ∧ t.sys.mode = .bootImage ∧ t.sys.bootsel = b ∧ t.sys.dkpresent = dk ∧
      t.boot.phase = .discovery ∧ t.boot.cs = decide (b = 1) ∧ t.boot.csDriven = true ∧ t.pmu.released = true ∧ t.saf = s.saf ∧
      t.img = s.img ∧ t.chn = s.chn ∧ (s.dk.hbd = true ∨ s.dk.powered = false → t.dk = s.dk)) ∧
  (∀ (s : State) (b : BitVec 2) (dk : Bool), s.sys.mode = .bootPowerup → s.pmu.released = false → s.pmu.rails = .up → b ≠ 3 →
    ∃ t, exec (.resetRelease b dk true true false) s = .next t ∧ LockedFor cOtpCorrupt t ∧ t.boot.cs0Err = s.boot.cs0Err ∧
      t.boot.cs1Err = s.boot.cs1Err ∧ t.boot.src = s.boot.src) ∧
  (∀ (s : State) (b : BitVec 2) (dk tn ok : Bool), s.sys.mode = .bootPowerup → s.pmu.released = false → s.pmu.rails = .up →
    ∃ t, exec (.resetRelease b dk tn false ok) s = .next t ∧ LockedFor cClockFail t ∧ t.clk.rc = true ∧ t.boot.csDriven = s.boot.csDriven) ∧
  (∀ (s : State) (b : BitVec 2) (dk tn ck ok : Bool), s.pmu.released = true → exec (.resetRelease b dk tn ck ok) s = .next s)) ∧
  ((∀ s : State, s.sys.mode = .bootSelftest → s.boot.halted = false →
    ∃ t, exec .selftestDone s = .next t ∧ t = { s with sys := t.sys, trst := t.trst, boot := t.boot, save := t.save, fio := t.fio, fan := t.fan } ∧
      t.sys.mode = .bootCharge ∧ t.save.charge = true ∧ t.trst.selftestOver = true ∧ t.trst.adopted = s.trst.adopted) ∧
  (∀ (s : State) (v : BitVec 16), s.sys.mode = .bootCharge → s.boot.halted = false → s.save.ready = true → s.boot.capCheck = false →
    exec (.vsaveFull v) s = .next { s with
      boot := { s.boot with capCheck := true }, save := { s.save with vsave := v.toNat, charge := false } }) ∧
  (∀ (s : State) (v1 v2 : BitVec 16) (c : Nat), s.sys.mode = .bootCharge → s.boot.halted = false → s.boot.capCheck = true →
    s.save.ready = true → s.img.mode = none → v2.toNat < v1.toNat → (v1.toNat - v2.toNat) * c = 50000 → 100 ≤ c →
    (∀ i : Fin 256, s.chn.slots[i].autoPend = false) →
    ∃ t, exec (.capacitanceCheckDone v1 v2) s = .next t ∧ t.sys.mode = .operate ∧ t.sys.entry = enBootDone ∧ t.sec.lock = true ∧
      t.save.capC = c ∧ t.save.capDrop = v1.toNat - v2.toNat ∧ t.save.cwarn = decide (c < 110) ∧ t.sys.rcpValid = s.sys.rcpValid ∧
      t.saf = s.saf ∧ t.chn = s.chn ∧ t.mem = s.mem ∧ t.dk = s.dk) ∧
  (∀ (s : State) (v1 v2 : BitVec 16) (c : Nat), s.sys.mode = .bootCharge → s.boot.halted = false → s.boot.capCheck = true →
    v2.toNat < v1.toNat → (v1.toNat - v2.toNat) * c = 50000 → c < 100 →
    ∃ t, exec (.capacitanceCheckDone v1 v2) s = .next t ∧ LockedFor cHoldupLow t ∧ t.save.capC = c) ∧
  (∀ s : State, s.sys.mode = .bootCharge → s.boot.halted = false →
    ∃ t, exec .chargeTimeout s = .next t ∧ LockedFor cHoldupLow t ∧ t.img = s.img ∧ t.mem = s.mem))

/-- R77-R86, R89, R90, R100, R648 and Table 3.5: each phase of an attempt that passes leads to the next with nothing of the candidate in force, and the
last one applies the image, releases the flash and begins BOOT.SELFTEST. The commands that each
phase sends are those of Procedure 3.1 and fast reads. A failing step records its detail code and clears core SRAM and capture RAM; with a second
flash still to try the attempt moves there, else the fault of that step enters LOCKOUT. -/
def Obligations.ImageVerification : Prop :=
  (∀ (s : State) (f : FlashId), inPhase .discovery s = true → discoveryFail f = none →
    exec (.flashDiscovery f) s = .next { s with
      boot := { s.boot with phase := .header, dAddr4 := flash4Byte f, density := flashDensity f.dw2 }
      flash := { s.flash with sent := flashProbe false f } }) ∧
  (∀ (s : State) (h : List Byte), inPhase .header s = true → h.length = 256 → headerFail s h = none →
    exec (.imageHeaderCheck h) s = .next { s with
      boot := { s.boot with phase := .body, header := h }, flash := { s.flash with sent := [flashFastRead s.boot.dAddr4 0] } }) ∧
  (∀ (s : State) (b : List Byte), inPhase .body s = true → b.length = u32 s.boot.header 8 - 256 → sha256 b = slice s.boot.header 0x28 32 →
    exec (.bodyRead b) s = .next { s with
      boot := { s.boot with phase := .commit, body := b }, flash := { s.flash with sent := [flashFastRead s.boot.dAddr4 0x100] } }) ∧
  (∀ (s : State) (p : Parsed), inPhase .commit s = true → commitCheck s.boot.header (s.boot.header ++ s.boot.body) = .ok p →
    ∃ t, exec .imageCommit s = .next t ∧ t.sys.mode = .bootSelftest ∧ t.img = p.img ∧ t.sec.bwt = p.bwt ∧ t.sec.rgn = p.rgn ∧
      t.boot.loaded = true ∧ t.boot.locked = true ∧ t.boot.csDriven = true ∧ t.boot.qspiDriven = false ∧
      t.boot.src = (if s.boot.cs then 1 else 0) ∧ t.dk = s.dk) ∧
  (∀ (s : State) (f : FlashId) (d : Nat), inPhase .discovery s = true → discoveryFail f = some d → s.sys.bootsel = 2 → s.boot.cs = false →
    ∃ t, exec (.flashDiscovery f) s = .next t ∧ t = { s with boot := t.boot, mem := t.mem, flash := t.flash, fab := { s.fab with soft := t.fab.soft, hard := t.fab.hard } } ∧
      t.boot.phase = .discovery ∧ t.flash = { s.flash with sent := flashProbe false f } ∧
      t.boot.cs = true ∧ t.boot.cs0Err = d ∧ t.boot.cs1Err = s.boot.cs1Err ∧ t.boot.src = s.boot.src ∧
      (∀ a, 0x10000000 ≤ a → a < 0x10100000 → memByte t.mem a = 0) ∧ (∀ a, 0x20100000 ≤ a → a < 0x20140000 → memByte t.mem a = 0) ∧
      (MemWf s → ∀ a, a < 0x10000000 ∨ (0x10100000 ≤ a ∧ a < 0x20100000) ∨ 0x20140000 ≤ a → memByte t.mem a = memByte s.mem a)) ∧
  (∀ (s : State) (h : List Byte) (d : Nat), inPhase .header s = true → h.length = 256 → headerFail s h = some d →
    s.sys.bootsel ≠ 2 ∨ s.boot.cs = true →
    ∃ t, exec (.imageHeaderCheck h) s = .next t ∧ LockedFor (imageFault d) t ∧ t.img = s.img ∧ t.boot.src = s.boot.src ∧
      (if s.boot.cs then t.boot.cs1Err = d else t.boot.cs0Err = d)) ∧
  (∀ (s : State) (b : List Byte), inPhase .body s = true → sha256 b ≠ slice s.boot.header 0x28 32 → s.sys.bootsel ≠ 2 ∨ s.boot.cs = true →
    ∃ t, exec (.bodyRead b) s = .next t ∧ LockedFor cImageSig t ∧ t.img = s.img ∧
      (if s.boot.cs then t.boot.cs1Err = 0x0A else t.boot.cs0Err = 0x0A)) ∧
  (∀ (s : State) (d : Nat), inPhase .commit s = true → commitCheck s.boot.header (s.boot.header ++ s.boot.body) = .error d →
    s.sys.bootsel ≠ 2 ∨ s.boot.cs = true →
    ∃ t, exec .imageCommit s = .next t ∧ LockedFor (imageFault d) t ∧ t.img = s.img ∧
      (if s.boot.cs then t.boot.cs1Err = d else t.boot.cs0Err = d))

/-- R10, R36, R121, R628: a register write that decode, power and world admit is performed with the register's own effect and answered DONE; SEC_BWT takes
its bits but 3, 8, 22 and 31:26 until the tables lock and ignores the write afterwards; the interrupt enables of the application core take every word.
R114, R123, R135: a write by the application core to a register of PMU, CLK, DK, SAF or SAVE that the block world table does not admit is answered
FAULT_WORLD, counted in COUNT and SAFETY, recorded with CAUSE 2 and logged as 0x0210 of kind 4; the block and the mode stay as they were, in LOCKOUT
too. To another block that is not admitted it is counted in COUNT alone with CAUSE 0 and logged nowhere. -/
def Obligations.RegisterWrites : Prop :=
  ((∀ (s : State) (i : Initiator) (w : World) (a v : Word) (b o : Nat), (i = .jtag → debugOpen s w = true) → i ≠ .cabWindow →
    target a.toNat = .periph b o → pdFault s (initId i) a.toNat = false → tagFree s (initPool i (initWorld i w)) = true →
    let s1 := tagHeld s (initId i) (initWorld i w) a 4 v
    let x := txnMake (initId i) (initWorld i w) .write a 4 [v] s
    regDecodeFault s1 .write b o 4 = false → regWorldCheck s1 (initId i) (initWorld i w) .write b o = .ok →
    exec (.registerWrite i w (.addr a) v) s =
      .next (txnDone x (busAnswer x .done [] (regWrite (.core (initWorld i w)) (initWorld i w) b o v s1)))) ∧
  (∀ (s : State) (v : Word), s.fab.dom[1] = .on → TagReady s 0 → s.sec.lock = false →
    exec (.registerWrite .secureCore .S (.addr 0x40030000) v) s = .next { s with
      sec := { s.sec with bwt := v &&& 0x03BFFEF7 }
      fab := fabAnswered s 0 .done }) ∧
  (∀ (s : State) (v : Word), s.fab.dom[1] = .on → TagReady s 0 → s.sec.lock = true →
    exec (.registerWrite .secureCore .S (.addr 0x40030000) v) s = .next { s with fab := fabAnswered s 0 .done }) ∧
  (∀ (s : State) (w : World) (v : Word),
    exec (.registerWrite .appCore w (.csr 0x7C0) v) s = .next { s with sys := { s.sys with mirqEn0 := v } } ∧
    exec (.registerWrite .appCore w (.csr 0x7C1) v) s = .next { s with sys := { s.sys with mirqEn1 := v } })) ∧
  ((∀ (s : State) (w : World) (a v : Word) (b o : Nat), target a.toNat = .periph b o → b = 1 ∨ b = 2 ∨ b = 7 ∨ b = 8 ∨ b = 22 →
    TagReady s 1 → regDecodeFault (tagHeld s 1 .NS a 4 v) .write b o 4 = false → pdFault s 1 a.toNat = false → s.sec.bwt.getLsbD b = false →
    ∃ t, exec (.registerWrite .appCore w (.addr a) v) s = .next t ∧
      t = { s with sec := t.sec, fab := t.fab, saf := { s.saf with hist := t.saf.hist } } ∧
      t.sec = { s.sec with violCount := incSat 65535 s.sec.violCount, violSafety := incSat 65535 s.sec.violSafety, violInit := 1,
                           violKind := 1, violCause := 2, violValid := true, violAddr := a } ∧
      t.fab = fabAnswered s 1 .faultWorld ∧
      ∃ e, t.saf.hist = s.saf.hist ++ [e] ∧ e.code = 0x0210 ∧ e.kind = 4) ∧
  (∀ (s : State) (w : World) (a v : Word) (b o : Nat), target a.toNat = .periph b o → b ∉ [1, 2, 5, 6, 7, 8, 21, 22] →
    TagReady s 1 → regDecodeFault (tagHeld s 1 .NS a 4 v) .write b o 4 = false → pdFault s 1 a.toNat = false → s.sec.bwt.getLsbD b = false →
    exec (.registerWrite .appCore w (.addr a) v) s = .next { s with
      sec := { s.sec with violCount := incSat 65535 s.sec.violCount, violInit := 1, violKind := 1, violCause := 0, violValid := true, violAddr := a }
      fab := fabAnswered s 1 .faultWorld }))

/-- R164, R174, R455: a core write of LMEM is performed on a word of the inactive bank and refused with FAULT_DECODE elsewhere, on a STATUS word it clears
SAT and EXP_OVF and leaves the other bits; a board word takes the write only where HOSTWORDS makes it host-writable. Nothing else changes. -/
def Obligations.LmemAndBoardWrites : Prop :=
  (∀ (s : State) (w : World) (a v : Word) (n o : Nat), target a.toNat = .lmem → lmemRec a.toNat = some (n, o) → o < 0x40 → a.toNat % 4 = 0 →
    lmemWritable s a.toNat = true → w = .S ∨ lmemWorld s a.toNat = .NS → s.fab.dom[1] = .on → s.fab.dom[2] = .on →
    TagReady s (idPool (coreInit w) w) →
    exec (.lmemCoreWrite w a 4 v) s = .next (eccGood [a.toNat] { s with
      mem := memSetBytes s.mem a.toNat (leBytes 4 v.toNat)
      fab := fabAnswered s (coreInit w) .done })) ∧
  (∀ (s : State) (w : World) (a v : Word) (size : Nat), target a.toNat = .lmem → lmemWritable s a.toNat = false →
    pdFault s (coreInit w) a.toNat = true ∨ TagReady s (idPool (coreInit w) w) →
    exec (.lmemCoreWrite w a size v) s = .next { s with fab := fabAnswered s (coreInit w) .faultDecode }) ∧
  (∀ (s : State) (w : World) (r : Fin 2048) (v : Word) (x : RecOwner), recOwner s r.val = some x → w = .S ∨ s.chn.slots[x.slot].world = .NS →
    s.fab.dom[1] = .on → s.fab.dom[2] = .on → TagReady s (idPool (coreInit w) w) → MemWf s →
    ∃ t, exec (.statusWordWrite w r v) s = .next t ∧ t = { s with mem := t.mem, fab := t.fab } ∧
      t.fab.resps = [(s.fab.nextId, (.done, []))] ∧
      memWord t.mem (recAddr r.val + 0x5C) = memWord s.mem (recAddr r.val + 0x5C) &&& 0xFFFE0000#32 ∧
      ∀ a, a < recAddr r.val + 0x5C ∨ recAddr r.val + 0x60 ≤ a → memByte t.mem a = memByte s.mem a) ∧
  (∀ (s : State) (w : World) (n : Fin 64) (v : Word), hostWord s n.val = true → s.fab.dom[1] = .on → s.fab.dom[2] = .on →
    TagReady s (idPool (coreInit w) w) →
    ∃ t, exec (.boardWordWrite w n v) s = .next t ∧ t = { s with le := { s.le with board := t.le.board, boardVer := t.le.boardVer }, fab := t.fab } ∧
      t.fab.resps = [(s.fab.nextId, (.done, []))] ∧ t.le.board[n] = v ∧ ∀ m : Fin 64, m ≠ n → t.le.board[m] = s.le.board[m]) ∧
  (∀ (s : State) (w : World) (n : Fin 64) (v : Word), hostWord s n.val = false →
    pdFault s (coreInit w) (0x40060100 + 4 * n.val) = true ∨ TagReady s (idPool (coreInit w) w) →
    exec (.boardWordWrite w n v) s = .next { s with fab := fabAnswered s (coreInit w) .faultDecode })

/-- R195, R196, R198-R200: a request takes a tag of its pool, or waits in issue order with FAB_EMPTY set; the target's answer moves the tag into
return and gives one response; a word with an uncorrectable error is counted and answered FAULT_ECC; a returned tag is free again or goes to the
first waiting request of its pool; a snapshot copies the free and in-flight counts, its own tag among them. -/
def Obligations.FabricTags : Prop :=
  (∀ (s : State) (r : BusReq), r.init ≠ .jtag → txnRefused s (txnOf r s.fab.nextId) = none →
    0 < s.fab.pools[(txnOf r s.fab.nextId).pool].free → s.fab.pools[(txnOf r s.fab.nextId).pool].waiting = [] →
    ∃ t, exec (.transactionIssue r) s = .next t ∧ t = { s with fab := t.fab } ∧ t.fab.flight = s.fab.flight ++ [txnOf r s.fab.nextId] ∧
      t.fab.ret = s.fab.ret ∧ t.fab.resps = [] ∧ t.fab.nextId = s.fab.nextId + 1 ∧ t.fab.empty = s.fab.empty ∧
      t.fab.pools[(txnOf r s.fab.nextId).pool].free + 1 = s.fab.pools[(txnOf r s.fab.nextId).pool].free ∧
      ∀ k, k ≠ (txnOf r s.fab.nextId).pool → t.fab.pools[k] = s.fab.pools[k]) ∧
  (∀ (s : State) (r : BusReq), r.init ≠ .jtag → txnRefused s (txnOf r s.fab.nextId) = none →
    s.fab.pools[(txnOf r s.fab.nextId).pool].free = 0 →
    ∃ t, exec (.transactionIssue r) s = .next t ∧ t = { s with fab := t.fab } ∧ t.fab.flight = s.fab.flight ∧ t.fab.resps = [] ∧
      t.fab.pools[(txnOf r s.fab.nextId).pool].waiting =
        s.fab.pools[(txnOf r s.fab.nextId).pool].waiting ++ [txnOf r s.fab.nextId] ∧
      t.fab.empty = s.fab.empty ||| (1#8 <<< (txnOf r s.fab.nextId).pool.val)) ∧
  (∀ (s : State) (x : Txn) (n : Nat), s.fab.flight.find? (fun y => decide (y.id = n)) = some x → x.kind = .read → x.size = 4 →
    target x.addr.toNat = .sram → x.addr.toNat % 4 = 0 → x.init ≠ 6 → memWorldCheck s x.world .read x.addr.toNat = .ok → x.dma = none →
    (∀ y ∈ s.net.xfers, y.id ≠ n) → x.addr.toNat ∉ s.fab.hard → x.addr.toNat ∉ s.fab.soft →
    ∃ t, exec (.transactionResponse n []) s = .next t ∧ t = { s with fab := t.fab } ∧ t.fab.flight = s.fab.flight.erase x ∧
      t.fab.ret = s.fab.ret ++ [x] ∧ t.fab.pools = s.fab.pools ∧ t.fab.corr = s.fab.corr ∧ t.fab.uncorr = s.fab.uncorr ∧
      t.fab.resps = [(x.id, (.done, [memWord s.mem x.addr.toNat]))]) ∧
  (∀ (s : State) (x : Txn) (n : Nat), s.fab.flight.find? (fun y => decide (y.id = n)) = some x → x.kind = .read → x.size = 4 →
    target x.addr.toNat = .sram → x.addr.toNat % 4 = 0 → x.init ≠ 6 → memWorldCheck s x.world .read x.addr.toNat = .ok → x.dma = none →
    (∀ y ∈ s.net.xfers, y.id ≠ n) →
    ∃ t, exec (.transactionResponse n [(x.addr, true)]) s = .next t ∧ t = { s with fab := t.fab } ∧ t.fab.ret = s.fab.ret ++ [x] ∧
      t.fab.uncorr = incSat 65535 s.fab.uncorr ∧ t.fab.resps = [(x.id, (.faultEcc, []))] ∧
      t.fab.excs = if isCore x.init then [(x.init, .read)] else []) ∧
  (∀ (s : State) (x : Txn) (n : Nat) (d : Word), s.fab.flight.find? (fun y => decide (y.id = n)) = some x → x.kind = .write → x.size = 4 →
    x.data = [d] → target x.addr.toNat = .sram → x.addr.toNat % 4 = 0 → x.init ≠ 6 → memWorldCheck s x.world .write x.addr.toNat = .ok →
    x.dma = none → (∀ y ∈ s.net.xfers, y.id ≠ n) →
    ∃ t, exec (.transactionResponse n []) s = .next t ∧ t = { s with fab := t.fab, mem := t.mem } ∧
      t.mem = memSetBytes s.mem x.addr.toNat (leBytes 4 d.toNat) ∧ t.fab.flight = s.fab.flight.erase x ∧ t.fab.ret = s.fab.ret ++ [x] ∧
      t.fab.resps = [(x.id, (.done, []))]) ∧
  (∀ (s : State) (x : Txn) (n : Nat), s.fab.ret.find? (fun y => decide (y.id = n)) = some x → s.fab.pools[x.pool].waiting = [] →
    ∃ t, exec (.tagReturn n) s = .next t ∧ t = { s with fab := t.fab } ∧ t.fab.ret = s.fab.ret.erase x ∧ t.fab.flight = s.fab.flight ∧
      t.fab.resps = [] ∧ t.fab.pools[x.pool].free = s.fab.pools[x.pool].free + 1 ∧ ∀ k, k ≠ x.pool → t.fab.pools[k] = s.fab.pools[k]) ∧
  (∀ (s : State) (x y : Txn) (l : List Txn) (n : Nat), s.fab.ret.find? (fun z => decide (z.id = n)) = some x →
    s.fab.pools[x.pool].waiting = y :: l → txnRefused s y = none → y.pool = x.pool →
    ∃ t, exec (.tagReturn n) s = .next t ∧ t = { s with fab := t.fab } ∧ t.fab.flight = s.fab.flight ++ [y] ∧
      t.fab.pools[x.pool].waiting = l ∧ t.fab.pools[x.pool].free = s.fab.pools[x.pool].free) ∧
  (∀ (s : State) (w : World), w = .S ∨ s.sec.bwt.getLsbD 4 = true → s.fab.dom[1] = .on → TagReady s (idPool (coreInit w) w) →
    ∃ t, exec (.fabSnapTake w) s = .next t ∧ t = { s with fab := t.fab } ∧ t.fab.settled = s.fab.ret.isEmpty ∧
      t.fab.pools = s.fab.pools ∧ t.fab.flight = s.fab.flight ∧
      ∀ k : Fin 8, t.fab.snapFree[k] = s.fab.pools[k].free - (if k = idPool (coreInit w) w then 1 else 0) ∧
        t.fab.snapFlt[k] = (s.fab.flight.countP fun x => decide (x.pool = k)) + if k = idPool (coreInit w) w then 1 else 0)

/-- R201, R202, R240: from the decision a domain refuses new requests with FAULT_PD and no tag; at tQUIESCE the unfinished reads of the domain are aborted,
counted, and their tags enter return, and the capture units end with the Loop Engine domain; the domain is isolated once none of its transactions is in flight and no tag of it in return. The always-on
domain does not power down. -/
def Obligations.DomainPowerDown : Prop :=
  (∀ (s : State) (d : Fin 4), d ≠ 0 → s.fab.dom[d] = .on → (∀ k : Fin 8, s.fab.pools[k].waiting = []) →
    ∃ t, exec (.domainPowerDown d) s = .next t ∧
      t = { s with fab := t.fab, cap := if d = 2 then s.cap.map CapUnit.ended else s.cap } ∧ t.fab.dom[d] = .quiescing ∧
      (∀ e, e ≠ d → t.fab.dom[e] = s.fab.dom[e]) ∧ t.fab.flight = s.fab.flight ∧ t.fab.ret = s.fab.ret ∧
      ∀ k : Fin 8, t.fab.pools[k].free = s.fab.pools[k].free) ∧
  (∀ s : State, exec (.domainPowerDown 0) s = .next (busFresh s)) ∧
  (∀ (s : State) (r : BusReq), r.init ≠ .jtag → r.dma = none → domDown s (targetDomain (target r.addr.toNat)) = true →
    busDecodeFault s r.kind r.addr.toNat (min r.size 4) = false →
    exec (.transactionIssue r) s = .next { s with fab := { s.fab with
      nextId := s.fab.nextId + 1, resps := [(s.fab.nextId, (.faultPd, []))]
      excs := if isCore (initId r.init) then [(initId r.init, r.kind)] else [] } }) ∧
  (∀ (s : State) (d : Fin 4) (l : List (Nat × Nat)), s.fab.dom[d] = .quiescing →
    (∀ x ∈ s.fab.flight, x.kind ≠ .write ∧ x.dma = none ∧ ∀ y ∈ s.net.xfers, y.id ≠ x.id) →
    ∃ t, exec (.quiesceTimeout d l) s = .next t ∧ t = { s with fab := t.fab } ∧ t.fab.flight = s.fab.flight.filter (fun x => !txnIn d x) ∧
      t.fab.ret = s.fab.ret ++ s.fab.flight.filter (txnIn d) ∧ t.fab.pools = s.fab.pools ∧ t.fab.dom = s.fab.dom ∧
      t.fab.resps.length = (s.fab.flight.filter (txnIn d)).length) ∧
  (∀ (s : State) (d : Fin 4), s.fab.dom[d] = .quiescing → (∀ x ∈ s.fab.flight ++ s.fab.ret, txnIn d x = false) →
    exec (.domainIsolate d) s = .next { s with fab := { s.fab with dom := s.fab.dom.set d .off } }) ∧
  (∀ (s : State) (d : Fin 4) (x : Txn), x ∈ s.fab.flight ++ s.fab.ret → txnIn d x = true → exec (.domainIsolate d) s = .next s)

/-- R138, R139, R142, R151 and Table 5.9, CREATE: an accepted one takes the lowest FREE slot, CREATED with its template, axis, world and bank, and answers
OK with its handle; every other slot is as before. A port with PEND set only collides; in LOCKOUT the answer is REFUSED_MODE, during a recipe change
BUSY, and for a template number beyond the table BAD_TEMPLATE, and each of these changes the port alone. -/
def Obligations.ChannelCreation : Prop :=
  (∀ (s : State) (c : ChnCall) (p : Plan), PortsIdle s → s.sys.mode = .operate → s.sys.switching = false → getf c.w[0] 16 8 = 0 →
    createPlan s (callWorld c) (getf c.w[0] 0 8) (getf c.w[0] 8 8) (getb c.w[0] 24) (some []) [] = .ok p →
    ∃ t, exec (.create c) s = .next t ∧
      t = { s with chn := t.chn, le := t.le, mem := t.mem, fab := { s.fab with soft := t.fab.soft, hard := t.fab.hard } } ∧
      s.chn.slots[p.slot].st = .free ∧ (∀ i : Fin 256, i < p.slot → s.chn.slots[i].st ≠ .free) ∧
      t.chn.slots[p.slot].st = .created ∧ t.chn.slots[p.slot].gen = s.chn.slots[p.slot].gen ∧
      t.chn.slots[p.slot].template = getf c.w[0] 0 8 ∧ t.chn.slots[p.slot].world = callWorld c ∧
      t.chn.slots[p.slot].bankB = getb c.w[0] 24 ∧ t.chn.slots[p.slot].key = 0 ∧
      (∀ i : Fin 256, i ≠ p.slot → t.chn.slots[i] = s.chn.slots[i]) ∧ t.chn.ports[c.port].done = true ∧
      t.chn.ports[c.port].rsp[0] = fld (s.chn.slots[p.slot].gen * 256 + p.slot.val) 16 16 ∧
      ∀ q : Fin 4, q ≠ c.port → t.chn.ports[q] = s.chn.ports[q]) ∧
  (∀ (s : State) (c : ChnCall), domDown s 1 = false → s.chn.ports[c.port].pend = true →
    exec (.create c) s = .next { s with chn := { s.chn with ports := s.chn.ports.set c.port { s.chn.ports[c.port] with collide := true } } }) ∧
  (∀ (s : State) (c : ChnCall), PortsIdle s → s.sys.mode.isLockout = true →
    ∃ t, exec (.create c) s = .next t ∧ t = { s with chn := { s.chn with ports := t.chn.ports, last := c.port } } ∧
      t.chn.ports[c.port].rsp[0] = 0x0114 ∧ t.chn.ports[c.port].done = true) ∧
  (∀ (s : State) (c : ChnCall), PortsIdle s → s.sys.mode = .operate → s.sys.switching = true →
    ∃ t, exec (.create c) s = .next t ∧ t = { s with chn := { s.chn with ports := t.chn.ports, last := c.port } } ∧
      t.chn.ports[c.port].rsp[0] = 0x0230) ∧
  (∀ (s : State) (c : ChnCall), PortsIdle s → s.sys.mode = .operate → s.sys.switching = false →
    s.img.templates.length ≤ getf c.w[0] 0 8 →
    ∃ t, exec (.create c) s = .next t ∧ t = { s with chn := { s.chn with ports := t.chn.ports, last := c.port } } ∧
      t.chn.ports[c.port].rsp[0] = 0x0323)

/-- R147-R149, R168, R185, R229 and Table 5.6: what an accepted ARM, HOLD, RELEASE, SWAP, DESTROY and QUERY do to the channel they name and to nothing
else: ARM makes a CREATED channel ARMED with its state words zeroed, HOLD waits for the boundary of a RUNNING one, RELEASE takes FAULTED to HELD, SWAP
exchanges the bank at once before ARM and RUNNING and waits for the boundary otherwise, DESTROY frees a channel that does not run with its generation
advanced and makes a RUNNING non-drive channel wait, and QUERY changes nothing. -/
def Obligations.ChannelCommands : Prop :=
  (∀ (s : State) (c : ChnCall) (i : Fin 256), CallTaken s opArm c i → s.chn.slots[i].st = .created →
    ∃ t, exec (.arm c) s = .next t ∧
      t = { s with chn := t.chn, mem := t.mem, fab := { s.fab with soft := t.fab.soft, hard := t.fab.hard } } ∧ t.chn.slots[i].st = .armed ∧
      t.chn.slots[i].bankB = s.chn.slots[i].bankB ∧ t.chn.slots[i].recs = s.chn.slots[i].recs ∧
      (∀ j : Fin 256, j ≠ i → t.chn.slots[j] = s.chn.slots[j]) ∧ t.chn.ports[c.port].rsp[0] = fld (handleOf s i).toNat 16 16 ∧
      (MemWf s → ∀ r, s.chn.slots[i].recs = [r] → ∀ k, k < 32 → memByte t.mem (recAddr r + 0x40 + k) = 0) ∧
      (MemWf s → ∀ a, (∀ r ∈ s.chn.slots[i].recs, a < recAddr r + 0x40 ∨ recAddr r + 0x60 ≤ a) → memByte t.mem a = memByte s.mem a)) ∧
  (∀ (s : State) (c : ChnCall) (i : Fin 256), CallTaken s opHold c i → s.chn.slots[i].st = .running →
    ∃ t, exec (.hold c) s = .next t ∧ t = { s with chn := t.chn } ∧ t.chn.slots[i] = { s.chn.slots[i] with holdPend := true } ∧
      (∀ j : Fin 256, j ≠ i → t.chn.slots[j] = s.chn.slots[j]) ∧ t.chn.ports[c.port].rsp[0] = fld (handleOf s i).toNat 16 16) ∧
  (∀ (s : State) (c : ChnCall) (i : Fin 256), CallTaken s opRelease c i → s.chn.slots[i].st = .faulted →
    ∃ t, exec (.release c) s = .next t ∧ t = { s with chn := t.chn } ∧ t.chn.slots[i] = { s.chn.slots[i] with st := .held } ∧
      (∀ j : Fin 256, j ≠ i → t.chn.slots[j] = s.chn.slots[j]) ∧ t.chn.ports[c.port].rsp[0] = fld (handleOf s i).toNat 16 16) ∧
  (∀ (s : State) (c : ChnCall) (i : Fin 256), CallTaken s opSwap c i → getf c.w[0] 0 2 = 2 →
    s.chn.slots[i].st = .created ∨ s.chn.slots[i].st = .armed ∨ s.chn.slots[i].st = .faulted →
    ∃ t, exec (.swap c) s = .next t ∧ t = { s with chn := t.chn } ∧
      t.chn.slots[i] = { s.chn.slots[i] with bankB := !s.chn.slots[i].bankB, swapPend := none } ∧
      (∀ j : Fin 256, j ≠ i → t.chn.slots[j] = s.chn.slots[j]) ∧ t.chn.ports[c.port].rsp[0] = fld (handleOf s i).toNat 16 16) ∧
  (∀ (s : State) (c : ChnCall) (i : Fin 256), CallTaken s opSwap c i → getf c.w[0] 0 2 ≠ 3 →
    s.chn.slots[i].st = .running ∨ s.chn.slots[i].st = .held →
    ∃ t, exec (.swap c) s = .next t ∧ t = { s with chn := t.chn } ∧
      t.chn.slots[i] = { s.chn.slots[i] with swapPend := some (getf c.w[0] 0 2) } ∧
      (∀ j : Fin 256, j ≠ i → t.chn.slots[j] = s.chn.slots[j])) ∧
  (∀ (s : State) (c : ChnCall) (i : Fin 256), CallTaken s opDestroy c i → s.chn.slots[i].destroyPend = false →
    s.chn.slots[i].st = .created ∨ s.chn.slots[i].st = .armed ∨ s.chn.slots[i].st = .faulted →
    ∃ t, exec (.destroy c) s = .next t ∧ t.chn.slots[i].st = .free ∧ t.chn.slots[i].gen = genNext s.chn.slots[i].gen ∧
      t.chn.ports[c.port].rsp[0] = fld (handleOf s i).toNat 16 16 ∧
      (s.chn.slots[i].startPend = false →
        t = { s with chn := t.chn, le := t.le, cap := t.cap, mem := t.mem, fio := t.fio, fan := t.fan
                     fab := { s.fab with soft := t.fab.soft, hard := t.fab.hard } } ∧
        t.chn.slots[i] = { gen := genNext s.chn.slots[i].gen } ∧ ∀ j : Fin 256, j ≠ i → t.chn.slots[j] = s.chn.slots[j])) ∧
  (∀ (s : State) (c : ChnCall) (i : Fin 256), CallTaken s opDestroy c i → s.chn.slots[i].destroyPend = false →
    s.chn.slots[i].st = .running → isDrive s s.chn.slots[i] = false → s.chn.slots[i].wait = none →
    ∃ t, exec (.destroy c) s = .next t ∧ t = { s with chn := t.chn } ∧
      t.chn.slots[i] = { s.chn.slots[i] with destroyPend := true, swapPend := none } ∧
      (∀ j : Fin 256, j ≠ i → t.chn.slots[j] = s.chn.slots[j])) ∧
  (∀ (s : State) (c : ChnCall) (i : Fin 256), CallTaken s opQuery c i → c.handle ≠ 0 →
    ∃ t, exec (.query c) s = .next t ∧ t = { s with chn := { s.chn with ports := t.chn.ports, last := c.port } } ∧
      t.chn.ports[c.port].rsp[0] = fld (handleOf s i).toNat 16 16 ∧
      getf t.chn.ports[c.port].rsp[1] 8 4 = s.chn.slots[i].st.code ∧ getf t.chn.ports[c.port].rsp[2] 0 16 = s.chn.slots[i].fault.toNat ∧
      getb t.chn.ports[c.port].rsp[3] 2 = s.chn.slots[i].destroyPend ∧ getb t.chn.ports[c.port].rsp[3] 3 = s.chn.slots[i].bankB)

/-- R140, R152: a command that names a handle is checked for the mode, the handle, the world, a recipe change and the state, in this order; the first
failure is answered and changes the port alone. -/
def Obligations.ChannelRefusals : Prop :=
  (∀ f ∈ [Instr.arm, .start, .hold, .release, .swap, .inject, .capture, .captureStop, .destroy, .query], ∀ (s : State) (c : ChnCall),
    PortsIdle s → s.sys.mode = .operate → c.handle ≠ 0 → current s c.handle = none →
    ∃ t, exec (f c) s = .next t ∧ t = { s with chn := { s.chn with ports := t.chn.ports, last := c.port } } ∧
      t.chn.ports[c.port].rsp[0] = fld 0x0E21 0 16 ||| fld c.handle.toNat 16 16) ∧
  (∀ f ∈ [Instr.arm, .start, .release, .swap, .inject], ∀ (s : State) (c : ChnCall),
    PortsIdle s → s.sys.mode.isLockout = true →
    ∃ t, exec (f c) s = .next t ∧ t = { s with chn := { s.chn with ports := t.chn.ports, last := c.port } } ∧
      t.chn.ports[c.port].rsp[0] = fld 0x0114 0 16 ||| fld c.handle.toNat 16 16) ∧
  (∀ f ∈ [Instr.arm, .start, .hold, .release, .swap, .inject, .capture, .captureStop, .destroy, .query], ∀ (s : State) (c : ChnCall)
    (i : Fin 256), PortsIdle s → s.sys.mode = .operate → c.handle ≠ 0 → current s c.handle = some i →
    callWorld c = .NS → s.chn.slots[i].world = .S →
    ∃ t, exec (f c) s = .next t ∧ t = { s with chn := { s.chn with ports := t.chn.ports, last := c.port } } ∧
      t.chn.ports[c.port].rsp[0] = fld 0x0412 0 16 ||| fld c.handle.toNat 16 16) ∧
  (∀ f ∈ [Instr.arm, .start, .release, .swap, .inject, .capture, .captureStop, .destroy], ∀ (s : State) (c : ChnCall) (i : Fin 256),
    PortsIdle s → s.sys.mode = .operate → c.handle ≠ 0 → current s c.handle = some i → callWorld c = .S →
    s.sys.switching = true → s.chn.slots[i].key ≠ 0 →
    ∃ t, exec (f c) s = .next t ∧ t = { s with chn := { s.chn with ports := t.chn.ports, last := c.port } } ∧
      t.chn.ports[c.port].rsp[0] = fld 0x0230 0 16 ||| fld c.handle.toNat 16 16) ∧
  (∀ f ∈ [Instr.arm, .start, .hold, .release, .swap, .inject, .capture, .captureStop, .destroy], ∀ (s : State) (c : ChnCall) (i : Fin 256),
    PortsIdle s → s.sys.mode = .operate → c.handle ≠ 0 → current s c.handle = some i → callWorld c = .S →
    s.sys.switching = false → s.chn.slots[i].st = .draining →
    ∃ t, exec (f c) s = .next t ∧ t = { s with chn := { s.chn with ports := t.chn.ports, last := c.port } } ∧
      t.chn.ports[c.port].rsp[0] = fld 0x0D22 0 16 ||| fld c.handle.toNat 16 16)

/-- R165, R147, R528: a frame tick counts; at a tick that is no class boundary of any channel, and in a sag, it does nothing more. It is also the Channel
Manager's turn: a command that waits on a port is served (log entry 114). At its sample boundary an ARMED non-drive channel with a waiting START becomes RUNNING and eligible, and a channel that a supervision fault waits for goes FAULTED with the
code and is not evaluated. With the Loop Engine domain down nothing happens. -/
def Obligations.FrameTickBoundaries : Prop :=
  (∀ s : State, s.fab.dom[2] = .on → s.save.active = true → (∀ p : Fin 4, s.chn.ports[p].pend = false) →
    exec .frameTick s = .next { s with le := { s.le with tick := s.le.tick + 1, run := true } }) ∧
  (∀ s : State, s.fab.dom[2] = .on → s.sys.change = none → (∀ p : Fin 4, s.chn.ports[p].pend = false) →
    (∀ i : Fin 256, s.chn.slots[i].st = .free ∨ (s.le.tick + 1).toNat % classPeriod (slotTemplate s s.chn.slots[i]).tick ≠ 0) →
    exec .frameTick s = .next { s with le := { s.le with tick := s.le.tick + 1, run := true } }) ∧
  (∀ (s : State) (i : Fin 256), s.fab.dom[2] = .on → s.save.active = false → s.sys.change = none → (∀ p : Fin 4, s.chn.ports[p].pend = false) →
    (∀ j : Fin 256, j ≠ i → s.chn.slots[j].st = .free) →
    s.chn.slots[i].st = .armed → s.chn.slots[i].startPend = true → s.chn.slots[i].holdPend = false → s.chn.slots[i].swapPend = none →
    s.chn.slots[i].wait = none → s.chn.slots[i].inj = [] → isDrive s s.chn.slots[i] = false → s.le.queue = [] →
    (s.le.tick + 1).toNat % classPeriod (slotTemplate s s.chn.slots[i]).tick = 0 →
    (s.le.tick + 1).toNat / classPeriod (slotTemplate s s.chn.slots[i]).tick % (slotTemplate s s.chn.slots[i]).div =
      i.val % (slotTemplate s s.chn.slots[i]).div →
    ∃ t, exec .frameTick s = .next t ∧
      t = { s with le := t.le, chn := t.chn, cap := t.cap, mem := t.mem, fab := { s.fab with soft := t.fab.soft, hard := t.fab.hard } } ∧
      t.le.tick = s.le.tick + 1 ∧
      t.chn.slots[i].st = .running ∧ t.chn.slots[i].startPend = false ∧ t.chn.slots[i].rampInit = true ∧ t.le.queue = [i] ∧
      (∃ w, t.chn.slots[i].wait = some w ∧ w.run = true ∧ w.tick = s.le.tick + 1) ∧
      (∀ j : Fin 256, j ≠ i → t.chn.slots[j] = s.chn.slots[j]) ∧ t.chn.ports = s.chn.ports) ∧
  (∀ (s : State) (i : Fin 256) (f : Code), s.fab.dom[2] = .on → s.save.active = false → s.sys.change = none →
    (∀ p : Fin 4, s.chn.ports[p].pend = false) → (∀ j : Fin 256, j ≠ i → s.chn.slots[j].st = .free) → s.chn.slots[i].st = .held → s.chn.slots[i].startPend = false →
    s.chn.slots[i].destroyPend = false → s.chn.slots[i].faultPend = some f → s.chn.slots[i].swapPend = none → s.chn.slots[i].wait = none →
    s.chn.slots[i].inj = [] → (slotTemplate s s.chn.slots[i]).stages = [] → s.le.queue = [] →
    (s.le.tick + 1).toNat % classPeriod (slotTemplate s s.chn.slots[i]).tick = 0 →
    (s.le.tick + 1).toNat / classPeriod (slotTemplate s s.chn.slots[i]).tick % (slotTemplate s s.chn.slots[i]).div =
      i.val % (slotTemplate s s.chn.slots[i]).div →
    ∃ t, exec .frameTick s = .next t ∧
      t = { s with le := t.le, chn := t.chn, cap := t.cap, mem := t.mem, fab := { s.fab with soft := t.fab.soft, hard := t.fab.hard } } ∧
      t.chn.slots[i].st = .faulted ∧ t.chn.slots[i].fault = f ∧ t.chn.slots[i].wait = none ∧ t.le.queue = []) ∧
  (∀ s : State, s.fab.dom[2] ≠ .on → (∀ p : Fin 4, s.chn.ports[p].pend = false) → exec .frameTick s = .next s) ∧
  (∀ (s : State) (p : Fin 4), s.fab.dom[2] ≠ .on → domDown s 1 = false → s.chn.ports[p].pend = true →
    (∀ q : Fin 4, q ≠ p → s.chn.ports[q].pend = false) → exec .frameTick s = .next (portServe p s))

/-- R175, R173, R174, R186, STAGE_EVALUATE: a lane whose channel waits for no faster one evaluates its next stage by Table 6.3, writes y to state word 6
and goes on to the next stage; only the record's state words, the sample, the Loop Engine's books and the corrected errors of the record change
(the record has no uncorrectable one). HYS2 with its band, SUM with its
saturation, LIMIT and CAP. -/
def Obligations.StageRules : Prop :=
  (∀ (s : State) (l : Fin 4) (cs : List BenchCycle) (i : Fin 256) (w : Sample) (d : StageDesc), StageReady s l i w d →
    ∃ t, exec (.stageEvaluate l cs) s = .next t ∧
      t = { s with le := t.le, chn := t.chn, mem := t.mem, fab := { s.fab with soft := t.fab.soft, corr := t.fab.corr } } ∧
      (∃ w', t.chn.slots[i].smp = some w' ∧ w'.next = w.next + 1 ∧ w'.late = w.late) ∧ t.chn.slots[i].st = s.chn.slots[i].st ∧
      (∀ j : Fin 256, j ≠ i → t.chn.slots[j] = s.chn.slots[j]) ∧ t.le.tick = s.le.tick ∧ t.le.board = s.le.board ∧
      ∀ a, a < stAddr (recOf s.chn.slots[i] w.next) 0 ∨ stAddr (recOf s.chn.slots[i] w.next) 8 ≤ a → memByte t.mem a = memByte s.mem a) ∧
  (∀ (s : State) (l : Fin 4) (cs : List BenchCycle) (i : Fin 256) (w : Sample) (d : StageDesc), StageReady s l i w d → d.type = .hys2 →
    ∃ t, exec (.stageEvaluate l cs) s = .next t ∧
      let c := s.chn.slots[i]
      let r := recOf c w.next
      let e := inVal s c d.in0 - inVal s c d.in1
      let h := sInt (bankWord s r c.bankB 0)
      let lvl : Word := if e > h then 1 else if e < -h then 0 else stWord s r 0
      stWord t r 0 = lvl ∧ stWord t r 6 = (if lvl = 1 then bankWord s r c.bankB 2 else bankWord s r c.bankB 1) ∧
        stWord t r 7 = stWord s r 7) ∧
  (∀ (s : State) (l : Fin 4) (cs : List BenchCycle) (i : Fin 256) (w : Sample) (d : StageDesc), StageReady s l i w d → d.type = .sum →
    ∃ t, exec (.stageEvaluate l cs) s = .next t ∧
      let c := s.chn.slots[i]
      let r := recOf c w.next
      let v := (if d.opt % 2 = 1 then -inVal s c d.in0 else inVal s c d.in0) + (if d.opt / 2 % 2 = 1 then -inVal s c d.in1 else inVal s c d.in1) +
        sInt (bankWord s r c.bankB 6)
      stWord t r 6 = toW (sat32 v) ∧
        (sat32 v = v → stWord t r 7 = stWord s r 7 ∧ t.le.satTotal = s.le.satTotal) ∧
        (sat32 v ≠ v → getf (stWord t r 7) 0 16 = incSat 65535 (getf (stWord s r 7) 0 16) ∧
          t.le.satTotal = incSat 4294967295 s.le.satTotal)) ∧
  (∀ (s : State) (l : Fin 4) (cs : List BenchCycle) (i : Fin 256) (w : Sample) (d : StageDesc), StageReady s l i w d → d.type = .limit →
    d.opt / 8 % 2 = 0 →
    ∃ t, exec (.stageEvaluate l cs) s = .next t ∧
      let c := s.chn.slots[i]
      let r := recOf c w.next
      let lo := sInt (bankWord s r c.bankB 0)
      let hi := sInt (bankWord s r c.bankB 1)
      let x := inVal s c d.in0
      stWord t r 6 = toW (min (max x lo) hi) ∧ getb (stWord t r 7) 17 = decide (max x lo > hi) ∧ getb (stWord t r 7) 18 = decide (x < lo) ∧
        t.le.satTotal = s.le.satTotal) ∧
  (∀ (s : State) (l : Fin 4) (cs : List BenchCycle) (i : Fin 256) (w : Sample) (d : StageDesc), StageReady s l i w d → d.type = .cap →
    ∃ t, exec (.stageEvaluate l cs) s = .next t ∧ stWord t (recOf s.chn.slots[i] w.next) 6 = toW (inVal s s.chn.slots[i] d.in0))

/-- R210, R211, R213, R167, R148: at its deadline the samples of a channel count as late and escalate; a completed sample leaves its lane, a late one
counts in LATE_COUNT and LE_LATETOTAL, an XFER stage has its output issued, and a DRAINING channel without a further sample goes FREE with its
generation advanced. -/
def Obligations.SampleOutcomes : Prop :=
  (∀ (s : State) (i : Fin 256),
    ∃ t, exec (.sampleDeadline i) s = .next t ∧ t = { s with chn := { s.chn with slots := t.chn.slots } } ∧
      t.chn.slots[i].smp = s.chn.slots[i].smp.map (fun w => { w with late := true }) ∧
      t.chn.slots[i].wait = s.chn.slots[i].wait.map (fun w => { w with late := true }) ∧ t.chn.slots[i].st = s.chn.slots[i].st ∧
      ∀ j : Fin 256, j ≠ i → t.chn.slots[j] = s.chn.slots[j]) ∧
  (∀ (s : State) (l : Fin 4) (i : Fin 256) (w : Sample) (r : List (Fin 256)), s.fab.dom[2] = .on → s.le.lanes[l].work = i :: r →
    s.chn.slots[i].smp = some w → (slotTemplate s s.chn.slots[i]).stages.length ≤ w.next → s.chn.slots[i].st = .running →
    (∀ d ∈ (slotTemplate s s.chn.slots[i]).stages, d.type ≠ .xfer ∧ d.type ≠ .hysc) → (slotTemplate s s.chn.slots[i]).sup.plModel = 0xFF →
    (slotTemplate s s.chn.slots[i]).sup.feRef = 0xFF →
    ∃ t, exec (.sampleComplete l) s = .next t ∧ t = { s with le := t.le, chn := t.chn, cap := t.cap } ∧ t.le.lanes[l].work = r ∧
      t.chn.slots[i].smp = none ∧ t.chn.slots[i].st = .running ∧
      t.chn.slots[i].lateCnt =
        (if isLate s (slotTemplate s s.chn.slots[i]) w then incSat 65535 s.chn.slots[i].lateCnt else s.chn.slots[i].lateCnt) ∧
      t.le.lateTotal = (if isLate s (slotTemplate s s.chn.slots[i]) w then incSat 4294967295 s.le.lateTotal else s.le.lateTotal) ∧
      ∀ j : Fin 256, j ≠ i → t.chn.slots[j] = s.chn.slots[j]) ∧
  (∀ (s : State) (l : Fin 4) (i : Fin 256) (w : Sample) (r : List (Fin 256)) (d : StageDesc) (n : Fin 64), s.fab.dom[2] = .on →
    s.le.lanes[l].work = i :: r → s.chn.slots[i].smp = some w → (slotTemplate s s.chn.slots[i]).stages = [d] → 1 ≤ w.next →
    d.type = .xfer → d.kind = 5 → d.idx = n.val → n.val < 28 → s.le.boardBy[n] = [] → s.chn.slots[i].st = .running →
    (slotTemplate s s.chn.slots[i]).sup.plModel = 0xFF → (slotTemplate s s.chn.slots[i]).sup.feRef = 0xFF →
    ∃ t, exec (.sampleComplete l) s = .next t ∧ t = { s with le := t.le, chn := t.chn, cap := t.cap } ∧
      t.le.board[n] = stWord s (recOf s.chn.slots[i] 0) 6 ∧ t.le.boardVer[n] = s.le.boardVer[n] + 1 ∧
      (∀ m : Fin 64, m ≠ n → t.le.board[m] = s.le.board[m]) ∧ t.chn.slots[i].smp = none) ∧
  (∀ (s : State) (l : Fin 4) (i : Fin 256) (w : Sample) (r : List (Fin 256)), s.fab.dom[2] = .on → s.le.lanes[l].work = i :: r →
    s.chn.slots[i].smp = some w → (slotTemplate s s.chn.slots[i]).stages.length ≤ w.next → s.chn.slots[i].st = .draining →
    s.chn.slots[i].wait = none → (∀ d ∈ (slotTemplate s s.chn.slots[i]).stages, d.type ≠ .xfer) →
    ∃ t, exec (.sampleComplete l) s = .next t ∧ t.chn.slots[i] = { gen := genNext s.chn.slots[i].gen } ∧ i ∉ t.le.queue)

/-- R231, R232, R234, R235: an accepted INJECT puts its source on the stage, to begin at the next boundary; STOP marks a running injection to end and
changes nothing where none runs; a stage already injecting is BUSY, an axis without its tuning limit and an amplitude above AMP_MAX are
REFUSED_SAFETY. Only the channel and the port change. -/
def Obligations.Injection : Prop :=
  (∀ (s : State) (c : ChnCall) (i : Fin 256), CallTaken s opInject c i → s.chn.slots[i].st = .running ∨ s.chn.slots[i].st = .held →
    injBadWord (slotTemplate s s.chn.slots[i]) c = none → kvGet (getf c.w[0] 0 4) s.chn.slots[i].inj = none → getf c.w[0] 4 4 ≠ 15 →
    tuneOk s s.chn.slots[i] = true →
    (mag (sInt c.w[1]) : Int) ≤ sInt (bankWord s (recOf s.chn.slots[i] (getf c.w[0] 0 4)) s.chn.slots[i].bankB 0) →
    ∃ t, exec (.inject c) s = .next t ∧ t = { s with chn := t.chn } ∧
      kvGet (getf c.w[0] 0 4) t.chn.slots[i].inj = some { src := getf c.w[0] 4 4, amp := sInt c.w[1], c3 := c.w[2], c4 := c.w[3],
                                                          dur := c.w[4].toNat, pend := true, stop := false } ∧
      t.chn.slots[i] = { s.chn.slots[i] with inj := t.chn.slots[i].inj } ∧ t.chn.ports[c.port].rsp[0] = fld (handleOf s i).toNat 16 16 ∧
      ∀ j : Fin 256, j ≠ i → t.chn.slots[j] = s.chn.slots[j]) ∧
  (∀ (s : State) (c : ChnCall) (i : Fin 256) (j : Inj), CallTaken s opInject c i → s.chn.slots[i].st = .running ∨ s.chn.slots[i].st = .held →
    injBadWord (slotTemplate s s.chn.slots[i]) c = none → kvGet (getf c.w[0] 0 4) s.chn.slots[i].inj = some j → getf c.w[0] 4 4 = 15 →
    ∃ t, exec (.injectStop c) s = .next t ∧ t = { s with chn := t.chn } ∧
      kvGet (getf c.w[0] 0 4) t.chn.slots[i].inj = some { j with stop := true } ∧
      t.chn.slots[i] = { s.chn.slots[i] with inj := t.chn.slots[i].inj } ∧ t.chn.ports[c.port].rsp[0] = fld (handleOf s i).toNat 16 16) ∧
  (∀ (s : State) (c : ChnCall) (i : Fin 256), CallTaken s opInject c i → s.chn.slots[i].st = .running ∨ s.chn.slots[i].st = .held →
    injBadWord (slotTemplate s s.chn.slots[i]) c = none → kvGet (getf c.w[0] 0 4) s.chn.slots[i].inj = none → getf c.w[0] 4 4 ≠ 15 →
    tuneOk s s.chn.slots[i] = false →
    ∃ t, exec (.inject c) s = .next t ∧ t = { s with chn := { s.chn with ports := t.chn.ports, last := c.port } } ∧
      t.chn.ports[c.port].rsp[0] = fld 0x1116 0 16 ||| fld c.handle.toNat 16 16) ∧
  (∀ (s : State) (c : ChnCall) (i : Fin 256) (j : Inj), CallTaken s opInject c i → s.chn.slots[i].st = .running ∨ s.chn.slots[i].st = .held →
    injBadWord (slotTemplate s s.chn.slots[i]) c = none → kvGet (getf c.w[0] 0 4) s.chn.slots[i].inj = some j → getf c.w[0] 4 4 ≠ 15 →
    ∃ t, exec (.inject c) s = .next t ∧ t = { s with chn := { s.chn with ports := t.chn.ports, last := c.port } } ∧
      t.chn.ports[c.port].rsp[0] = fld 0x1330 0 16 ||| fld c.handle.toNat 16 16)

/-- R236, R237, R239: an accepted CAPTURE arms its unit with the parameters of Table 8.6 and resets its registers; TRIG 0xF ends an ARMED or TRIGGERED
unit of the same channel with END 3; a unit in use refuses with REASON 0x07; a record not read in time is discarded, CAPTURE_GAP is set and GAPS
counts it. -/
def Obligations.CaptureUnits : Prop :=
  (∀ (s : State) (c : ChnCall) (i : Fin 256), CallTaken s opCapture c i → s.chn.slots[i].st ≠ .draining →
    capBadWord (slotTemplate s s.chn.slots[i]) c = none → bufWritable s s.chn.slots[i].world c.w[2].toNat c.w[3].toNat = true →
    (∀ k : Fin 4, s.cap[k].st ≠ 1 ∧ s.cap[k].st ≠ 2) →
    ∃ t, exec (.capture c) s = .next t ∧ t = { s with chn := { s.chn with ports := t.chn.ports, last := c.port }, cap := t.cap } ∧
      (let u := t.cap[(Fin.ofNat 4 (getf c.w[0] 0 2) : Fin 4)]
       u.st = 1 ∧ u.fin = 0 ∧ u.gap = false ∧ u.gaps = 0 ∧ u.written = 0 ∧ u.slot = i ∧ u.trig = getf c.w[0] 8 4 ∧ u.dec = getf c.w[0] 20 12 ∧
         u.taps.length = getf c.w[0] 4 3 + 1 ∧ u.buf = c.w[2].toNat ∧ u.len = c.w[3].toNat ∧ u.level = sInt c.w[4] ∧ u.pre = c.w[5].toNat) ∧
      (∀ k : Fin 4, k ≠ Fin.ofNat 4 (getf c.w[0] 0 2) → t.cap[k] = s.cap[k]) ∧ t.chn.ports[c.port].rsp[0] = fld (handleOf s i).toNat 16 16) ∧
  (∀ (s : State) (c : ChnCall) (i : Fin 256) (k : Fin 4), CallTaken s opCapture c i → s.chn.slots[i].st ≠ .draining → getf c.w[0] 0 2 = k.val →
    getf c.w[0] 8 4 = 0xF → s.cap[k].slot = i → s.cap[k].st = 1 ∨ s.cap[k].st = 2 →
    ∀ f ∈ [Instr.capture, .captureStop], ∃ t, exec (f c) s = .next t ∧ t = { s with chn := { s.chn with ports := t.chn.ports, last := c.port }, cap := t.cap } ∧
      t.cap[k] = { s.cap[k] with st := 4, fin := 3 } ∧ (∀ m : Fin 4, m ≠ k → t.cap[m] = s.cap[m]) ∧
      t.chn.ports[c.port].rsp[0] = fld (handleOf s i).toNat 16 16) ∧
  (∀ (s : State) (c : ChnCall) (i : Fin 256) (k : Fin 4), CallTaken s opCapture c i → s.chn.slots[i].st ≠ .draining →
    capBadWord (slotTemplate s s.chn.slots[i]) c = none → bufWritable s s.chn.slots[i].world c.w[2].toNat c.w[3].toNat = true →
    getf c.w[0] 0 2 = k.val → s.cap[k].st = 1 ∨ s.cap[k].st = 2 →
    ∃ t, exec (.capture c) s = .next t ∧ t = { s with chn := { s.chn with ports := t.chn.ports, last := c.port } } ∧
      getf t.chn.ports[c.port].rsp[0] 0 16 = 0x0713) ∧
  (∀ (s : State) (k : Fin 4) (r : CapRec), s.cap[k].rec_ = some r →
    ∃ t, exec (.captureGap k) s = .next t ∧ t = { s with cap := t.cap } ∧
      t.cap[k] = { s.cap[k] with rec_ := none, kept := false, gap := true, gaps := incSat 65535 s.cap[k].gaps } ∧
      ∀ m : Fin 4, m ≠ k → t.cap[m] = s.cap[m]) ∧
  (∀ (s : State) (k : Fin 4), s.cap[k].rec_ = none → exec (.captureGap k) s = .next s)

/-- R285, R290, R287, R541: while the monitor runs and no homing request waits, each cycle counts COUNT, keeps the raw levels, forms v, p and vp of every
configured axis from the last two samples, and writes the axis words 28-31; other board words, accepted levels and the blocks that the monitor does
not own stay; a PERMIT output is on only while its axis is RELEASED without LATCH. A halted monitor or a core domain that is off runs no cycle. A
homing request is applied for an axis with a position source 1 and the HOME limit selected at standstill, else refused. -/
def Obligations.SafetyCycleMeasures : Prop :=
  (∀ (s : State) (m : SmSample), s.saf.halted = true ∨ s.fab.dom[1] ≠ .on → exec (.safetyCycle m) s = .next s) ∧
  (∀ (s : State) (m : SmSample), MonitorRuns s → s.saf.homing = none →
    ∃ t, exec (.safetyCycle m) s = .next t ∧ t.pending = s.pending ∧ t.now = s.now ∧ t.img = s.img ∧ t.mem = s.mem ∧ t.otp = s.otp ∧
      t.fab = s.fab ∧ t.save = s.save ∧ t.chest = s.chest ∧ t.cab = s.cab ∧ t.spm = s.spm ∧
      t.le = { s.le with board := t.le.board, boardVer := t.le.boardVer } ∧
      t.saf.cycle = s.saf.cycle + 1 ∧ t.saf.siRaw = m.si ∧ t.saf.siFilt = siSample s m.si ∧ t.saf.siLvl = s.saf.siLvl ∧
      t.saf.inc1 = m.inc ∧ t.saf.abs1 = m.abs ∧ t.saf.inc2 = s.saf.inc1 ∧ t.saf.abs2 = s.saf.abs1 ∧
      (∀ n : Fin 4, t.le.board[28 + n.val] = axisWord t n) ∧
      (∀ i : Fin 64, i.val < 28 ∨ 32 ≤ i.val → t.le.board[i] = s.le.board[i]) ∧
      (∀ (n : Fin 4) (c : AxisCfg), axisCfg s n = some c →
        t.saf.ax[n].p = (measured s m n c).p ∧ t.saf.ax[n].vp = (measured s m n c).vp ∧
        (2 ≤ s.saf.primed → t.saf.ax[n].v = countDiff (srcVal m.inc m.abs c.spd) (srcVal s.saf.inc2 s.saf.abs2 c.spd))) ∧
      (∀ k : Fin 4, s.img.safeIo.soKind[k] = .permit → t.saf.so.getLsbD k = true →
        t.saf.ax[s.img.safeIo.soAxis[k]].st = .released ∧ t.saf.ax[s.img.safeIo.soAxis[k]].latch = false) ∧
      (∀ k : Fin 4, s.img.safeIo.soKind[k] = .unused → t.saf.so.getLsbD k = false)) ∧
  (∀ (s : State) (m : SmSample) (n : Fin 4) (pos : Int) (c : AxisCfg), MonitorRuns s → s.saf.homing = some (n, pos) → axisCfg s n = some c →
    homeSelected c s.saf.siLvl = true → (measured s m n c).v.natAbs ≤ c.sstill → c.pos1.isSome = true →
    ∃ t, exec (.safetyCycle m) s = .next t ∧ t.saf.ax[n].p = pos ∧ t.saf.ax[n].unver = false ∧ t.saf.homing = none ∧ t.save.homeRes = 1 ∧
      (∀ p : Fin 4, c.pos1 = some { port := p, abs := false } → t.save.unver.getLsbD p = false)) ∧
  (∀ (s : State) (m : SmSample) (n : Fin 4) (pos : Int) (c : AxisCfg), MonitorRuns s → s.saf.homing = some (n, pos) → axisCfg s n = some c →
    homeSelected c s.saf.siLvl = false ∨ c.sstill < (measured s m n c).v.natAbs ∨ c.pos1 = none →
    ∃ t, exec (.safetyCycle m) s = .next t ∧ t.saf.ax[n].p = (measured s m n c).p ∧ t.saf.ax[n].unver = s.saf.ax[n].unver ∧
      t.saf.homing = none ∧ t.save.homeRes = 2)

/-- R286, R293, R294, R296-R299, R306, R307, R331: in a cycle a low STO_IN input puts its axis in STO and latches it with CAUSE 1; a speed above the
ceiling, a predicted stop outside the SLP limits or a count W above SDI_TOL demands too and leaves no axis RELEASING or RELEASED; a speed above
ceiling plus SLS_TOL, above the SS1 envelope plus SS1_TOL, a position beyond SLP_TOL or W above twice SDI_TOL locks out. R286, R289, R292, R293, R299,
R306, R308: an input that has held its level for tSIF takes it, unless a test pulse masks it; with an STO_IN input low the axis goes STO in the same
command, its carriers stop and its brakes are de-energised; with an SS1_IN input alone low a RELEASED axis goes SS1 from V0 = |v|, and a non-safety
SS1 becomes a safety one whose envelope goes on. Only the monitor, the brake counters and the channels change, and every level but the input's stays. -/
def Obligations.SafetyDemands : Prop :=
  ((∀ (s : State) (m : SmSample) (n : Fin 4) (c : AxisCfg) (k : Nat), MonitorRuns s → axisCfg s n = some c → s.saf.ax[n].st ≠ .unused →
    lowInput c.stoIn s.saf.siLvl = some k →
    ∃ t, exec (.safetyCycle m) s = .next t ∧ t.saf.ax[n].st = .sto ∧ t.saf.ax[n].latch = true ∧
      (s.saf.ax[n].latch = false → t.saf.ax[n].cause = 1 ∧ t.saf.ax[n].cidx = k)) ∧
  (∀ (s : State) (m : SmSample) (n : Fin 4) (c : AxisCfg), MonitorRuns s → axisCfg s n = some c → s.saf.ax[n].st ≠ .unused →
    cycleDems c (measured s m n c) (cycleCeiling s m n c) ≠ [] →
    ∃ t, exec (.safetyCycle m) s = .next t ∧ t.saf.ax[n].latch = true ∧ t.saf.ax[n].st ≠ .releasing ∧ t.saf.ax[n].st ≠ .released) ∧
  (∀ (s : State) (m : SmSample) (n : Fin 4) (c : AxisCfg) (x : Nat), MonitorRuns s → FaultEnters s → axisCfg s n = some c →
    cycleCeiling s m n c = some x → x + 2000 * c.slsTol < 2000 * (measured s m n c).v.natAbs →
    ∃ t, exec (.safetyCycle m) s = .next t ∧ LockedFor 0x0110 t) ∧
  (∀ (s : State) (m : SmSample) (n : Fin 4) (c : AxisCfg), MonitorRuns s → FaultEnters s → axisCfg s n = some c → s.saf.ax[n].st = .ss1 →
    2000 * s.saf.ax[n].v0 - c.dec * (s.saf.ax[n].envCyc + 1 - 2 * c.ss1Dly) + 2000 * c.ss1Tol < 2000 * (measured s m n c).v.natAbs →
    ∃ t, exec (.safetyCycle m) s = .next t ∧ LockedFor 0x0111 t) ∧
  (∀ (s : State) (m : SmSample) (n : Fin 4) (c : AxisCfg), MonitorRuns s → FaultEnters s → axisCfg s n = some c → s.saf.ax[n].st = .braking →
    c.sstill + c.ss1Tol < (measured s m n c).v.natAbs → ∃ t, exec (.safetyCycle m) s = .next t ∧ LockedFor 0x0111 t) ∧
  (∀ (s : State) (m : SmSample) (n : Fin 4) (c : AxisCfg), MonitorRuns s → FaultEnters s → axisCfg s n = some c → c.pos1.isSome = true →
    s.saf.ax[n].unver = false → c.slpHi + c.slpTol < (measured s m n c).p ∨ (measured s m n c).p < c.slpLo - c.slpTol →
    ∃ t, exec (.safetyCycle m) s = .next t ∧ LockedFor 0x0112 t) ∧
  (∀ (s : State) (m : SmSample) (n : Fin 4) (c : AxisCfg), MonitorRuns s → FaultEnters s → axisCfg s n = some c →
    c.sdiDir ≠ 0 → 2 * c.sdiTol < (measured s m n c).w →
    ∃ t, exec (.safetyCycle m) s = .next t ∧ LockedFor 0x0113 t)) ∧
  ((∀ (s : State) (k : Fin 16), MonitorRuns s → siMasked s k = false →
    ∃ t, exec (.safeInputAccept k) s = .next t ∧ SafetyOnly s t ∧ t.saf.siLvl.getLsbD k = s.saf.siFilt.getLsbD k ∧
      (∀ i : Fin 16, i ≠ k → t.saf.siLvl.getLsbD i = s.saf.siLvl.getLsbD i) ∧ t.saf.causes = s.saf.causes ∧ t.saf.so = s.saf.so ∧
      (∀ (n : Fin 4) (c : AxisCfg), axisCfg s n = some c → s.saf.ax[n].st ≠ .unused → (lowInput c.stoIn t.saf.siLvl).isSome = true →
        t.saf.ax[n].st = .sto ∧ t.saf.ax[n].latch = true ∧ (s.saf.ax[n].st ≠ .sto →
          t.saf.ka &&& c.bridges = 0 ∧ t.saf.bkH &&& c.brakes = 0 ∧ t.saf.bkL &&& c.brakes = 0)) ∧
      (∀ (n : Fin 4) (c : AxisCfg), axisCfg s n = some c → lowInput c.stoIn t.saf.siLvl = none →
        (lowInput c.ss1In t.saf.siLvl).isSome = true →
        (s.saf.ax[n].st = .released → t.saf.ax[n].st = .ss1 ∧ t.saf.ax[n].v0 = s.saf.ax[n].v.natAbs ∧ t.saf.ax[n].envCyc = 0 ∧
          t.saf.ax[n].latch = true ∧ t.saf.ax[n].nonsafe = false) ∧
        (s.saf.ax[n].st = .ss1 → t.saf.ax[n].st = .ss1 ∧ t.saf.ax[n].v0 = s.saf.ax[n].v0 ∧ t.saf.ax[n].envCyc = s.saf.ax[n].envCyc ∧
          t.saf.ax[n].latch = true ∧ t.saf.ax[n].nonsafe = false)) ∧
      (∀ (n : Fin 4) (c : AxisCfg), axisCfg s n = some c → c.rstIn = k → s.saf.siFilt.getLsbD k = true → s.saf.siLvl.getLsbD k = false →
        s.saf.siSeen.getLsbD k = true → t.saf.ax[n].rstHighAt = some s.now)) ∧
  (∀ (s : State) (k : Fin 16), siMasked s k = true → exec (.safeInputAccept k) s = .next s))

/-- R263, R291, R322, Procedure 11.1: in a quiet cycle the first step of a release raises DESAT_PRETEST for a fault line that is high and STO_PATH_TEST
for an STOE or an inhibit that does not read back, else requests the deck's test; the next cycle starts the carriers. A gap that the deck saw ends the
hold and the carrier goes on; one that it did not see is STO_PATH_TEST. tBKREL after every bridge is released the brakes are energised and the axis
goes RELEASED. -/
def Obligations.ReleaseSequence : Prop :=
  (∀ (s : State) (m : SmSample) (n b : Fin 4), QuietCycle s m → FaultEnters s → OnlyReleasing s n 1 → s.saf.ax[n].relBridges.getLsbD b = true →
    s.save.active = false → s.trst.px[b].flt ≠ 0 → ∃ t, exec (.safetyCycle m) s = .next t ∧ LockedFor 0x020B t) ∧
  (∀ (s : State) (m : SmSample) (n b : Fin 4), QuietCycle s m → FaultEnters s → OnlyReleasing s n 1 → s.saf.ax[n].relBridges.getLsbD b = true →
    s.save.active = false → s.trst.px[b].flt = 0 →
    m.stoe.getLsbD b = true ∨ (m.inhibitOff.toNat / 2 ^ (6 * b.val)) % 64 ≠ 63 →
    ∃ t, exec (.safetyCycle m) s = .next t ∧ LockedFor 0x0203 t) ∧
  (∀ (s : State) (m : SmSample) (n : Fin 4), QuietCycle s m → OnlyReleasing s n 1 → s.save.active = false →
    (∀ i : Fin 4, s.saf.ax[n].relBridges.getLsbD i = true →
      s.trst.px[i].flt = 0 ∧ m.stoe.getLsbD i = false ∧ (m.inhibitOff.toNat / 2 ^ (6 * i.val)) % 64 = 63) →
    ∃ t, exec (.safetyCycle m) s = .next t ∧ t = { s with saf := t.saf, le := t.le, trst := t.trst } ∧ t.saf.ka = s.saf.ka ∧
      t.saf.ax[n].st = .releasing ∧ t.saf.ax[n].relStep = 2 ∧ t.saf.bkH = s.saf.bkH ∧ t.saf.bkL = s.saf.bkL ∧
      ∀ i : Fin 4, t.trst.preTest[i] = (s.trst.preTest[i] || s.saf.ax[n].relBridges.getLsbD i)) ∧
  (∀ (s : State) (m : SmSample) (n : Fin 4), QuietCycle s m → OnlyReleasing s n 2 → s.save.active = false →
    ∃ t, exec (.safetyCycle m) s = .next t ∧ t = { s with saf := t.saf, le := t.le, dk := t.dk } ∧
      t.saf.ka = s.saf.ka ||| s.saf.ax[n].relBridges ∧ t.saf.ax[n].st = .releasing ∧ t.saf.bkH = s.saf.bkH ∧ t.saf.bkL = s.saf.bkL ∧
      t.saf.ax[n].relStep = if s.saf.ax[n].relBridges = 0 then 4 else 3) ∧
  (∀ (s : State) (n b : Fin 4), s.saf.ax[n].relBridges.getLsbD b = true → s.saf.ax[n].relStep = 3 →
    (∀ i : Fin 4, i ≠ n → s.saf.ax[i].relBridges.getLsbD b = false) → s.dk.br[b].testHold = true → s.dk.br[b].gapSeen = true →
    ∃ t, exec (.carrierGapReport b) s = .next t ∧ t = { s with saf := { s.saf with ax := t.saf.ax }, dk := t.dk, trst := t.trst } ∧
      t.dk.br[b].testHold = false ∧ t.dk.br[b].ka = s.saf.ka.getLsbD b ∧ t.trst.preTest[b] = false ∧
      (∀ i : Fin 4, i ≠ b → t.dk.br[i] = s.dk.br[i] ∧ t.trst.preTest[i] = s.trst.preTest[i]) ∧
      ((∀ i : Fin 4, i ≠ b → s.saf.ax[n].relBridges.getLsbD i = true → s.dk.br[i].testHold = false) → t.saf.ax[n].relStep = 4)) ∧
  (∀ (s : State) (n b : Fin 4), FaultEnters s → s.saf.ax[n].relBridges.getLsbD b = true → s.saf.ax[n].relStep = 3 →
    s.dk.br[b].testHold = false ∨ s.dk.br[b].gapSeen = false →
    ∃ t, exec (.carrierGapReport b) s = .next t ∧ LockedFor 0x0203 t ∧ LockoutFrame s t) ∧
  (∀ (s : State) (n : Fin 4) (c : AxisCfg), axisCfg s n = some c → s.saf.ax[n].st = .releasing → s.saf.ax[n].relStep = 4 → s.saf.ax[n].latch = false →
    s.save.active = false → (∀ b : Fin 4, s.saf.ax[n].relBridges.getLsbD b = true → s.trst.px[b].released = true) →
    ∃ t, exec (.brakeReleaseElapsed n) s = .next t ∧
      t = { s with saf := { s.saf with
        ax := t.saf.ax, bkH := s.saf.bkH ||| c.brakes, bkL := s.saf.bkL ||| c.brakes, offPulse := t.saf.offPulse, onPulse := t.saf.onPulse } } ∧
      t.saf.ax[n] = { s.saf.ax[n] with st := .released, relStep := 0 } ∧ ∀ i : Fin 4, i ≠ n → t.saf.ax[i] = s.saf.ax[i]) ∧
  (∀ (s : State) (n b : Fin 4), s.saf.ax[n].relBridges.getLsbD b = true → s.trst.px[b].released = false →
    exec (.brakeReleaseElapsed n) s = .next s)

/-- R289, R294, R295, R298, R300: at standstill an SS1 ends in BRAKING with the brakes de-energised and the carriers kept; after tBKAPPLY the carriers
stop and the axis goes STO with its drive channels held; feedback that does not follow BRAKES is BRAKE_FEEDBACK; a press of 0.1 to 3.0 s, or SAF_AXCMD
with SWRST, clears LATCH and W and leaves the axis in STO when the conditions hold, and is counted as ignored otherwise. -/
def Obligations.BrakesAndAxisReset : Prop :=
  (∀ (s : State) (n : Fin 4) (c : AxisCfg), axisCfg s n = some c → s.saf.ax[n].st = .ss1 → 2 * c.sstillT ≤ s.saf.ax[n].stillCyc →
    ∃ t, exec (.sbc n) s = .next t ∧ t = { s with saf := t.saf, life := t.life } ∧ t.saf.ax[n] = { s.saf.ax[n] with st := .braking } ∧
      t.saf.ka = s.saf.ka ∧ t.saf.bkH = s.saf.bkH &&& ~~~c.brakes ∧ t.saf.bkL = s.saf.bkL &&& ~~~c.brakes ∧ t.saf.causes = s.saf.causes ∧
      (∀ i : Fin 4, i ≠ n → t.saf.ax[i] = s.saf.ax[i])) ∧
  (∀ (s : State) (n : Fin 4), s.saf.ax[n].st ≠ .ss1 → exec (.sbc n) s = .next s) ∧
  (∀ (s : State) (n : Fin 4) (c : AxisCfg), axisCfg s n = some c → s.saf.ax[n].st = .braking →
    ∃ t, exec (.brakeApplyElapsed n) s = .next t ∧ SafetyOnly s t ∧ t.saf.ax[n].st = .sto ∧ t.saf.ax[n].latch = s.saf.ax[n].latch ∧
      t.saf.ka = s.saf.ka &&& ~~~c.bridges ∧ t.saf.bkH = s.saf.bkH &&& ~~~c.brakes ∧ t.saf.bkL = s.saf.bkL &&& ~~~c.brakes ∧
      (∀ i : Fin 4, i ≠ n → t.saf.ax[i] = s.saf.ax[i]) ∧
      ∀ i : Fin 256, t.chn.slots[i] = (s.chn.slots[i]).stoHold n) ∧
  (∀ (s : State) (n : Fin 4) (c : AxisCfg) (k : Fin 16), axisCfg s n = some c → c.bkfbIn = some k →
    (s.saf.siLvl.getLsbD k = brakesOn c s → exec (.brakeFeedback n) s = .next s) ∧
    (s.saf.siLvl.getLsbD k ≠ brakesOn c s → FaultEnters s →
      ∃ t, exec (.brakeFeedback n) s = .next t ∧ LockedFor 0x0114 t ∧ LockoutFrame s t)) ∧
  (∀ (s : State) (n : Fin 4) (c : AxisCfg) (t0 : Nat), axisCfg s n = some c → s.saf.ax[n].rstHighAt = some t0 → t0 + 100000 ≤ s.now →
    s.now ≤ t0 + 3000000 → AxisResetOk s n c →
    ∃ t, exec (.axisReset n) s = .next t ∧
      (s.saf.ax[n].st = .sto ∨ s.saf.ax[n].st = .unused →
        AxisBecomes s t n { s.saf.ax[n] with latch := false, w := 0, rstHighAt := none }) ∧
      (s.saf.ax[n].st ≠ .sto → s.saf.ax[n].st ≠ .unused → SafetyOnly s t ∧ t.saf.ax[n].st = .sto ∧ t.saf.ax[n].latch = false ∧
        t.saf.ax[n].w = 0 ∧ t.saf.ax[n].rstHighAt = none)) ∧
  (∀ (s : State) (n : Fin 4) (c : AxisCfg), axisCfg s n = some c →
    s.saf.ax[n].rstHighAt = none ∨ (∃ t0, s.saf.ax[n].rstHighAt = some t0 ∧ (s.now < t0 + 100000 ∨ t0 + 3000000 < s.now)) ∨
      (∃ k : Fin 16, (c.stoIn ||| c.ss1In).getLsbD k = true ∧ s.saf.siLvl.getLsbD k = false) →
    ∃ t, exec (.axisReset n) s = .next t ∧
      AxisBecomes s t n { s.saf.ax[n] with rstCnt := incSat 255 s.saf.ax[n].rstCnt, rstHighAt := none }) ∧
  (∀ (s : State) (n : Fin 4) (c : AxisCfg), axisCfg s n = some c → c.swRst = true → AxisResetOk s n c → s.saf.ax[n].st = .sto →
    ∃ t, exec (.safAxcmdReset n) s = .next t ∧ AxisBecomes s t n { s.saf.ax[n] with latch := false, w := 0, rstHighAt := none }) ∧
  (∀ (s : State) (n : Fin 4) (c : AxisCfg), axisCfg s n = some c → c.swRst = false → exec (.safAxcmdReset n) s = .next s)

/-- R314, R316-R320, R334: a cross-check window whose movements agree within the tolerances only starts the next window, one that does not raises
ENC_CROSSCHECK; test pulses never overlap and end with SI_TESTPULSE when an input reads wrongly; an illegal A/B transition or a third frame in a row
with the error bit on a source of an axis raises it too; an output that is on is pulsed off, one that is off with ONP_EN is pulsed on, one at a time,
with no result once its command changed; a failed read-back raises OFFPULSE_SO or OFFPULSE_BK; no off-pulse starts on a brake that is being applied. -/
def Obligations.PeriodicDiagnostics : Prop :=
  (∀ (s : State) (n : Fin 4) (c : AxisCfg), diagOn s = true → axisCfg s n = some c → c.xcRatio = 0 → c.pos2 = none →
    ∃ t, exec (.encCrosscheck n) s = .next t ∧ AxisBecomes s t n { s.saf.ax[n] with
      xcOn := true, xcP1 := (xcNow c s.saf).1, xcP2 := (xcNow c s.saf).2.1, xcV := (xcNow c s.saf).2.2 }) ∧
  (∀ (s : State) (n : Fin 4) (c : AxisCfg) (x : Src), diagOn s = true → axisCfg s n = some c → c.pos1 = some x → c.pos2 = none → c.xcRatio ≠ 0 →
    x.port ≠ c.spd.port →
    (countDiff (srcVal s.saf.inc1 s.saf.abs1 x) s.saf.ax[n].xcP1 * 65536 -
      c.xcRatio * countDiff (srcVal s.saf.inc1 s.saf.abs1 c.spd) s.saf.ax[n].xcV).natAbs ≤ c.xcTol * 65536 →
    ∃ t, exec (.encCrosscheck n) s = .next t ∧ AxisBecomes s t n { s.saf.ax[n] with
      xcOn := true, xcP1 := (xcNow c s.saf).1, xcP2 := (xcNow c s.saf).2.1, xcV := (xcNow c s.saf).2.2 }) ∧
  (∀ (s : State) (n : Fin 4) (c : AxisCfg) (x : Src), diagOn s = true → FaultEnters s → axisCfg s n = some c → c.pos1 = some x → c.xcRatio ≠ 0 →
    x.port ≠ c.spd.port → s.saf.ax[n].xcOn = true →
    c.xcTol * 65536 < (countDiff (srcVal s.saf.inc1 s.saf.abs1 x) s.saf.ax[n].xcP1 * 65536 -
      c.xcRatio * countDiff (srcVal s.saf.inc1 s.saf.abs1 c.spd) s.saf.ax[n].xcV).natAbs →
    ∃ t, exec (.encCrosscheck n) s = .next t ∧ LockedFor 0x0204 t ∧ LockoutFrame s t) ∧
  (∀ (s : State) (j : Fin 4), diagOn s = true → s.saf.toPulse = none →
    exec (.testPulseStart j) s = .next { s with saf := { s.saf with toPulse := some j, toOut := s.saf.toOut &&& ~~~(1#4 <<< j.val) } }) ∧
  (∀ (s : State) (j : Fin 4), s.saf.toPulse.isSome = true → exec (.testPulseStart j) s = .next s) ∧
  (∀ (s : State) (j : Fin 4) (v : BitVec 16), s.saf.toPulse = some j →
    (∀ (k : Fin 16) (i : Fin 4), s.img.safeIo.tpMap[k] = some i → i = j ∨ s.saf.siLvl.getLsbD k = true → v.getLsbD k = decide (i ≠ j)) →
    exec (.testPulseEnd v) s = .next { s with saf := { s.saf with toPulse := none, toOut := 0xF, toAfter := some (j, s.now) } }) ∧
  (∀ (s : State) (i j : Fin 4) (k : Fin 16) (v : BitVec 16), FaultEnters s → s.saf.toPulse = some j → s.img.safeIo.tpMap[k] = some i →
    i = j ∨ s.saf.siLvl.getLsbD k = true → v.getLsbD k = decide (i = j) →
    ∃ t, exec (.testPulseEnd v) s = .next t ∧ LockedFor 0x0205 t ∧ LockoutFrame s t ∧ t.saf.toOut = 0xF) ∧
  (∀ (s : State) (k : Fin 4), diagOn s = true → s.saf.offPulse = none → s.saf.onPulse = none → s.saf.so.getLsbD k = true →
    exec (.offPulseStart (.so k)) s = .next { s with saf := { s.saf with offPulse := some (.so k) } }) ∧
  (∀ (s : State) (o : OutTest), s.saf.offPulse.isSome = true ∨ s.saf.onPulse.isSome = true ∨ outOn s o = false →
    exec (.offPulseStart o) s = .next s) ∧
  (∀ (s : State) (n k : Fin 4) (low : Bool) (c : AxisCfg), axisCfg s n = some c → c.brakes.getLsbD k = true →
    s.saf.ax[n].st = .braking → exec (.offPulseStart (.bk k low)) s = .next s) ∧
  (∀ (s : State) (k : Fin 4) (r : Bool), s.saf.offPulse = some (.so k) → r = true ∨ s.saf.so.getLsbD k = false →
    exec (.offPulseEnd r) s = .next { s with saf := { s.saf with offPulse := none } }) ∧
  (∀ (s : State) (k : Fin 4), FaultEnters s → s.saf.offPulse = some (.so k) → s.saf.so.getLsbD k = true →
    ∃ t, exec (.offPulseEnd false) s = .next t ∧ LockedFor 0x0202 t ∧ LockoutFrame s t) ∧
  (∀ (s : State) (k : Fin 4) (low : Bool), FaultEnters s → s.saf.offPulse = some (.bk k low) → outOn s (.bk k low) = true →
    ∃ t, exec (.offPulseEnd false) s = .next t ∧ LockedFor 0x0201 t ∧ LockoutFrame s t) ∧
  (∀ (s : State) (k : Fin 4) (low : Bool), s.saf.offPulse = some (.bk k low) → outOn s (.bk k low) = true →
    exec (.offPulseEnd true) s = .next { s with saf := { s.saf with offPulse := none, bkAlt := s.saf.bkAlt ^^^ 1#4 <<< k.val } }) ∧
  (∀ (s : State) (k : Fin 4), diagOn s = true → s.saf.offPulse = none → s.saf.onPulse = none → s.saf.so.getLsbD k = false →
    s.img.safeIo.onpEn.getLsbD k = true → s.save.active = false →
    exec (.onPulseStart (.so k)) s = .next { s with saf := { s.saf with onPulse := some (.so k) } }) ∧
  (∀ (s : State) (k : Fin 4) (low : Bool), outOn s (.bk k (!low)) = true ∨ s.img.safeIo.onpEn.getLsbD (4 + k.val) = false →
    exec (.onPulseStart (.bk k low)) s = .next s) ∧
  (∀ (s : State) (o : OutTest) (r : Bool), s.saf.onPulse = some o → r = true ∨ outOn s o = true →
    exec (.onPulseEnd r) s = .next { s with saf := { s.saf with onPulse := none } }) ∧
  (∀ (s : State) (k : Fin 4), FaultEnters s → s.saf.onPulse = some (.so k) → s.saf.so.getLsbD k = false →
    ∃ t, exec (.onPulseEnd false) s = .next t ∧ LockedFor 0x0202 t ∧ LockoutFrame s t) ∧
  (∀ (s : State) (p n : Fin 4) (c : AxisCfg) (back close : Bool), diagOn s = true → FaultEnters s → s.fab.dom[1] = .on → axisCfg s n = some c →
    c.spd = { port := p } ∨ c.pos1 = some { port := p } ∨ c.pos2 = some { port := p } →
    ∃ t, exec (.encCountEdge p back true close) s = .next t ∧ LockedFor 0x0204 t ∧ t.mem = s.mem ∧ t.img = s.img) ∧
  (∀ (s : State) (p n : Fin 4) (c : AxisCfg) (d : Word) (e : Bool), diagOn s = true → FaultEnters s → s.fab.dom[1] = .on → axisCfg s n = some c →
    c.spd = { port := p, abs := true } ∨ c.pos1 = some { port := p, abs := true } ∨ c.pos2 = some { port := p, abs := true } →
    s.img.enc[p].abs = true → s.img.enc[p].errBit = true → e = !s.img.enc[p].errLow → coreRuns s = true →
    (s.saf.encErr[p] = 2 → ∃ t, exec (.absFrame p true d e true) s = .next t ∧ LockedFor 0x0204 t ∧ t.enc[p].pos = s.enc[p].pos) ∧
    (s.saf.encErr[p] < 2 → ∃ t, exec (.absFrame p true d e true) s = .next t ∧ t.saf.encErr[p] = s.saf.encErr[p] + 1 ∧
      t.enc[p].err = true ∧ t.enc[p].pos = s.enc[p].pos ∧ t.sys = s.sys))

/-- R315, R324, R325, R327, Table 11.4: a lockstep mismatch, an uncorrectable error, a failed ROM signature or parameter CRC stops the monitor and locks
out without a brake command and with ALIVE stopped, and the watchdog then takes the brakes off; a second mismatch is LOCKSTEP_REPEAT; corrected errors
are counted; the oldest pending history entry goes to the next ring entry with the next SEQ and its CRC, and no other byte changes; a low level starts
a press only in LOCKOUT.FAULT after LKRST_N was high. -/
def Obligations.MonitorFaultsAndHistory : Prop :=
  (∀ s : State, diagOn s = true → FaultEnters s →
    ∃ t, exec .smLockstep s = .next t ∧ LockedFor (if s.saf.lockstepSeen then 0x0301 else 0x0207) t ∧ LockoutFrame s t ∧ t.saf.halted = true ∧
      t.saf.alive = false ∧ t.saf.lockstepSeen = true ∧ t.saf.bkH = s.saf.bkH ∧ t.saf.bkL = s.saf.bkL) ∧
  (∀ s : State, diagOn s = true →
    exec (.smRamEcc true) s = .next { s with saf := { s.saf with smEcc := satNat 65535 (s.saf.smEcc + 1) } } ∧
    (∀ n, exec (.smRamScrub n false) s = .next { s with saf := { s.saf with smEcc := satNat 65535 (s.saf.smEcc + n) } }) ∧
    exec (.smRomCheck true true) s = .next s) ∧
  (∀ s : State, diagOn s = true → FaultEnters s →
    (∃ t, exec (.smRamEcc false) s = .next t ∧ LockedFor 0x0206 t ∧ LockoutFrame s t ∧ t.saf.halted = true ∧ t.saf.bkH = s.saf.bkH) ∧
    (∀ n, ∃ t, exec (.smRamScrub n true) s = .next t ∧ LockedFor 0x0206 t ∧ LockoutFrame s t ∧ t.saf.halted = true ∧ t.saf.bkH = s.saf.bkH) ∧
    (∃ t, exec (.smRomCheck false true) s = .next t ∧ LockedFor 0x0206 t ∧ LockoutFrame s t ∧ t.saf.halted = true) ∧
    (∃ t, exec (.smRomCheck true false) s = .next t ∧ LockedFor 0x0206 t ∧ LockoutFrame s t ∧ t.saf.halted = true)) ∧
  (∀ s : State, s.saf.halted = true →
    ∃ t, exec .brakeDriverWatchdog s = .next t ∧ t = { s with saf := { s.saf with bkH := 0, bkL := 0 }, life := t.life }) ∧
  (∀ s : State, s.saf.halted = false → exec .brakeDriverWatchdog s = .next s) ∧
  (∀ (s : State) (e : HistEntry) (l : List HistEntry), s.saf.hist = e :: l → MemWf s →
    ∃ (t : State) (b : List Byte), exec .historyWrite s = .next t ∧
      t = { s with mem := t.mem, saf := { s.saf with hist := l }, fab := { s.fab with soft := t.fab.soft, hard := t.fab.hard } } ∧
      b = histBytes (((histNewest s.mem).map fun q => q.2 + 1).getD 1) e ∧
      memBytes t.mem (0x30003000 + 32 * histNext64 s.mem) 28 = b ∧ memWord t.mem (0x30003000 + 32 * histNext64 s.mem + 28) = crc32c b ∧
      (∀ a, a < 0x30003000 + 32 * histNext64 s.mem ∨ 0x30003000 + 32 * histNext64 s.mem + 32 ≤ a → memByte t.mem a = memByte s.mem a)) ∧
  (∀ s : State, s.saf.hist = [] → exec .historyWrite s = .next s) ∧
  (∀ s : State,
    (∃ t, exec (.lkrstPressBegin true) s = .next t ∧ t = { s with saf := { s.saf with lkrst := false, pressArmed := false, pressAt := t.saf.pressAt } } ∧
      t.saf.pressAt = (if s.saf.pressArmed = true ∧ s.sys.mode = .lockoutFault then some s.now else none)) ∧
    exec (.lkrstPressBegin false) s = .next { s with saf := { s.saf with lkrst := true, pressArmed := true } })

/-- R336-R339: with no consumer running, a host budget is the source until it times out, then FALLBACK_KW with SRC 3; LOAD_RED_N starts the ramp from the
budget in force, each millisecond moves it on, and once RED_RAMP is over the budget is REDUCE_KW at most; the releases lift their limits. While ship
power is not critical, nothing but the SPM changes. R340, R341, R342, R343, R344, Procedure 12.1: while the P0 minimums fit, the grants of an allocation sum to at most A and every P0
consumer has at least its P_MIN; PREF_TRIP_N takes every P2 grant away, REFUSED, and a running P2 channel goes HELD at its next boundary;
POWER_CRITICAL clears once the minimums fit. -/
def Obligations.ShipPower : Prop :=
  ((∀ (s : State) (c : SpmCfg) (w : World) (kw : BitVec 16), s.img.spm = some c → c.source = 1 → isKeeper s = false → NoConsumers s →
    CoreMayWrite s w 14 →
    ∃ t, exec (.spmHostbudWrite w kw) s = .next t ∧ (Calm s → t = { s with spm := t.spm, fab := t.fab }) ∧ t.spm.hostBud = kw.toNat ∧ t.spm.src = 1 ∧
      t.spm.raw = kw.toNat ∧ t.spm.total = 0 ∧ (s.spm.ramp = none → t.spm.a = kw.toNat * (derateOf s c).1 * (derateOf s c).2 / 1000000) ∧
      t.fab.resps = [(s.fab.nextId, (.done, []))]) ∧
  (∀ (s : State) (c : SpmCfg), s.img.spm = some c → c.source = 1 → isKeeper s = false → NoConsumers s →
    ∃ t, exec .hostbudTimeout s = .next t ∧ (Calm s → t = { s with spm := t.spm }) ∧ t.spm.src = 3 ∧ t.spm.raw = c.fallbackKw ∧ t.spm.hostOk = false) ∧
  (∀ (s : State) (c : SpmCfg), s.img.spm = some c → s.spm.loadRed = false → NoConsumers s →
    ∃ t, exec .loadRedAssert s = .next t ∧ (Calm s → t = { s with spm := t.spm }) ∧ t.spm.loadRed = true ∧ t.spm.ramp = some (sourceBudget s c, 0)) ∧
  (∀ (s : State) (c : SpmCfg) (a k : Nat), s.img.spm = some c → s.spm.ramp = some (a, k) → k < c.redRamp → isKeeper s = false → NoConsumers s →
    ∃ t, exec .reduceRampStep s = .next t ∧ (Calm s → t = { s with spm := t.spm }) ∧ t.spm.ramp = some (a, k + 1) ∧
      (k + 1 = c.redRamp → t.spm.a ≤ c.reduceKw)) ∧
  (∀ s : State, exec .loadRedRelease s = .next { s with spm := { s.spm with loadRed := false, ramp := none } } ∧
    exec .prefTripRelease s = .next { s with spm := { s.spm with prefTrip := false } })) ∧
  ((∀ (s : State) (c : SpmCfg), s.img.spm = some c → critNow s = false →
    ∃ t, exec .spmAllocation s = .next t ∧ t.spm.a = budgetNow s ∧ t.spm.p0min = p0Min s ∧ t.spm.total ≤ t.spm.a ∧
      (∀ i : Fin 256, isConsumer s 0 s.chn.slots[i] = true → (slotTemplate s s.chn.slots[i]).pMin ≤ t.chn.slots[i].grant) ∧
      t.mem = s.mem ∧ t.img = s.img ∧ t.dk = s.dk ∧ t.le = s.le) ∧
  (∀ (s : State) (c : SpmCfg) (i : Fin 256), s.img.spm = some c → isConsumer s 2 s.chn.slots[i] = true →
    ∃ t, exec .prefTrip s = .next t ∧ t.spm.prefTrip = true ∧ t.chn.slots[i].grant = 0 ∧ t.chn.slots[i].pstat = 3 ∧
      (s.spm.crit = false → critNow s = false → t.chn.slots[i].startPend = false ∧
        (s.chn.slots[i].st = .running → t.chn.slots[i].holdPend = true) ∧ t.chn.slots[i].st = s.chn.slots[i].st)) ∧
  (∀ s : State, s.spm.crit = true → critNow s = false →
    ∃ t, exec .powerCriticalClear s = .next t ∧ t.spm.crit = false ∧ (NoConsumers s → t = { s with spm := t.spm })) ∧
  (∀ s : State, critNow s = true → exec .powerCriticalClear s = .next s))

/-- R149, R158, R291, R340, R342, R344: an accepted START waits for its boundary with the supervision counters at 0, and on a drive channel it asks for the
release of its axis; a latched axis answers REFUSED_SAFETY, a P2 channel under PREF_TRIP_N and a P1 or P2 channel under POWER_CRITICAL REFUSED_POWER, with only the port
changed. -/
def Obligations.ChannelStart : Prop :=
  (∀ (s : State) (c : ChnCall) (i : Fin 256), CallTaken s opStart c i → s.chn.slots[i].st = .armed ∨ s.chn.slots[i].st = .held →
    getb c.w[0] 0 = false → isDrive s s.chn.slots[i] = false → s.chn.slots[i].bridges = 0 → 2 < (slotTemplate s s.chn.slots[i]).pclass →
    NoConsumers s → Calm s →
    ∃ t, exec (.start c) s = .next t ∧ t = { s with chn := t.chn, spm := t.spm } ∧ t.chn.slots[i].startPend = true ∧
      t.chn.slots[i].plCnt = 0 ∧ t.chn.slots[i].feTimer = 0 ∧ t.chn.slots[i].st = s.chn.slots[i].st ∧
      t.chn.ports[c.port].rsp[0] = fld (handleOf s i).toNat 16 16 ∧ ∀ j : Fin 256, j ≠ i → t.chn.slots[j] = s.chn.slots[j]) ∧
  (∀ (s : State) (c : ChnCall) (i : Fin 256) (n : Fin 4), CallTaken s opStart c i → s.chn.slots[i].st = .armed ∨ s.chn.slots[i].st = .held →
    getb c.w[0] 0 = false → s.chn.slots[i].axis = some n → s.saf.ax[n].st = .sto → s.saf.ax[n].latch = false →
    inputDems ((axisCfg s n).getD {}) s.saf.siLvl = [] → ((axisCfg s n).getD {}).slpReq = false → s.trst.adopted = true →
    2 < (slotTemplate s s.chn.slots[i]).pclass → NoConsumers s → Calm s →
    ∃ t, exec (.start c) s = .next t ∧ t = { s with chn := t.chn, spm := t.spm, saf := t.saf } ∧ t.chn.slots[i].startPend = true ∧
      t.saf.ax[n].st = .releasing ∧ t.saf.ax[n].relStep = 1 ∧ (∀ m : Fin 4, m ≠ n → t.saf.ax[m] = s.saf.ax[m]) ∧ t.saf.ka = s.saf.ka ∧
      t.chn.ports[c.port].rsp[0] = fld (handleOf s i).toNat 16 16) ∧
  (∀ (s : State) (c : ChnCall) (i : Fin 256) (n : Fin 4), CallTaken s opStart c i → s.chn.slots[i].st = .armed ∨ s.chn.slots[i].st = .held →
    getb c.w[0] 0 = false → s.chn.slots[i].axis = some n → s.saf.ax[n].st = .sto → s.saf.ax[n].latch = true →
    ∃ t, exec (.start c) s = .next t ∧ t = { s with chn := { s.chn with ports := t.chn.ports, last := c.port } } ∧
      t.chn.ports[c.port].rsp[0] = fld 0x1116 0 16 ||| fld c.handle.toNat 16 16) ∧
  (∀ (s : State) (c : ChnCall) (i : Fin 256), CallTaken s opStart c i → s.chn.slots[i].st = .armed ∨ s.chn.slots[i].st = .held →
    getb c.w[0] 0 = false → isDrive s s.chn.slots[i] = false → s.chn.slots[i].bridges = 0 →
    ((slotTemplate s s.chn.slots[i]).pclass = 2 ∧ s.spm.prefTrip = true) ∨
      (((slotTemplate s s.chn.slots[i]).pclass = 1 ∨ (slotTemplate s s.chn.slots[i]).pclass = 2) ∧ s.spm.crit = true) →
    ∃ t, exec (.start c) s = .next t ∧ t = { s with chn := { s.chn with ports := t.chn.ports, last := c.port } } ∧
      t.chn.ports[c.port].rsp[0] = fld 0x0F17 0 16 ||| fld c.handle.toNat 16 16)

/-- R347, R350, R352, R353, R354: a lift that the admission accepts is committed at the offered speed, a second one is BUSY; each evaluation offers the
highest speed that fits, begins the stop where none does, and ends the lift where no height is left; at standstill after the stop the lift ends
HELD_SHORT with the non-safety SS1 of a released axis. -/
def Obligations.LiftAdmission : Prop :=
  (∀ (s : State) (c : ChnCall) (i : Fin 256) (cfg : LiftCfg) (r v : Nat), CallTaken s opStart c i →
    s.chn.slots[i].st = .armed ∨ s.chn.slots[i].st = .held → s.img.lift = some cfg → profileBad s s.chn.slots[i] c = none →
    s.spm.lift = none → s.chn.slots[i].axis = some cfg.axis → s.saf.ax[cfg.axis].st = .released → s.trst.adopted = true →
    powerBarred s s.chn.slots[i] = false → r = rOk ∨ r = rCurtailed →
    liftAdmit (spmAlloc (startMark i s)) cfg (liftOf s cfg i c) (spmAlloc (startMark i s)).chn.slots[i].grant = (r, (0, v)) →
    ∃ t, exec (.liftStart c) s = .next t ∧ t.spm.lift = some (liftOf s cfg i c) ∧ t.spm.offer = v ∧ t.spm.req = getf c.w[2] 0 16 ∧
      t.spm.remH = c.w[1].toNat ∧ t.chn.slots[i].startPend = true ∧ t.chn.ports[c.port].rsp[0] = fld r 0 8 ||| fld (handleOf s i).toNat 16 16 ∧
      t.chn.ports[c.port].rsp[3] = fld v 0 32 ∧ t.mem = s.mem ∧ t.img = s.img ∧ t.dk = s.dk) ∧
  (∀ (s : State) (c : ChnCall) (i : Fin 256) (l : Lift), CallTaken s opStart c i → s.chn.slots[i].st = .armed ∨ s.chn.slots[i].st = .held →
    profileBad s s.chn.slots[i] c = none → s.spm.lift = some l → liftLive s l = true →
    ∃ t, exec (.liftStart c) s = .next t ∧ t = { s with chn := { s.chn with ports := t.chn.ports, last := c.port } } ∧
      t.chn.ports[c.port].rsp[0] = fld 0x1330 0 16 ||| fld c.handle.toNat 16 16) ∧
  (∀ (s : State) (cfg : LiftCfg) (l : Lift) (v : Nat), s.img.lift = some cfg → s.spm.lift = some l → liftH s cfg l ≠ 0 → liftLive s l = true → s.spm.liftSt ≠ 3 →
    bestSpeed (speedFits s cfg l (liftH s cfg l) s.chn.slots[l.slot].grant 10) cfg.vMinLift l.speed = some v →
    ∃ t, exec .liftReevaluate s = .next t ∧ t = { s with spm := t.spm } ∧ t.spm.offer = v ∧ t.spm.lift = some (l.moved s) ∧
      t.spm.liftSt = (if v = l.speed then 1 else 2) ∧ v ≤ l.speed ∧
      speedFits s cfg l (liftH s cfg l) s.chn.slots[l.slot].grant 10 v = true) ∧
  (∀ (s : State) (cfg : LiftCfg) (l : Lift), s.img.lift = some cfg → s.spm.lift = some l → liftH s cfg l ≠ 0 → liftLive s l = true → s.spm.liftSt ≠ 3 →
    bestSpeed (speedFits s cfg l (liftH s cfg l) s.chn.slots[l.slot].grant 10) cfg.vMinLift l.speed = none →
    ∃ t, exec .liftReevaluate s = .next t ∧ t = { s with spm := t.spm, freeCtr := t.freeCtr } ∧ t.spm.offer = 0 ∧ t.spm.liftSt = 3 ∧
      t.spm.lift = some (l.moved s)) ∧
  (∀ (s : State) (cfg : LiftCfg) (l : Lift), s.img.lift = some cfg → s.spm.lift = some l → liftH s cfg l = 0 ∨ liftLive s l = false →
    ∃ t, exec .liftReevaluate s = .next t ∧ t = { s with spm := t.spm } ∧ t.spm.lift = none ∧ t.spm.offer = 0 ∧ t.spm.liftSt = 0) ∧
  (∀ (s : State) (l : Lift) (a : AxisCfg), s.spm.lift = some l → axisCfg s l.axis = some a → s.spm.liftSt = 3 →
    2 * a.sstillT ≤ s.saf.ax[l.axis].stillCyc → s.saf.ax[l.axis].st = .released →
    ∃ t, exec .liftHoldShort s = .next t ∧ t = { s with spm := t.spm, saf := t.saf } ∧ t.spm.lift = none ∧ t.spm.liftSt = 4 ∧
      t.spm.offer = 0 ∧ t.saf.ax[l.axis].st = .ss1 ∧ t.saf.ax[l.axis].latch = s.saf.ax[l.axis].latch)

/-- R367, R368, Tables 13.1 and 13.2: a node that is not the keeper forwards a good frame with its own slot replaced, FRESH set there and every other slot
as it came; the keeper's frame has every other slot's FRESH clear, its own set, its budget, and targets that sum to at most the budget while the P0
minimums fit it; a backup node's frame has BACKUP set and BUDGET 0. Each ends with a good CRC. R378: a frame whose CRC or RING_ID fails is discarded
and counted against its port, and the second in a row folds the ring there. -/
def Obligations.HarovFrames : Prop :=
  (∀ (s : State) (c : HlCfg) (p : Fin 2) (b : List Byte), HlPass s c b → NoConsumers s → s.hl.leaving = false →
    ∃ t f, exec (.hlFramePass p b) s = .next t ∧ (frameFlag b 2 = false → s.spm.crit = false → t = { s with hl := t.hl, spm := t.spm }) ∧
      t.hl.link = true ∧ t.hl.out = some f ∧
      t.hl.frame = some b ∧ frameGood c f = true ∧ slotFresh f c.node.val = true ∧
      ∀ n : Fin 8, n ≠ c.node → slice f (slotOfs n.val) 24 = slice b (slotOfs n.val) 24) ∧
  (∀ (s : State) (c : HlCfg) (b : List Byte) (p : Fin 2), s.img.hl = some c → s.hl.on = true → frameGood c b = false →
    ∃ t, exec (if c.node = c.keeper then .hlPassEnd p b else .hlFramePass p b) s = .next t ∧ t = { s with hl := t.hl } ∧ t.hl.freshRun = 0 ∧
      t.hl.badRun[p] = incSat 2 s.hl.badRun[p] ∧ t.hl.out = s.hl.out ∧ t.hl.taken = s.hl.taken ∧
      t.hl.crc0 = (if p = 0 then incSat 255 s.hl.crc0 else s.hl.crc0) ∧ t.hl.crc1 = (if p = 1 then incSat 255 s.hl.crc1 else s.hl.crc1) ∧
      t.hl.fold0 = (s.hl.fold0 || (decide (p = 0) && decide (incSat 2 s.hl.badRun[p] = 2))) ∧
      t.hl.fold1 = (s.hl.fold1 || (decide (p = 1) && decide (incSat 2 s.hl.badRun[p] = 2)))) ∧
  (∀ (s : State) (c : HlCfg) (p : SpmCfg), s.img.hl = some c → s.img.spm = some p → s.hl.on = true → c.node = c.keeper → c.ringId < 65536 →
    c.nnodes ≤ 8 → NoConsumers s → s.hl.cfgErr = false → s.hl.dup = false →
    ∃ t f, exec .hlFrameOrigin s = .next t ∧
      (s.spm.crit = false → tokenCrit (satNat 65535 (sourceBudget s p)) (aliveNodes c s) = false → s.hl.overB = false →
        t = { s with hl := t.hl, spm := t.spm }) ∧ t.hl.out = some f ∧ frameGood c f = true ∧
      fr16 f 6 = satNat 65535 (sourceBudget s p) ∧ fr16 f 0 = s.hl.cycle % 65536 ∧ frameFlag f 0 = s.hl.freeze ∧ frameFlag f 4 = false ∧
      (∀ n : Fin 8, slotFresh f n.val = decide (n = c.node)) ∧ t.hl.freeze = false ∧
      (tokenCrit (satNat 65535 (sourceBudget s p)) (aliveNodes c s) = false →
        (fins 8).foldl (fun (a : Nat) (n : Fin 8) => a + frameTarget f n.val) 0 ≤ satNat 65535 (sourceBudget s p))) ∧
  (∀ (s : State) (c : HlCfg), s.img.hl = some c → s.hl.on = true → s.hl.link = false → s.hl.cfgErr = false → s.hl.dup = false → c.node ≠ c.keeper →
    c.ringId < 65536 →
    ∃ t f, exec .hlBackupOrigin s = .next t ∧ t = { s with hl := t.hl } ∧ t.hl.backup = true ∧ t.hl.out = some f ∧ frameGood c f = true ∧
      fr16 f 6 = 0 ∧ frameFlag f 4 = true ∧ t.hl.taken = s.hl.taken)

/-- R373, R374, R376, R377, R379: a node lowers its holding to its target by offering the excess to the keeper, and in a FREEZE frame its holding is P0MIN
and its offer void; 100 ms after link loss it is P0MIN too, and nothing on a node with CFGERR or DUP (R383); at the end of a pass in which every other node was FRESH the keeper's SUM is the sum of
the TAKEN fields, a SUM that is not B counts as a mismatch, and the third in a row sets FREEZE; a frame on its way back from a fold goes on and closes no pass. R370, R371, R378: a follower that loses the link takes
up droop sharing from its master's last demand and its own speed, with D = 0 the demand stays T0, otherwise it is clamped to the rated torque; after 8
fresh frames the return ramp of 8 cycles begins; a port that goes down folds the ring there and counts once. Nothing else changes. -/
def Obligations.HarovTokensAndDroop : Prop :=
  ((∀ (s : State) (c : HlCfg) (p : Fin 2) (b : List Byte), HlPass s c b → NoConsumers s → s.hl.leaving = false → frameFlag b 0 = false →
    frameFlag b 4 = false → slotOffer b c.keeper.val = none → s.hl.offer = none → frameTarget b c.node.val < s.hl.taken →
    ∃ t, exec (.hlFramePass p b) s = .next t ∧ t.hl.taken = s.hl.taken ∧ t.hl.target = frameTarget b c.node.val ∧
      t.hl.offer = some (c.keeper, s.hl.taken - frameTarget b c.node.val) ∧ hlHolding t = frameTarget b c.node.val) ∧
  (∀ (s : State) (c : HlCfg) (p : Fin 2) (b : List Byte), HlPass s c b → NoConsumers s → s.hl.leaving = false → frameFlag b 0 = true →
    ∃ t, exec (.hlFramePass p b) s = .next t ∧ t.hl.taken = p0Min s ∧ t.hl.offer = none ∧ t.hl.freezes = incSat 65535 s.hl.freezes) ∧
  (∀ (s : State) (c : HlCfg), s.img.hl = some c → s.hl.link = false →
    ∃ t, exec .hlTokenTimeout s = .next t ∧ (NoConsumers s → Calm s → t = { s with hl := t.hl, spm := t.spm }) ∧
      t.hl = { s.hl with taken := (if s.hl.cfgErr = true ∨ s.hl.dup = true then 0 else p0Min s), offer := none, pool := 0 }) ∧
  (∀ (s : State) (c : HlCfg) (b : List Byte), s.img.hl = some c → s.hl.on = true → c.node = c.keeper → frameGood c b = true → s.hl.fold1 = false →
    ∃ t, exec (.hlPassEnd 0 b) s = .next t ∧ t = { s with hl := t.hl } ∧ t.hl.out = some b ∧ t.hl.outPort = 1 ∧ t.hl.taken = s.hl.taken ∧
      t.hl.sum = s.hl.sum) ∧
  (∀ (s : State) (c : HlCfg) (p : Fin 2) (b : List Byte) (sum : Nat), s.img.hl = some c → s.hl.on = true → c.node = c.keeper → s.hl.joined = true →
    frameGood c b = true → s.hl.offer = none → s.hl.acceptedNow = 0 → NoConsumers s → p = 1 ∨ s.hl.fold1 = true → s.hl.cfgErr = false →
    s.hl.dup = false →
    (∀ n : Fin 8, n ≠ c.node → n.val < c.nnodes → slotFresh b n.val = true) →
    sum = slotU16 b c.node.val 0x10 +
      (fins 8).foldl (fun (a : Nat) (n : Fin 8) => if n ≠ c.node ∧ n.val < c.nnodes then a + slotU16 b n.val 0x10 else a) 0 →
    ∃ t, exec (.hlPassEnd p b) s = .next t ∧ (frameFlag b 2 = false → s.spm.crit = false → t = { s with hl := t.hl, spm := t.spm }) ∧
      t.hl.link = true ∧ t.hl.sum = satNat 65535 sum ∧
      (sum = s.hl.b → t.hl.mismatch = 0 ∧ t.hl.freeze = false) ∧
      (sum ≠ s.hl.b → t.hl.mismatch = incSat 3 s.hl.mismatch ∧ t.hl.freeze = decide (2 ≤ s.hl.mismatch)))) ∧
  ((∀ (s : State) (c : HlCfg), s.img.hl = some c → s.hl.on = true → s.hl.link = true → c.role = 2 → c.master.isSome = true → s.hl.cfgErr = false →
    s.hl.dup = false →
    exec .hlLinkLost s = .next { s with hl := { s.hl with
      link := false, freshRun := 0, droop := true, rampLeft := 0, t0 := masterDemand c s.hl, v0 := sInt s.hl.port[2]
      droopT := masterDemand c s.hl } }) ∧
  (∀ (s : State) (c : HlCfg), s.img.hl = some c → s.hl.on = true → s.hl.link = true → c.role ≠ 2 →
    exec .hlLinkLost s = .next { s with hl := { s.hl with link := false, freshRun := 0 } }) ∧
  (∀ (s : State) (c : HlCfg), s.img.hl = some c → s.hl.droop = true →
    ∃ t, exec .droopUpdate s = .next t ∧ t = { s with hl := { s.hl with droopT := t.hl.droopT } } ∧
      (c.droop = 0 → t.hl.droopT = s.hl.t0) ∧ (c.droop ≠ 0 → -(c.tRated : Int) ≤ t.hl.droopT ∧ t.hl.droopT ≤ c.tRated)) ∧
  (∀ s : State, s.hl.droop = false → exec .droopUpdate s = .next s) ∧
  (∀ s : State, s.hl.droop = true → s.hl.freshRun = 8 →
    exec .droopLeave s = .next { s with hl := { s.hl with droop := false, rampLeft := 8, rampFrom := s.hl.droopT } }) ∧
  (∀ s : State, s.hl.freshRun ≠ 8 → exec .droopLeave s = .next s) ∧
  (∀ s : State, s.hl.on = true → s.hl.fold0 = false →
    exec (.hlPortDown 0) s = .next { s with hl := { s.hl with fold0 := true, folds := incSat 65535 s.hl.folds } }) ∧
  (∀ s : State, s.hl.on = true → s.hl.fold1 = false →
    exec (.hlPortDown 1) s = .next { s with hl := { s.hl with fold1 := true, folds := incSat 65535 s.hl.folds } }))

/-- R391, R395, R405, R407, R409: the start-up checks set their causes with INIT_ZERO and send the I telegram; each sample forms the gross from the
selected inputs, counts a Window record, sets BRIDGE for an input that fails R392, is never stable before 2 000 samples, and updates the fast latch
only while no cause is present. A TWV900-MN has no island. -/
def Obligations.CabinetMeasuring : Prop :=
  (∀ (s : State) (rom params accel : Bool), isMn s = false → s.cab.run = false →
    ∃ t, exec (.cabStart rom params accel) s = .next t ∧ t = { s with cab := t.cab } ∧ t.cab.run = true ∧ t.cab.causes.getLsbD 2 = true ∧
      t.cab.causes.getLsbD 3 = (!params || !s.cab.par.calibrated) ∧ t.cab.causes.getLsbD 4 = !rom ∧
      t.cab.causes.getLsbD 5 = !accel ∧ t.cab.causes.getLsbD 7 = s.cab.calsw ∧ (s.cab.cmd = none → t.cab.par = { s.cab.par with ok := params }) ∧ t.cab.alibi = s.cab.alibi ∧
      t.cab.tx = telegram "I" [ascii "CAB 2.04", hexField 4 Config.cabChecksum.toNat, decField s.cab.par.audit]) ∧
  (∀ (s : State) (rom params accel : Bool), isMn s = true → exec (.cabStart rom params accel) s = .next s) ∧
  (∀ (s : State) (m : CabSample), s.cab.run = true →
    ∃ t, exec (.cabSample m) s = .next t ∧ t = { s with cab := t.cab, freeCtr := t.freeCtr } ∧ t.cab.wseq = s.cab.wseq + 1 ∧
      t.cab.ms = s.cab.ms + 1 ∧ t.cab.par = s.cab.par ∧ t.cab.alibi = s.cab.alibi ∧ t.cab.newest = s.cab.newest ∧
      (bridgeBad s.cab.par m = true → t.cab.causes.getLsbD 6 = true) ∧ (s.cab.win.length < 1999 → t.cab.stable = false) ∧
      (t.cab.causes ≠ 0 → t.cab.fast = s.cab.fast ∧ t.cab.fastVer = s.cab.fastVer) ∧
      (t.cab.causes = 0 → coreRuns s = true → t.cab.fast = toW t.cab.grossG ∧ t.cab.fastVer = s.cab.fastVer + 1)) ∧
  (∀ (s : State) (m : CabSample), s.cab.run = true → m.acc = none → s.cab.a = 0 → s.cab.par.cells = 1 → s.cab.par.span[0].den = 1 → 0 < s.cab.par.grav →
    ∃ t, exec (.cabSample m) s = .next t ∧ t.cab.raw = s.cab.par.span[0].num * (m.ratio[0] - s.cab.par.zero[0])) ∧
  (∀ (s : State) (m : CabSample), s.cab.run = false → exec (.cabSample m) s = .next s)

/-- R398-R400, R408, R411, R416, R419, Tables 14.5 and 14.6: the six commands on a running island with none pending. ZERO takes the gross as zero within
its window, TARE as tare within its range, TARE_CLEAR clears it, RECORD writes the next alibi record, ALIBI_READ and STATUS answer at once; without a
stable result ZERO, TARE and RECORD wait, complete when one is there and are NOT_STABLE after 5 s; a cause, an absent display, a SEQ not held and a
pending command are answered as Table 14.6 and R411 say; on a TWV900-MN the answer is CAB_ABSENT and no register of the block takes a value (R15). Only
the island and its proxy change, and the access has its response. -/
def Obligations.CabinetCommands : Prop :=
  (∀ (s : State) (w : World) (g : Byte), CabFree s w → s.cab.regArg = 0 →
    ∃ t, exec (.tareClear w g) s = .next t ∧ CabOnly s t w ∧ t.cab.par = { s.cab.par with tare := 0 } ∧ CabAnswered t.cab 3 g 0) ∧
  (∀ (s : State) (w : World) (g : Byte), CabFree s w → s.cab.regArg = 0 → s.cab.causes = 0 → s.cab.par.tare = 0 → s.cab.stable = true →
    50 * (s.cab.raw - s.cab.zero0.getD 0).natAbs ≤ s.cab.par.maxMg →
    ∃ t, exec (.zero w g) s = .next t ∧ CabOnly s t w ∧ t.cab.zero = s.cab.raw ∧ t.cab.gross = 0 ∧ t.cab.par = s.cab.par ∧
      CabAnswered t.cab 1 g 0) ∧
  (∀ (s : State) (w : World) (g : Byte), CabFree s w → s.cab.regArg = 0 → s.cab.causes = 0 → s.cab.stable = true → 0 < s.cab.gross →
    s.cab.gross ≤ s.cab.par.maxMg →
    ∃ t, exec (.tare w g) s = .next t ∧ CabOnly s t w ∧ t.cab.par = { s.cab.par with tare := (rne s.cab.gross s.cab.par.eMg).toNat } ∧
      t.cab.zero = s.cab.zero ∧ CabAnswered t.cab 2 g 0) ∧
  (∀ (s : State) (w : World) (g : Byte), CabFree s w → s.cab.regArg = 0 → s.cab.causes = 0 → s.cab.stable = true →
    s.cab.gross ≤ 0 ∨ (s.cab.par.maxMg : Int) < s.cab.gross →
    ∃ t, exec (.tare w g) s = .next t ∧ CabOnly s t w ∧ t.cab.par = s.cab.par ∧ CabAnswered t.cab 2 g 2) ∧
  (∀ (s : State) (w : World) (g : Byte), CabFree s w → s.cab.regArg = 0 → s.cab.causes = 0 → s.cab.noDisp = false → s.cab.stable = true →
    s.cab.overload = false → s.cab.underload = false →
    ∃ t, exec (.record w g) s = .next t ∧ CabOnly s t w ∧ t.cab.newest = s.cab.newest + 1 ∧
      kvGet ((s.cab.newest + 1) % 32768) t.cab.alibi = some { bytes := s.cab.legalRecord, ok := true } ∧ t.cab.wseq = s.cab.wseq + 1 ∧
      t.cab.par = s.cab.par ∧ CabAnswered t.cab 4 g 0) ∧
  (∀ (s : State) (w : World) (g : Byte), CabFree s w → s.cab.regArg = 0 → s.cab.causes ≠ 0 ∨ s.cab.noDisp = true →
    ∃ t, exec (.record w g) s = .next t ∧ CabOnly s t w ∧ t.cab.newest = s.cab.newest ∧ t.cab.alibi = s.cab.alibi ∧
      CabAnswered t.cab 4 g 3 ∧ t.cab.ansDisp = s.cab.noDisp) ∧
  (∀ (s : State) (w : World) (g : Byte), CabFree s w → s.cab.regArg = 0 → s.cab.causes = 0 → s.cab.noDisp = false → s.cab.stable = false →
    ∃ t, exec (.record w g) s = .next t ∧ CabOnly s t w ∧ t.cab.pend = true ∧ t.cab.cmd = some { op := 4, tag := g.toNat, arg := 0 } ∧
      t.cab.newest = s.cab.newest ∧ t.cab.ansValid = s.cab.ansValid) ∧
  (∀ (s : State) (k : CabCmd), s.cab.cmd = some k → s.cab.run = true → s.cab.stable = true → s.cab.causes = 0 → k.op = 1 → s.cab.par.tare = 0 →
    50 * (s.cab.raw - s.cab.zero0.getD 0).natAbs ≤ s.cab.par.maxMg →
    ∃ t, exec .cabCommandComplete s = .next t ∧ t = { s with cab := t.cab } ∧ t.cab.zero = s.cab.raw ∧ t.cab.pend = false ∧ t.cab.ansCode = 0 ∧
      t.cab.ansOp = 1 ∧ t.cab.ansTag = k.tag) ∧
  (∀ (s : State) (k : CabCmd), s.cab.cmd = some k →
    exec .cabStabilityTimeout s = .next { s with cab := { s.cab with
      cmd := none, pend := false, ansCode := 1, ansTag := k.tag, ansOp := k.op, ansDisp := false, ansValid := true } }) ∧
  (∀ (s : State) (w : World) (g : Byte) (r : List Byte), CabFree s w → s.cab.findRecord s.cab.regArg.toNat = some r →
    ∃ t, exec (.alibiRead w g) s = .next t ∧ CabOnly s t w ∧ t.cab.alibi = s.cab.alibi ∧ t.cab.wseq = s.cab.wseq + 1 ∧
      CabAnswered t.cab 5 g 0) ∧
  (∀ (s : State) (w : World) (g : Byte), CabFree s w → s.cab.regArg = 0 ∨ s.cab.newest < s.cab.regArg.toNat ∨
    s.cab.regArg.toNat + 32767 < s.cab.newest →
    ∃ t, exec (.alibiRead w g) s = .next t ∧ CabOnly s t w ∧ t.cab.wseq = s.cab.wseq ∧ CabAnswered t.cab 5 g 4) ∧
  (∀ (s : State) (w : World) (g : Byte), CabFree s w → s.cab.regArg = 0 →
    ∃ t, exec (.cabStatus w g) s = .next t ∧ CabOnly s t w ∧ t.cab.par = s.cab.par ∧ t.cab.wseq = s.cab.wseq + 1 ∧
      CabAnswered t.cab 6 g 0) ∧
  (∀ (s : State) (w : World) (g : Byte), CoreMayWrite s w 9 → isMn s = false → s.cab.pend = true →
    exec (.zero w g) s = .next { s with
      cab := { s.cab with regOp := 1, regTag := g.toNat, collide := true }, fab := fabAnswered s (coreInit w) .done }) ∧
  (∀ (s : State) (w : World) (g : Byte), CoreMayWrite s w 9 → isMn s = true →
    exec (.record w g) s = .next { s with
      cab := { s.cab with cmd := none, pend := false, ansCode := 7, ansTag := g.toNat, ansOp := 4, ansDisp := false, ansValid := true }
      fab := fabAnswered s (coreInit w) .done })

/-- R402, R403, R404, R406, R407, R412, R424 and Table 14.8: a legal parameter changes on a C or S telegram with CALSW closed and the audit counter below
65 535, and then counts once; anything else is answered with E, and bytes that are no good telegram are discarded. CALSW, a lost XCAB and an absent display set their conditions, a RECORD that waits for a stable result is answered NOT_LEGAL with the display flag as the
display goes, a cause clears once its
condition is absent; telegrams change nothing else; loss of VCAB stores ITIME and stops the island; a POP moves the oldest record into the registers. -/
def Obligations.CabinetSealing : Prop :=
  (∀ (s : State) (b : List Byte) (q : CabParam) (v : Nat) (p : CabPar), cRequest b = some (some (q, v)) → s.cab.run = true → s.cab.calsw = true →
    s.cab.par.audit < 65535 → s.cab.par.setParam q v = some p →
    exec (.cTelegram b) s = .next { s with cab := { s.cab with par := { p with audit := s.cab.par.audit + 1, ok := true } } }) ∧
  (∀ (s : State) (b : List Byte) (x : Option (CabParam × Nat)), cRequest b = some x → s.cab.run = true → s.cab.calsw = false →
    exec (.cTelegram b) s = .next { s with cab := { s.cab with tx := telegram "E" [decField s.cab.causes.toNat] } }) ∧
  (∀ (s : State) (b : List Byte) (x : Option (CabParam × Nat)), cRequest b = some x → s.cab.run = true → s.cab.calsw = true →
    65535 ≤ s.cab.par.audit → exec (.cTelegram b) s = .next { s with cab := { s.cab with tx := telegram "E" [ascii "AUDIT"] } }) ∧
  (∀ (s : State) (b : List Byte), (cRequest b = none → exec (.cTelegram b) s = .next s) ∧ (sRequest b = none → exec (.sTelegram b) s = .next s) ∧
    (hRequest b = none → exec (.hTelegram b) s = .next s)) ∧
  (∀ (s : State) (b : List Byte), sRequest b = some none → s.cab.run = true → s.cab.calsw = true → s.cab.par.audit < 65535 →
    ∃ t, exec (.sTelegram b) s = .next t ∧ t = { s with cab := { s.cab with par := t.cab.par } } ∧ t.cab.par.audit = s.cab.par.audit + 1 ∧
      ∀ k : Fin 4, t.cab.par.zero[k] = if s.cab.par.cells.getLsbD k then s.cab.ratio[k] else s.cab.par.zero[k]) ∧
  (∀ (s : State) (b : List Byte) (kg : Nat), sRequest b = some (some kg) → s.cab.run = true → s.cab.calsw = true → s.cab.par.audit < 65535 →
    (s.cab.par.captureSpan s.cab.ratio kg).isSome = true →
    ∃ t, exec (.sTelegram b) s = .next t ∧ t = { s with freeCtr := t.freeCtr, cab := { s.cab with par := t.cab.par } } ∧
      t.cab.par.calibrated = true ∧ t.cab.par.audit = s.cab.par.audit + 1 ∧
      (s.cab.par.calibrated = true → t.cab.par.seed = s.cab.par.seed ∧ t.cab.par.pub = s.cab.par.pub)) ∧
  (∀ s : State, s.cab.run = true →
    (∃ t, exec (.calswChange true) s = .next t ∧ t = { s with cab := t.cab } ∧ t.cab.calsw = true ∧ t.cab.causes = s.cab.causes ||| 0x80#8) ∧
    exec (.calswChange false) s = .next { s with cab := { s.cab with
      calsw := false, causes := s.cab.causes &&& 0x7F#8, cond := s.cab.cond &&& 0x7F#8 } } ∧
    (∃ t, exec .xcabLoss s = .next t ∧ t = { s with cab := t.cab } ∧ t.cab.causes = s.cab.causes ||| 1#8 ∧ t.cab.cmd = none) ∧
    ((∀ k, s.cab.cmd = some k → k.op ≠ 4) → exec .displayTimeout s = .next { s with cab := { s.cab with noDisp := true } }) ∧
    (∀ k, s.cab.cmd = some k → k.op = 4 → exec .displayTimeout s = .next { s with cab := { s.cab with
      noDisp := true, cmd := none, pend := false, ansCode := 3, ansTag := k.tag, ansOp := 4, ansDisp := true, ansValid := true } }) ∧
    (∀ b, hRequest b = some 0 → exec (.hTelegram b) s = .next { s with cab := { s.cab with noDisp := false } }) ∧
    (∃ t, exec .wTelegram s = .next t ∧ t = { s with cab := { s.cab with tx := t.cab.tx } } ∧
      (s.cab.causes ≠ 0 → t.cab.tx = telegram "E" [decField s.cab.causes.toNat])) ∧
    (∃ t, exec (.cabPowerDown false) s = .next t ∧ t = { s with cab := t.cab } ∧ t.cab.run = false ∧ t.cab.par = { s.cab.par with itime := s.cab.itime } ∧
      t.cab.alibi = s.cab.alibi)) ∧
  (∀ (s : State) (k : Fin 8), s.cab.run = true → k ≠ 0 → k ≠ 2 → k ≠ 3 → k ≠ 7 → s.cab.cond.getLsbD k = false →
    exec (.notLegalClear k) s = .next { s with cab := { s.cab with causes := s.cab.causes &&& ~~~(1#8 <<< k.val) } }) ∧
  (∀ (s : State) (k : Fin 8), k ≠ 0 → k ≠ 3 → s.cab.cond.getLsbD k = true → exec (.notLegalClear k) s = .next s) ∧
  (∀ (s : State) (w : World) (r : List Byte) (l : List (List Byte)), CoreMayWrite s w 9 → s.cab.fifo = r :: l → s.cab.hold = [] →
    ∃ t, exec (.cabwPop w) s = .next t ∧ t = { s with cab := t.cab, fab := fabAnswered s (coreInit w) .done } ∧ t.cab.fifo = l ∧
      ∀ k : Fin 28, t.cab.rec_[k] = BitVec.ofNat 32 (leAt r (4 * k.val) 4))

/-- R426-R430, R442-R444, Table 15.2: a measurement writes the currents alone, none above the limit or the hold current of its output; a short turns an output off, counts, records FO_SHORT for its channels and waits for
its retry or latches it; a retry applies the command afresh, 10 s of running restores the retries, FO_CLEAR ends LATCHED on the outputs it names;
three bad observations in a row raise LAMP_OPEN; VFO low suspends them, and none is taken in the period of a short. -/
def Obligations.FieldOutputs : Prop :=
  (∀ (s : State) (cur : Vector (Option (BitVec 12)) 32),
    ∃ t, exec (.foMeasure cur) s = .next t ∧ t = { s with fio := { s.fio with out := t.fio.out } } ∧
      ∀ n : Fin 32, t.fio.out[n] = { s.fio.out[n] with i := t.fio.out[n].i } ∧
        (cur[n] = none → t.fio.out[n].i = s.fio.out[n].i) ∧
        (s.fio.out[n].st ≠ 2 → ∀ x, cur[n] = some x → t.fio.out[n].i = min x.toNat (foCeiling s.img.fo[n] s.now s.fio.out[n]))) ∧
  (∀ (s : State) (n : Fin 32) (hot : Bool), s.fio.out[n].st = 1 ∨ s.fio.out[n].st = 2 → hot = true ∨ inInrush s n = false → s.sys.mode ≠ .watch →
    ∃ t, exec (.foShort n hot) s = .next t ∧ t = { s with fio := t.fio, chn := { s.chn with slots := t.chn.slots } } ∧
      t.fio.out[n].st = (if s.fio.out[n].retryLeft = 0 then 4 else 3) ∧ t.fio.out[n].duty = 0 ∧ t.fio.out[n].short = true ∧
      t.fio.out[n].shorts = incSat 65535 s.fio.out[n].shorts ∧ t.fio.evCode = 0x0702 ∧ t.fio.evIndex = n.val ∧ t.fio.evValid = true ∧
      (∀ m : Fin 32, m ≠ n → t.fio.out[m] = s.fio.out[m]) ∧
      ∀ i : Fin 256, s.chn.slots[i].st ≠ .free → s.chn.slots[i].fos.getLsbD n = true → t.chn.slots[i].fault = 0x0702) ∧
  (∀ (s : State) (n : Fin 32) (hot : Bool), s.fio.out[n].st ≠ 1 → s.fio.out[n].st ≠ 2 → exec (.foShort n hot) s = .next s) ∧
  (∀ (s : State) (n : Fin 32), s.fio.out[n].st = 3 → s.sys.mode ≠ .watch →
    ∃ t, exec (.foRetry n) s = .next t ∧ t = { s with fio := { s.fio with out := t.fio.out } } ∧ t.fio.out[n].short = false ∧
      t.fio.out[n].duty = foCommand s n ∧ (foCommand s n ≠ 0 → t.fio.out[n].onAt = s.now ∧ (t.fio.out[n].st = 1 ∨ t.fio.out[n].st = 2)) ∧
      ∀ m : Fin 32, m ≠ n → t.fio.out[m] = s.fio.out[m]) ∧
  (∀ (s : State) (n : Fin 32), s.fio.out[n].st = 1 ∨ s.fio.out[n].st = 2 →
    ∃ t, exec (.foRetryReset n) s = .next t ∧ t = { s with fio := { s.fio with out := t.fio.out } } ∧
      t.fio.out[n] = { s.fio.out[n] with retryLeft := s.img.fo[n].retry } ∧ ∀ m : Fin 32, m ≠ n → t.fio.out[m] = s.fio.out[m]) ∧
  (∀ (s : State) (w : World) (mask : Word), CoreMayWrite s w 10 →
    ∃ t, exec (.foClear w mask) s = .next t ∧ t = { s with fio := { s.fio with out := t.fio.out }, fab := fabAnswered s (coreInit w) .done } ∧
      ∀ n : Fin 32, (mask.getLsbD n = true ∧ s.fio.out[n].st = 4 ∧ (w = .S ∨ foOwnedS s n = false) →
          t.fio.out[n].st ≠ 4 ∧ t.fio.out[n].short = false) ∧
        (mask.getLsbD n = false ∨ s.fio.out[n].st ≠ 4 ∨ (w = .NS ∧ foOwnedS s n = true) → t.fio.out[n] = s.fio.out[n])) ∧
  (∀ (s : State) (n : Fin 32), s.img.fo[n].mode ≠ 0 → s.fio.vfoLow = false → s.sys.mode ≠ .watch →
    s.fio.out[n].shortNow s.img.fo[n] s.now = false → openMethod s.img.fo[n] s.fio.out[n] ≠ 0 → s.fio.out[n].openCnt = 2 → s.fio.out[n].opened = false →
    ∃ t, exec (.openLoadObserve n true) s = .next t ∧ t = { s with fio := t.fio, chn := { s.chn with slots := t.chn.slots } } ∧
      t.fio.out[n].opened = true ∧ t.fio.out[n].untested = false ∧ t.fio.evCode = 0x0701 ∧ t.fio.evIndex = n.val) ∧
  (∀ (s : State) (n : Fin 32) (bad : Bool), s.fio.vfoLow = true ∨ s.fio.out[n].shortNow s.img.fo[n] s.now = true →
    exec (.openLoadObserve n bad) s = .next s) ∧
  (∀ (s : State) (v : BitVec 16), exec (.vfoLow v) s = .next { s with fio := { s.fio with vfo := v.toNat, vfoLow := true } } ∧
    exec (.vfoReturn v) s = .next { s with fio := { s.fio with vfo := v.toNat, vfoLow := false } })

/-- R432-R435: for a fan in use that is commanded at least CHECK_DUTY and has no supply output, a tach pulse of 50 microseconds ends spin-up, a spin time-
out kicks it at full duty until the third kick is spent, the end of a kick returns to the command, and a speed below MIN_RPM for 2 s, or a spent kick,
holds it at full duty as FAN_STALL until it recovers. -/
def Obligations.FanSupervision : Prop :=
  (∀ (s : State) (n : Fin 8) (width : Nat) (p : Option Nat), FanOn s n → 50 ≤ width → s.fan[n].st = .spinUp ∨ s.fan[n].st = .kick →
    ∃ t, exec (.tachPulse n width p) s = .next t ∧ t = { s with fan := t.fan } ∧ t.fan[n].st = .running ∧ t.fan[n].duty = fanCommand s n ∧
      (p = none → t.fan[n].rpm = s.fan[n].rpm) ∧ ∀ m : Fin 8, m ≠ n → t.fan[m] = s.fan[m]) ∧
  (∀ (s : State) (n : Fin 8) (width : Nat) (p : Option Nat), width < 50 → exec (.tachPulse n width p) s = .next s) ∧
  (∀ (s : State) (n : Fin 8), FanOn s n → s.fan[n].st = .spinUp → s.fan[n].kicks < 3 →
    ∃ t, exec (.fanSpinTimeout n) s = .next t ∧ t = { s with fan := t.fan } ∧ t.fan[n].st = .kick ∧ t.fan[n].kicks = s.fan[n].kicks + 1 ∧
      t.fan[n].duty = 1024 ∧ ∀ m : Fin 8, m ≠ n → t.fan[m] = s.fan[m]) ∧
  (∀ (s : State) (n : Fin 8), FanOn s n → s.fan[n].st = .spinUp → 3 ≤ s.fan[n].kicks →
    ∃ t, exec (.fanSpinTimeout n) s = .next t ∧ t.fan[n].st = .stall ∧ t.fan[n].duty = 1024 ∧ t.fio.evCode = 0x0703 ∧ t.fio.evIndex = n.val ∧
      t.mem = s.mem ∧ t.le = s.le ∧ t.dk = s.dk ∧ t.img = s.img) ∧
  (∀ (s : State) (n : Fin 8), FanOn s n → s.fan[n].st = .kick →
    ∃ t, exec (.fanKickEnd n) s = .next t ∧ t = { s with fan := t.fan } ∧ t.fan[n].st = .spinUp ∧ t.fan[n].duty = fanCommand s n ∧
      t.fan[n].kicks = s.fan[n].kicks) ∧
  (∀ (s : State) (n : Fin 8) (rpm : BitVec 16), FanOn s n → s.fan[n].st = .running → rpm.toNat < s.img.fan[n].minRpm →
    ∃ t, exec (.fanTachTimeout n rpm) s = .next t ∧ t.fan[n].st = .stall ∧ t.fan[n].duty = 1024 ∧ t.fan[n].rpm = rpm.toNat ∧
      t.fio.evCode = 0x0703 ∧ t.mem = s.mem ∧ t.le = s.le ∧ t.dk = s.dk ∧ t.img = s.img) ∧
  (∀ (s : State) (n : Fin 8) (rpm : BitVec 16), FanOn s n → s.img.spm = none → s.fan[n].st = .stall ∨ s.fan[n].st = .tachLost →
    s.img.fan[n].minRpm ≤ rpm.toNat →
    ∃ t, exec (.fanRecover n rpm) s = .next t ∧ t = { s with fan := t.fan, spm := t.spm } ∧ t.fan[n].st = .running ∧ t.fan[n].rpm = rpm.toNat ∧
      t.fan[n].duty = fanCommand s n)

/-- R436-R441, Table 15.8: a scan of an unaveraged input delivers its code and the third low current reading in a row is a wire break; an edge counts by
one in its direction, edges too close set OVERSPEED, and a double edge sets ILLEGAL; Z latches the count; a good absolute frame gives the position and
a bad one keeps it; an input edge sets its flag where enabled; the serial ports queue, send and receive as their registers say. -/
def Obligations.InputsAndSerial : Prop :=
  (∀ (s : State) (codes : Vector (BitVec 16) 16), coreRuns s = true → s.img.spm = none →
    ∃ t, exec (.aiScan codes) s = .next t ∧ t = { s with ain := t.ain, fio := t.fio, spm := t.spm, chn := { s.chn with slots := t.chn.slots } } ∧
      ∀ n : Fin 16, (s.img.ai[n].mode = 0 → t.ain[n] = {}) ∧
        (s.img.ai[n].mode ≠ 0 → s.img.ai[n].avg = 0 → s.ain[n].acc = 0 → s.ain[n].n = 0 →
          t.ain[n].val = codes[n].toNat ∧ t.ain[n].ver = s.ain[n].ver + 1 ∧
          (s.img.ai[n].mode = 1 → codes[n].toNat < 9000 → 2 ≤ s.ain[n].lowCnt → t.ain[n].wb = true))) ∧
  (∀ (s : State) (p : Fin 4) (back : Bool), s.img.enc[p].inc = true → coreRuns s = true →
    (∃ t, exec (.encCountEdge p back false false) s = .next t ∧ t = { s with enc := t.enc } ∧
      t.enc[p].count = (if back != s.img.enc[p].dir then s.enc[p].count - 1 else s.enc[p].count + 1) ∧
      t.enc[p].overspeed = s.enc[p].overspeed ∧ t.enc[p].illegal = s.enc[p].illegal ∧ ∀ q : Fin 4, q ≠ p → t.enc[q] = s.enc[q]) ∧
    (∃ t, exec (.encCountEdge p back false true) s = .next t ∧ t = { s with enc := t.enc, freeCtr := t.freeCtr } ∧
      t.enc[p].overspeed = true ∧ t.enc[p].illegal = s.enc[p].illegal ∧ t.enc[p].zlat = s.enc[p].zlat ∧ ∀ q : Fin 4, q ≠ p → t.enc[q] = s.enc[q]) ∧
    ((∀ (n : Fin 4) (c : AxisCfg), axisCfg s n = some c → c.spd ≠ { port := p } ∧ c.pos1 ≠ some { port := p } ∧ c.pos2 ≠ some { port := p }) →
    ∃ t, exec (.encCountEdge p back true false) s = .next t ∧ t = { s with enc := t.enc } ∧ t.enc[p].count = s.enc[p].count ∧
      t.enc[p].illegal = true ∧ t.enc[p].overspeed = s.enc[p].overspeed)) ∧
  (∀ (s : State) (p : Fin 4), s.img.enc[p].inc = true → coreRuns s = true →
    ∃ t, exec (.encZEdge p) s = .next t ∧ t = { s with enc := t.enc } ∧
      t.enc[p] = { s.enc[p] with zseen := true, zlat := if s.img.enc[p].zlatch then s.enc[p].count else s.enc[p].zlat }) ∧
  (∀ (s : State) (p : Fin 4) (d : Word), s.img.enc[p].abs = true → coreRuns s = true → s.img.enc[p].errBit = false → s.save.verify = [] →
    (∃ t, exec (.absFrame p true d false true) s = .next t ∧ t = { s with enc := t.enc, saf := { s.saf with encErr := s.saf.encErr.set p 0 } } ∧
      t.enc[p].pos = BitVec.ofNat 32 (absPos s.img.enc[p] d) ∧ t.enc[p].frame = false ∧ t.enc[p].err = false ∧
      t.enc[p].ver = s.enc[p].ver + 1) ∧
    ∃ t, exec (.absFrame p true d false false) s = .next t ∧ t = { s with enc := t.enc, saf := { s.saf with encErr := s.saf.encErr.set p 0 } } ∧ t.enc[p].pos = s.enc[p].pos ∧ t.enc[p].frame = true ∧
      t.enc[p].ver = s.enc[p].ver) ∧
  (∀ (s : State) (n : Fin 24), s.gpio.dir.getLsbD n = false →
    ∃ t, exec (.gpioEdge n true) s = .next t ∧ t = { s with gpio := t.gpio } ∧ t.gpio.inp = s.gpio.inp ||| (1#24 <<< n.val) ∧
      (t.gpio.flag.getLsbD n = (s.gpio.flag.getLsbD n || (!s.gpio.inp.getLsbD n && s.gpio.rise.getLsbD n))) ∧
      ∀ m : Fin 24, m ≠ n → t.gpio.flag.getLsbD m = s.gpio.flag.getLsbD m) ∧
  (∀ (s : State) (n : Fin 24) (lvl : Bool), s.gpio.dir.getLsbD n = true → exec (.gpioEdge n lvl) s = .next s) ∧
  (∀ (s : State) (w : World) (v : Word) (b : Byte), CoreMayWrite s w 25 →
    (s.ser.spiBusy = false → exec (.spiDataWrite w v) s = .next { s with
      ser := { s.ser with spiTx := v, spiBusy := true }, fab := fabAnswered s (coreInit w) .done }) ∧
    (s.ser.utx.length < 16 → exec (.uartDataWrite w b) s = .next { s with
      ser := { s.ser with utx := s.ser.utx ++ [b] }, fab := fabAnswered s (coreInit w) .done }) ∧
    (s.ser.i2cBusy = false → exec (.i2cGo w v) s = .next { s with
      ser := { s.ser with i2cCtl := v &&& 0x1FF#32, i2cBusy := true }, fab := fabAnswered s (coreInit w) .done })) ∧
  (∀ (s : State) (d : Word) (b : Byte) (ack : Bool),
    (s.ser.spiBusy = true → getf s.ser.spiCtl 2 2 = 1 →
      exec (.spiFrameComplete d) s = .next { s with ser := { s.ser with spiBusy := false, spiData := d &&& 0xFFFF#32 } }) ∧
    exec .uartByteSent s = .next { s with ser := { s.ser with utx := s.ser.utx.drop 1 } } ∧
    (s.ser.urx.length < 16 → exec (.uartByteReceived b) s = .next { s with ser := { s.ser with urx := s.ser.urx ++ [b] } }) ∧
    (s.ser.i2cBusy = true →
      exec (.i2cComplete ack b) s = .next { s with ser := { s.ser with
        i2cBusy := false, nack := !ack, i2cData := if ack && getb s.ser.i2cCtl 8 then b else s.ser.i2cData } }))

/-- R452, R454, R462, Table 17.5: a frame on a port that is not up does nothing; an ARP request for the port's own address is learnt from and answered;
ICMP echo is answered, by the gateway where the sender lies beyond it (the model's choice, log entry 111); UDP to port 47190 that has the layout of a
request is handed on by its OP, and any other is dropped (R456); TCP to a port other than 502 is answered with RST; anything else, fragments and broadcasts
among it, only counts in DROP. A link needs its reference, whose loss is counted, and is learnt from the PHY at PHYAD; a transfer that has
ended completes its descriptor in memory with BYTES, STATUS and OWN, the clearing of OWN being the model's reading (log entry 106), and one that did not end
DONE drops its frame. -/
def Obligations.EthernetStack : Prop :=
  (∀ (s : State) (p : Fin 2) (f : List Byte), ethUp s p = false → exec (.ethFrameReceive p f) s = .next s) ∧
  (∀ (s : State) (p : Fin 2) (f : List Byte) (own : Nat), portIp s p = some own → ethUp s p = true → etherType f = 0x0806 →
    slice f 0 6 = List.replicate 6 0xFF → 42 ≤ f.length → slice f 14 6 = [0, 1, 8, 0, 6, 4] → beNat (slice f 38 4) = own → beNat (slice f 20 2) = 1 →
    ∃ t, exec (.ethFrameReceive p f) s = .next t ∧ PortBecomes s t p { s.net.eth[p] with
      arp := ((beNat (slice f 28 4), beNat (slice f 22 6)) :: s.net.eth[p].arp.filter fun x => decide (x.1 ≠ beNat (slice f 28 4))).take 16
      tx := slice f 22 6 ++ portMac s p ++ [0x08, 0x06, 0, 1, 8, 0, 6, 4, 0, 2] ++ portMac s p ++ beBytes 4 own ++ slice f 22 6 ++ slice f 28 4 }) ∧
  (∀ (s : State) (p : Fin 2) (f m : List Byte) (own : Nat), IpTaken s p own f m 1 → 8 ≤ m.length → m.length ≤ 1480 → slice m 0 2 = [8, 0] →
    inetSum m = 0 →
    ∃ t, exec (.ethFrameReceive p f) s = .next t ∧ t = { s with net := { s.net with eth := t.net.eth }, freeCtr := s.freeCtr + 1 } ∧
      t.net.eth[p].drop = s.net.eth[p].drop ∧ t.net.eth[p].tx.take 6 = replyMac s p f (beNat (slice f 26 4)) ∧ slice t.net.eth[p].tx 34 2 = [0, 0] ∧
      t.net.eth[p].tx.drop 38 = m.drop 4) ∧
  (∀ (s : State) (p : Fin 2) (f m : List Byte) (own : Nat), IpTaken s p own f m 17 → beNat (slice m 2 2) = 47190 → beNat (slice m 6 2) = 0 →
    8 ≤ beNat (slice m 4 2) → beNat (slice m 4 2) ≤ m.length →
    let d := (m.take (beNat (slice m 4 2))).drop 8
    (hspForm d = false → ∃ t, exec (.ethFrameReceive p f) s = .next t ∧
      PortBecomes s t p { s.net.eth[p] with drop := incSat 4294967295 s.net.eth[p].drop }) ∧
    (hspForm d = true → hspOp d ∈ hspOps → ∃ t, exec (.ethFrameReceive p f) s = .next t ∧ PortBecomes s t p { s.net.eth[p] with rx := d })) ∧
  (∀ (s : State) (p : Fin 2) (f m : List Byte) (own : Nat), IpTaken s p own f m 17 → beNat (slice m 2 2) ≠ 47190 →
    ∃ t, exec (.ethFrameReceive p f) s = .next t ∧ PortBecomes s t p { s.net.eth[p] with drop := incSat 4294967295 s.net.eth[p].drop }) ∧
  (∀ (s : State) (p : Fin 2) (f m : List Byte) (own : Nat), IpTaken s p own f m 6 → 20 ≤ m.length → (m.getD 12 0).toNat / 16 * 4 ≤ m.length →
    inetSum (pseudo (beNat (slice f 26 4)) own 6 m.length ++ m) = 0 → beNat (slice m 2 2) ≠ 502 →
    ∃ t, exec (.ethFrameReceive p f) s = .next t ∧ t = { s with net := { s.net with eth := t.net.eth }, freeCtr := s.freeCtr + 1 } ∧
      t.net.eth[p].drop = s.net.eth[p].drop ∧ t.net.eth[p].tx.drop 34 = rstFor f m) ∧
  (∀ (s : State) (p : Fin 2) (f : List Byte) (own : Nat), portIp s p = some own → ethUp s p = true →
    (etherType f ≠ 0x0806 ∧ etherType f ≠ 0x0800) ∨ (etherType f = 0x0800 ∧ toMe s p f = false) ∨
      (etherType f = 0x0800 ∧ beNat (slice (slice f 14 20) 6 2) % 16384 ≠ 0) →
    ∃ t, exec (.ethFrameReceive p f) s = .next t ∧ PortBecomes s t p { s.net.eth[p] with drop := incSat 4294967295 s.net.eth[p].drop }) ∧
  (∀ (s : State) (p : Fin 2) (up ref : Bool), s.fab.dom[3] = .on →
    ∃ t, exec (.ethLinkChange p up ref) s = .next t ∧ t = { s with clk := t.clk, net := { s.net with eth := t.net.eth } } ∧
      t.net.eth[p].link = (up && (ref || s.clk.refo.getLsbD p) && (portIp s p).isSome) ∧ t.net.eth[p].mdio = phyStatus s p ∧
      t.clk.ethRef.getLsbD p = ref ∧
      t.clk.nEth[p] = if s.clk.ethRef.getLsbD p && !ref && !s.clk.refo.getLsbD p then incSat 255 s.clk.nEth[p] else s.clk.nEth[p]) ∧
  (∀ (s : State) (p : Fin 2) (d : DmaEnd), s.fab.dom[3] ≠ .off → s.net.eth[p].dma = some d → MemWf s →
    ∃ t, exec (.dmaDescriptorComplete p) s = .next t ∧ t = { s with mem := t.mem, net := { s.net with eth := t.net.eth } } ∧
      t.net.eth[p] = { s.net.eth[p] with
        dma := none, dmaStatus := d.status, dmaBytes := d.bytes % 65536
        tx := if d.status ≠ 0 ∧ d.send = true then [] else s.net.eth[p].tx
        rx := if d.status ≠ 0 ∧ d.send = false then [] else s.net.eth[p].rx
        drop := if d.status = 0 then s.net.eth[p].drop else incSat 4294967295 s.net.eth[p].drop } ∧
      (∀ q : Fin 2, q ≠ p → t.net.eth[q] = s.net.eth[q]) ∧
      memBytes t.mem (d.desc.toNat + 6) 3 = leBytes 2 d.bytes ++ [BitVec.ofNat 8 d.status] ∧
      memByte t.mem (d.desc.toNat + 9) = memByte s.mem (d.desc.toNat + 9) &&& 0xFE#8 ∧
      ∀ a, a < d.desc.toNat + 6 ∨ d.desc.toNat + 10 ≤ a → memByte t.mem a = memByte s.mem a) ∧
  (∀ (s : State) (p : Fin 2), s.net.eth[p].dma = none → exec (.dmaDescriptorComplete p) s = .next s)

/-- R456-R459, R461, R470, R473: HELLO under a valid pre-shared key opens a session with a fresh non-zero SID, a nonce and the derived key; with no key it
is counted, with four sessions open answered BUSY. A request that fails HMAC, SID or KEY, or its counter, is only counted; one that finds its session
busy is answered BUSY and not executed; an S command on an NS session, and a MAINT command outside LOCKOUT.MAINT or with MAINT_EN_N high, is refused.
A session closes on CLOSE and after its idle time. -/
def Obligations.HspSessions : Prop :=
  (∀ (s : State) (p : Fin 2) (d psk : List Byte), hspOp d = 1 → ethUp s p = true → hspForm d = true →
    s.boot.psk[if hspNs d then (1 : Fin 2) else 0] = some psk → hspAuth psk d = true → hspSid d = 0 → hspCtr d = 0 → hspLen d = 16 →
    s.net.sess.length < 4 → s.net.xfers.length < 4294967000 →
    ∃ (t : State) (sid : Nat) (nd : List Byte), exec (.hello p d) s = .next t ∧ t = { s with net := t.net, freeCtr := t.freeCtr } ∧
      sid ≠ 0 ∧ sid < 4294967296 ∧ (∀ y ∈ s.net.sess, y.sid ≠ sid) ∧ nd.length = 16 ∧ t.net.eth = s.net.eth ∧
      t.net.sess = s.net.sess ++ [{ sid := sid, ns := hspNs d, port := p, rctr := 1, key := hmac256 psk (ascii "TWVH" ++ hspPay d ++ nd ++ leBytes 4 sid) }] ∧
      t.net.hspTx = some (p, hspDatagram (hmac256 psk (ascii "TWVH" ++ hspPay d ++ nd ++ leBytes 4 sid)) (hspNs d) sid 1 1 0 (hspTag d) nd)) ∧
  (∀ (s : State) (p : Fin 2) (d : List Byte), hspOp d = 1 → ethUp s p = true → hspForm d = true →
    (s.boot.psk[if hspNs d then (1 : Fin 2) else 0] = none ∨
      ∃ psk, s.boot.psk[if hspNs d then (1 : Fin 2) else 0] = some psk ∧ hspAuth psk d = false) →
    ∃ t, exec (.hello p d) s = .next t ∧ PortBecomes s t p { s.net.eth[p] with badAuth := incSat 65535 s.net.eth[p].badAuth }) ∧
  (∀ (s : State) (p : Fin 2) (d psk : List Byte), hspOp d = 1 → ethUp s p = true → hspForm d = true →
    s.boot.psk[if hspNs d then (1 : Fin 2) else 0] = some psk → hspAuth psk d = true → hspSid d = 0 → hspCtr d = 0 → hspLen d = 16 →
    4 ≤ s.net.sess.length →
    ∃ (t : State) (n : Nat), exec (.hello p d) s = .next t ∧
      t = { s with net := { s.net with hspTx := t.net.hspTx }, freeCtr := s.freeCtr + 1 } ∧
      t.net.hspTx = some (p, hspDatagram psk (hspNs d) 0 n 1 0x30 (hspTag d) [])) ∧
  (∀ (s : State) (p : Fin 2) (d : List Byte) (c : Instr), hspRow p d = some c → ethUp s p = true → hspForm d = true →
    (sessOf s (hspSid d) = none ∨ ∃ x, sessOf s (hspSid d) = some x ∧ (x.ns ≠ hspNs d ∨ hspAuth x.key d = false)) →
    ∃ t, exec c s = .next t ∧ PortBecomes s t p { s.net.eth[p] with badAuth := incSat 65535 s.net.eth[p].badAuth }) ∧
  (∀ (s : State) (p : Fin 2) (d : List Byte) (c : Instr) (x : Session), hspRow p d = some c → ethUp s p = true → hspForm d = true →
    sessOf s (hspSid d) = some x → x.ns = hspNs d → hspAuth x.key d = true → hspCtr d ≤ x.ctr →
    ∃ t, exec c s = .next t ∧ PortBecomes s t p { s.net.eth[p] with badReplay := incSat 65535 s.net.eth[p].badReplay }) ∧
  (∀ (s : State) (p : Fin 2) (d : List Byte) (c : Instr), hspRow p d = some c → ethUp s p = true → hspForm d = false →
    ∃ t, exec c s = .next t ∧ PortBecomes s t p { s.net.eth[p] with drop := incSat 4294967295 s.net.eth[p].drop }) ∧
  (∀ (s : State) (p : Fin 2) (d : List Byte) (c : Instr) (x : Session), hspRow p d = some c → HspTaken s p d x → x.wait.isSome = true →
    ∃ t, exec c s = .next t ∧ t = { s with net := t.net } ∧ t.net.eth = s.net.eth ∧ HspAnswered t p d x 0x30 []) ∧
  (∀ (s : State) (p : Fin 2) (d : List Byte) (c : Instr) (x : Session), hspRow p d = some c → HspTaken s p d x → x.wait = none → 0x41 ≤ hspOp d →
    x.ns = true → ∃ t, exec c s = .next t ∧ t = { s with net := t.net } ∧ t.net.eth = s.net.eth ∧ HspAnswered t p d x 0x12 []) ∧
  (∀ (s : State) (p : Fin 2) (d : List Byte) (x : Session), HspTaken s p d x → hspOp d = 0x40 → x.ns = true → (∀ y ∈ s.net.sess, y.wait = none) →
    ∃ t, exec (.maint p d) s = .next t ∧ t.net.eth = s.net.eth ∧ HspAnswered t p d x 0x12 (wordBytes (sysModeResWord t)) ∧
      t = { s with net := t.net, sys := if s.sys.resPend = true then { s.sys with resCollide := true } else { s.sys with
        resAction := 3, resRcp := 0, resCollide := false, resPend := false, resResult := 0x12, resReason := 0xA, resIndex := 0xFF } }) ∧
  (∀ (s : State) (p : Fin 2) (d : List Byte) (c : Instr) (x : Session), hspRow p d = some c → HspTaken s p d x → x.wait = none → x.ns = false →
    (0x41 ≤ hspOp d ∧ s.sys.mode ≠ .lockoutMaint) ∨ (0x41 ≤ hspOp d ∧ hspOp d ≤ 0x48 ∧ maintPin s = false) →
    ∃ t, exec c s = .next t ∧ t = { s with net := t.net } ∧ t.net.eth = s.net.eth ∧ HspAnswered t p d x 0x14 []) ∧
  (∀ (s : State) (p : Fin 2) (d : List Byte) (x : Session), HspTaken s p d x → hspOp d = 0x02 → x.wait = none →
    ∃ t, exec (.close p d) s = .next t ∧ t = { s with net := t.net } ∧ sessOf t x.sid = none ∧
      t.net.sess = s.net.sess.filter (fun y => decide (y.sid ≠ x.sid)) ∧
      t.net.hspTx = some (p, hspDatagram x.key x.ns x.sid (x.rctr + 1) 2 0 (hspTag d) [])) ∧
  (∀ (s : State) (sid : Nat), exec (.hspSessionTimeout sid) s =
    .next { s with net := { s.net with sess := s.net.sess.filter fun y => decide (y.sid ≠ sid) } })

/-- R241, R46, R51, R459, R460, R576, R577, R580, Tables 16.3 and 16.4: the commands of either world on a session that runs none. READ and WRITE are one
fabric access per word with the session's world, and FAB shows the response; CHN runs on port 1 with that world; RECIPE, WATCH and MAINT are mode
requests that the session waits for; STATUS, CAPREAD and TAGREAD answer at once; TAGWRITE uses port 0 and obeys the locks. -/
def Obligations.HspCommands : Prop :=
  (∀ (s u : State) (p : Fin 2) (d : List Byte) (x : Session) (b o : Nat) (y : Txn) (v : Word), HspTaken s p d x → hspOp d = 0x10 → x.wait = none →
    (hspPay d).length = 6 → leAt (hspPay d) 4 2 = 1 → target (leAt (hspPay d) 0 4) = .periph b o → tagFree s 4 = true →
    pdFault s 4 (leAt (hspPay d) 0 4) = false → y = hspTxn s x .read (leAt (hspPay d) 0 4) [] → u = hspHolding s p d x y →
    regDecodeFault u .read b o 4 = false → regWorldCheck u 4 (sessWorld x) .read b o = .ok → v = (regRead u 4 (sessWorld x) b o).getD 0 →
    exec (.read p d) s = .next (hspReply x.sid 0x10 0 (hspTag d) ([0, 0, 0, 0] ++ wordBytes v)
      (txnDone y (busAnswer y .done [v] (regReadEffect b o u))))) ∧
  (∀ (s u : State) (p : Fin 2) (d : List Byte) (x : Session) (b o : Nat) (y : Txn), HspTaken s p d x → hspOp d = 0x10 → x.wait = none →
    (hspPay d).length = 6 → leAt (hspPay d) 4 2 = 1 → target (leAt (hspPay d) 0 4) = .periph b o → tagFree s 4 = true →
    pdFault s 4 (leAt (hspPay d) 0 4) = false → y = hspTxn s x .read (leAt (hspPay d) 0 4) [] → u = hspHolding s p d x y →
    regDecodeFault u .read b o 4 = false → regWorldCheck u 4 (sessWorld x) .read b o = .no .faultWorld 0 →
    exec (.read p d) s = .next (hspReply x.sid 0x10 0 (hspTag d) [1, 0, 0, 0]
      (txnDone y (busAnswer y .faultWorld [] (violation 4 .read 0 (leAt (hspPay d) 0 4) u))))) ∧
  (∀ (s u : State) (p : Fin 2) (d : List Byte) (x : Session) (b o : Nat) (y : Txn), HspTaken s p d x → hspOp d = 0x11 → x.wait = none →
    (hspPay d).length = 12 → leAt (hspPay d) 4 2 = 1 → target (leAt (hspPay d) 0 4) = .periph b o → tagFree s 4 = true →
    pdFault s 4 (leAt (hspPay d) 0 4) = false → y = hspTxn s x .write (leAt (hspPay d) 0 4) [BitVec.ofNat 32 (leAt (hspPay d) 8 4)] →
    u = hspHolding s p d x y → regDecodeFault u .write b o 4 = false → regWorldCheck u 4 (sessWorld x) .write b o = .ok →
    exec (.write p d) s = .next (hspReply x.sid 0x11 0 (hspTag d) [0, 0, 0, 0, 1, 0] (txnDone y (busAnswer y .done []
      (regWrite (.core (sessWorld x)) (sessWorld x) b o (BitVec.ofNat 32 (leAt (hspPay d) 8 4)) u))))) ∧
  (∀ (s u : State) (p : Fin 2) (d : List Byte) (x : Session), HspTaken s p d x → hspOp d = 0x20 → x.wait = none → (hspPay d).length = 32 →
    (∀ q : Fin 4, s.chn.ports[q].pend = false) →
    u = portServe 1 (portGo 1 ((hspTook s p d x).modPort 1 fun q => { q with cmd := chnWords x.ns (hspPay d) })) →
    exec (.chn p d) s = .next (hspReply x.sid 0x20 (getf u.chn.ports[1].rsp[0] 0 8) (hspTag d)
      (u.chn.ports[1].rsp.toList.flatMap wordBytes) u)) ∧
  (∀ (s u : State) (p : Fin 2) (d : List Byte) (x : Session) (r : Recipe), HspTaken s p d x → hspOp d = 0x21 → x.wait = none →
    (hspPay d).length = 1 → leAt (hspPay d) 0 1 ≤ 15 → s.sys.resPend = false → x.ns = false ∨ blockWritable s .NS 0 = true →
    u = modeTake 1 (leAt (hspPay d) 0 1) (hspHold x d (hspTook s p d x)) → recipeAt u (leAt (hspPay d) 0 1) = some r →
    recipeRefusal u (sessWorld x) (leAt (hspPay d) 0 1) true = none → goingSlots u r = [] →
    ∃ t, exec (.recipe p d) s = .next t ∧ t = { s with sys := t.sys, net := t.net } ∧ HspWaits s t p d x ∧ t.sys.resPend = true ∧
      t.sys.switching = true ∧ t.sys.change = some { rcp := leAt (hspPay d) 0 1 } ∧ t.sys.mode = s.sys.mode) ∧
  (∀ (s u : State) (p : Fin 2) (d : List Byte) (x : Session), HspTaken s p d x → hspOp d = 0x22 → x.wait = none → hspPay d = [] →
    s.sys.resPend = false → x.ns = false ∨ blockWritable s .NS 0 = true → u = modeTake 2 0 (hspHold x d (hspTook s p d x)) → watchRefusal u = none →
    ∃ t, exec (.watch p d) s = .next t ∧ t = { s with sys := t.sys, net := t.net, trst := t.trst, aon := t.aon, hl := t.hl } ∧ HspWaits s t p d x ∧
      t.sys.resPend = true ∧ t.sys.resAction = 2 ∧ t.trst.sleepSent = s.trst.adopted ∧ (t.aon.step = .deck ∨ t.aon.step = .tokens)) ∧
  (∀ (s : State) (p : Fin 2) (d : List Byte) (x : Session), HspTaken s p d x → hspOp d = 0x40 → (∀ y ∈ s.net.sess, y.wait = none) → hspPay d = [] →
    x.ns = false → s.sys.resPend = false → s.sys.mode = .lockoutFault → maintLow s = true →
    ∃ t, exec (.maint p d) s = .next t ∧ t = { s with sys := t.sys, net := t.net, flash := {} } ∧ t.sys.mode = .lockoutMaint ∧ t.sys.entry = 8 ∧
      t.sys.resPend = false ∧ HspAnswered t p d x 0 (wordBytes (sysModeResWord t))) ∧
  (∀ (s : State) (p : Fin 2) (d : List Byte) (x : Session), HspTaken s p d x → hspOp d ∈ [0x21, 0x22] → x.wait = none → s.sys.resPend = true →
    x.ns = false → (hspOp d = 0x21 → (hspPay d).length = 1 ∧ leAt (hspPay d) 0 1 ≤ 15) → (hspOp d = 0x22 → hspPay d = []) →
    ∀ c, hspRow p d = some c → ∃ t, exec c s = .next t ∧ t = { s with sys := { s.sys with resCollide := true }, net := t.net } ∧
      HspAnswered t p d x 0x30 (wordBytes (sysModeResWord t))) ∧
  (∀ (s : State) (p : Fin 2) (d : List Byte) (x : Session), HspTaken s p d x → hspOp d = 0x30 → x.wait = none → hspPay d = [] →
    ∃ (t : State) (b : List Byte), exec (.status p d) s = .next t ∧ t = { s with net := t.net } ∧ HspAnswered t p d x 0 b ∧ b.length = 64 ∧
      b.take 20 = wordBytes (sysModeWord s) ++ wordBytes (bootStatWord s) ++ wordBytes s.boot.safeId ++ wordBytes s.boot.imgId0 ++ wordBytes s.boot.imgId1 ∧
      slice b 0x18 16 = memBytes s.mem 0x30000000 16 ∧ (x.ns = true → slice b 0x28 4 = [0, 0, 0, 0]) ∧
      (x.ns = true → blockWritable s .NS 14 = false → slice b 0x2C 4 = [0, 0, 0, 0]) ∧ slice b 0x34 4 = wordBytes (rtcS s) ∧
      b.drop 56 = List.replicate 8 0) ∧
  (∀ (s : State) (p : Fin 2) (d : List Byte) (x : Session) (k : Fin 4) (n w : Nat), HspTaken s p d x → hspOp d = 0x31 → x.wait = none →
    (hspPay d).length = 6 → leAt (hspPay d) 0 1 = k.val → leAt (hspPay d) 2 2 = w → leAt (hspPay d) 4 2 = n → 0 < n → n ≤ 256 →
    (hiddenUnit (sessWorld x) s.cap[k] = true → ∃ t, exec (.capread p d) s = .next t ∧ t = { s with net := t.net } ∧ HspAnswered t p d x 0x12 []) ∧
    (hiddenUnit (sessWorld x) s.cap[k] = false → s.cap[k].st = 1 ∨ s.cap[k].st = 2 →
      ∃ t, exec (.capread p d) s = .next t ∧ t = { s with net := t.net } ∧ HspAnswered t p d x 0x30 []) ∧
    (hiddenUnit (sessWorld x) s.cap[k] = false → s.cap[k].st = 3 → s.cap[k].buf ≤ w → w + n ≤ s.cap[k].buf + s.cap[k].len →
      w + n ≤ 65536 → pdFault s 4 0x20100000 = false → (∀ i, i < n → memWorldCheck s (sessWorld x) .read (0x20100000 + 4 * (w + i)) = .ok) →
      tagFree s 4 = true → (∀ a ∈ s.fab.hard, a < 0x20100000 + 4 * w ∨ 0x20100000 + 4 * (w + n) ≤ a) →
      ∃ t, exec (.capread p d) s = .next t ∧ t = { s with net := t.net, fab := t.fab } ∧
        HspAnswered t p d x 0 (memBytes s.mem (0x20100000 + 4 * w) (4 * n)))) ∧
  (∀ (s : State) (p : Fin 2) (d : List Byte) (x : Session), HspTaken s p d x → hspOp d = 0x32 → x.wait = none → (hspPay d).length = 4 →
    0 < leAt (hspPay d) 2 2 → leAt (hspPay d) 0 2 + leAt (hspPay d) 2 2 ≤ 1024 →
    ∃ t, exec (.tagread p d) s = .next t ∧ t = { s with net := t.net } ∧
      HspAnswered t p d x 0 (memBytes s.mem (0x30002000 + leAt (hspPay d) 0 2) (leAt (hspPay d) 2 2))) ∧
  (∀ (s : State) (p : Fin 2) (d : List Byte) (x : Session) (k : Nat), HspTaken s p d x → hspOp d = 0x33 → x.wait = none → (hspPay d).length = 36 →
    leAt (hspPay d) 0 2 = 32 * k → k < 32 → s.chest.port[0].pend = false → chestClosed s = false →
    (tagLocked s k = false → ∃ t, exec (.tagwrite p d) s = .next t ∧ t = { s with net := t.net, chest := t.chest } ∧ HspWaits s t p d x ∧
      t.chest.port[0].pend = true ∧ t.chest.port[0].target = k ∧ t.chest.port[0].ns = x.ns ∧ t.chest.port[0].hsp = some (x.sid, hspTag d) ∧
      t.chest.port[1] = s.chest.port[1] ∧ ∀ j : Fin 8, t.chest.port[0].buf[j] = BitVec.ofNat 32 (leAt (hspPay d) (4 + 4 * j.val) 4)) ∧
    (tagLocked s k = true → ∃ t, exec (.tagwrite p d) s = .next t ∧ t = { s with net := t.net, chest := t.chest } ∧
      t.chest.port[0].pend = false ∧ t.chest.port[0].result = 2 ∧ HspAnswered t p d x 0x22 []))

/-- R71, R78, R87, R95-R97, R125, R126, R131, R461, R577: with the session keyed S, the mode LOCKOUT.MAINT and MAINT_EN_N low, a flash command starts when
none runs and the session waits, and is refused once the pin has been high in this stay (for the rest of it: the model's choice, log entry 99); it is answered when the flash reports completion or after 4 s; KEY_WRITE writes its entry with flags and CRC, OTP_SLOT programs
an EMPTY slot or revokes one while another stays ACTIVE, SECURE_LOCK programs the lock, TAG_UNLOCK clears a segment's lock, and RESET, at either level
of the pin, is answered and then resets in full. -/
def Obligations.HspMaintenance : Prop :=
  (∀ (s : State) (p : Fin 2) (d : List Byte) (x : Session) (c : Instr), HspTaken s p d x → x.wait = none → MaintOpen s x → s.flash.run = none →
    s.flash.barred = false →
    (c = .flashSel p d ∧ hspOp d = 0x41 ∧ (hspPay d).length = 1 ∧ leAt (hspPay d) 0 1 ≤ 1) ∨
      (c = .flashErase p d ∧ hspOp d = 0x42 ∧ (hspPay d).length = 5 ∧ leAt (hspPay d) 4 1 ≤ 1) ∨
      (c = .flashProg p d ∧ hspOp d = 0x43 ∧ (hspPay d).length = 260 ∧ leAt (hspPay d) 0 4 % 256 = 0) ∨
      (c = .flashRead p d ∧ hspOp d = 0x44 ∧ (hspPay d).length = 6 ∧ 1 ≤ leAt (hspPay d) 4 2 ∧ leAt (hspPay d) 4 2 ≤ 1024) →
    ∃ (t : State) (r : FlashCmd), exec c s = .next t ∧ t = { s with net := t.net, flash := { s.flash with unlocked := true, run := some r }
                                                                    boot := { s.boot with csDriven := true, qspiDriven := true } } ∧
      HspWaits s t p d x ∧ r.sid = x.sid ∧ r.op = hspOp d ∧ r.rtag = hspTag d ∧
      r.cs = (if hspOp d = 0x41 then decide (leAt (hspPay d) 0 1 = 1) else s.flash.cs) ∧
      (hspOp d ≠ 0x41 → r.addr = leAt (hspPay d) 0 4) ∧ (hspOp d = 0x42 → r.count = leAt (hspPay d) 4 1) ∧
      (hspOp d = 0x43 → r.data = (hspPay d).drop 4) ∧ (hspOp d = 0x44 → r.count = leAt (hspPay d) 4 2)) ∧
  (∀ (s : State) (p : Fin 2) (d : List Byte) (x : Session) (c : Instr), HspTaken s p d x → x.wait = none → MaintOpen s x →
    s.flash.barred = true → hspOp d ∈ [0x41, 0x42, 0x43, 0x44] → hspRow p d = some c →
    ∃ t, exec c s = .next t ∧ t = { s with net := t.net } ∧ HspAnswered t p d x 0x14 []) ∧
  (∀ (s : State) (p : Fin 2) (d : List Byte) (x : Session) (c : Instr), HspTaken s p d x → x.wait = none → MaintOpen s x → s.flash.run.isSome = true →
    s.flash.barred = false →
    (c = .flashSel p d ∧ hspOp d = 0x41 ∧ (hspPay d).length = 1 ∧ leAt (hspPay d) 0 1 ≤ 1) ∨
      (c = .flashRead p d ∧ hspOp d = 0x44 ∧ (hspPay d).length = 6 ∧ 1 ≤ leAt (hspPay d) 4 2 ∧ leAt (hspPay d) 4 2 ≤ 1024) →
    ∃ t, exec c s = .next t ∧ t = { s with net := t.net } ∧ HspAnswered t p d x 0x30 []) ∧
  (∀ (s : State) (i : Option FlashId) (b : List Byte) (r : FlashCmd) (x : Session), s.flash.run = some r → sessOf s r.sid = some x →
    s.net.eth[x.port].link = true →
    ∃ t, exec (.flashCommandComplete false i b) s = .next t ∧ t = { s with net := t.net, flash := { s.flash with run := none } } ∧
      t.net.hspTx = some (x.port, hspDatagram x.key x.ns r.sid (x.rctr + 1) r.op 0x22 r.rtag [])) ∧
  (∀ (s : State) (i : Option FlashId) (b : List Byte) (r : FlashCmd) (x : Session), s.flash.run = some r → sessOf s r.sid = some x →
    s.net.eth[x.port].link = true → s.flash.found = true → r.op = 0x42 ∨ r.op = 0x43 →
    ∃ t, exec (.flashCommandComplete true i b) s = .next t ∧ t = { s with net := t.net, flash := { s.flash with run := none, sent := t.flash.sent } } ∧
      t.flash.sent = [[0x06], (if r.op = 0x43 then 0x02 else if r.count = 0 then 0x20 else 0xD8) ::
        (beBytes (if s.flash.addr4 then 4 else 3) r.addr ++ if r.op = 0x43 then r.data else []), [0x05]] ∧
      t.net.hspTx = some (x.port, hspDatagram x.key x.ns r.sid (x.rctr + 1) r.op 0 r.rtag [])) ∧
  (∀ (s : State) (i : Option FlashId) (b : List Byte) (r : FlashCmd) (x : Session), s.flash.run = some r → sessOf s r.sid = some x →
    s.net.eth[x.port].link = true → s.flash.found = true → r.op = 0x44 → r.count ≤ b.length →
    ∃ t, exec (.flashCommandComplete true i b) s = .next t ∧ t = { s with net := t.net, flash := { s.flash with run := none, sent := t.flash.sent } } ∧
      t.flash.sent = [(0x6B : Byte) :: (beBytes (if s.flash.addr4 then 4 else 3) r.addr ++ [0])] ∧
      t.net.hspTx = some (x.port, hspDatagram x.key x.ns r.sid (x.rctr + 1) 0x44 0 r.rtag (b.take r.count))) ∧
  (∀ (s : State) (f : FlashId) (b : List Byte) (r : FlashCmd) (x : Session), s.flash.run = some r → sessOf s r.sid = some x → r.op = 0x41 →
    s.net.eth[x.port].link = true → discoveryFail { f with qe := true } = none →
    ∃ t, exec (.flashCommandComplete true (some f) b) s = .next t ∧ t = { s with net := t.net, flash := t.flash } ∧ t.flash.found = true ∧
      t.flash.cs = r.cs ∧ t.flash.addr4 = flash4Byte f ∧ t.flash.density = flashDensity f.dw2 ∧ t.flash.run = none ∧
      t.net.hspTx = some (x.port, hspDatagram x.key x.ns r.sid (x.rctr + 1) 0x41 0 r.rtag
        (beBytes 3 f.id.toNat ++ [if flash4Byte f then 1 else 0] ++ leBytes 4 (flashDensity f.dw2)))) ∧
  (∀ (s : State) (p : Fin 2) (d : List Byte) (x : Session), HspTaken s p d x → x.wait = none → MaintOpen s x → hspOp d = 0x45 →
    (hspPay d).length = 33 → leAt (hspPay d) 0 1 ≤ 5 → MemWf s →
    ∃ t, exec (.keyWrite p d) s = .next t ∧ t = { s with mem := t.mem, net := t.net, fab := { s.fab with soft := t.fab.soft, hard := t.fab.hard } } ∧ HspAnswered t p d x 0 [] ∧
      memBytes t.mem (0x30001000 + 64 * leAt (hspPay d) 0 1) 32 = (hspPay d).drop 1 ∧
      memWord t.mem (0x30001020 + 64 * leAt (hspPay d) 0 1) = 1 ∧
      memWord t.mem (0x30001024 + 64 * leAt (hspPay d) 0 1) = crc32c ((hspPay d).drop 1 ++ [1, 0, 0, 0]) ∧
      ∀ a, a < 0x30001000 + 64 * leAt (hspPay d) 0 1 ∨ 0x30001040 + 64 * leAt (hspPay d) 0 1 ≤ a → memByte t.mem a = memByte s.mem a) ∧
  (∀ (s : State) (p : Fin 2) (d k : List Byte) (x : Session) (n : Fin 4), HspTaken s p d x → x.wait = none → MaintOpen s x → hspOp d = 0x46 →
    (hspPay d).length = 2 → leAt (hspPay d) 0 1 = n.val → leAt (hspPay d) 1 1 = 0 → keyEntry s n.val = some k →
    (s.otp.newHash[n] = 0 → s.otp.newRevoked.getLsbD n = false →
      ∃ t, exec (.otpSlot p d) s = .next t ∧ t = { s with net := t.net, otp := { s.otp with newHash := s.otp.newHash.set n (beNat (sha256 k)) } } ∧
        HspAnswered t p d x 0 []) ∧
    (s.otp.newHash[n] ≠ 0 ∨ s.otp.newRevoked.getLsbD n = true →
      ∃ t, exec (.otpSlot p d) s = .next t ∧ t = { s with net := t.net } ∧ HspAnswered t p d x 0x22 [])) ∧
  (∀ (s : State) (p : Fin 2) (d : List Byte) (x : Session) (n : Fin 4), HspTaken s p d x → x.wait = none → MaintOpen s x → hspOp d = 0x46 →
    (hspPay d).length = 2 → leAt (hspPay d) 0 1 = n.val → leAt (hspPay d) 1 1 = 1 →
    ((∃ k : Fin 4, k ≠ n ∧ s.otp.newHash[k] ≠ 0 ∧ s.otp.newRevoked.getLsbD k = false) →
      ∃ t, exec (.otpSlot p d) s = .next t ∧ t = { s with net := t.net, otp := { s.otp with newRevoked := s.otp.newRevoked ||| (1#4 <<< n.val) } } ∧
        HspAnswered t p d x 0 []) ∧
    ((∀ k : Fin 4, k ≠ n → s.otp.newHash[k] = 0 ∨ s.otp.newRevoked.getLsbD k = true) →
      ∃ t, exec (.otpSlot p d) s = .next t ∧ t = { s with net := t.net } ∧ HspAnswered t p d x 0x22 [])) ∧
  (∀ (s : State) (p : Fin 2) (d : List Byte) (x : Session), HspTaken s p d x → x.wait = none → MaintOpen s x → hspOp d = 0x47 → hspPay d = [] →
    ∃ t, exec (.secureLock p d) s = .next t ∧ t = { s with net := t.net, otp := { s.otp with secureLock := true } } ∧ HspAnswered t p d x 0 []) ∧
  (∀ (s : State) (p : Fin 2) (d : List Byte) (x : Session), HspTaken s p d x → x.wait = none → MaintOpen s x → hspOp d = 0x48 →
    (hspPay d).length = 1 → leAt (hspPay d) 0 1 ≤ 7 → MemWf s →
    ∃ t, exec (.tagUnlock p d) s = .next t ∧ t = { s with mem := t.mem, net := t.net, fab := { s.fab with soft := t.fab.soft, hard := t.fab.hard } } ∧ HspAnswered t p d x 0 [] ∧
      tagLocks t = tagLocks s &&& ~~~(1#8 <<< leAt (hspPay d) 0 1) ∧
      ∀ a, a < 0x30002400 ∨ 0x30002410 ≤ a → memByte t.mem a = memByte s.mem a) ∧
  (∀ (s : State) (p : Fin 2) (d : List Byte) (x : Session), HspTaken s p d x → x.wait = none → x.ns = false → s.sys.mode = .lockoutMaint →
    hspOp d = 0x4F → hspPay d = [] →
    ∃ t, exec (.reset p d) s = .next t ∧ t.sys.mode = .bootPowerup ∧ t.pmu.cause = .maint ∧ t.net.sess = [] ∧ t.sec.lock = false ∧ t.img = {} ∧
      t.pending = s.pending ∧ t.otp.hash = s.otp.newHash ∧ t.otp.revoked = s.otp.newRevoked ∧ t.dk = s.dk ∧ t.cab.alibi = s.cab.alibi ∧
      t.aon.rtcAcc = s.aon.rtcAcc ∧
      t.net.hspTx = some (p, hspDatagram x.key x.ns x.sid (x.rctr + 1) 0x4F 0 (hspTag d) []))

/-- R463, R464, Table 16.5: four connections at most, closed after their idle time; a read answers the registers high half first, exception 03 for a
quantity above 125 (and, the model's choice, for 0: log entry 65), exception 02 for an unmapped register or an S source; a write of a whole external
word takes effect, half of one is exception 03, one outside HOSTWORDS exception 02; another function code is exception 01. Only what is written
changes. -/
def Obligations.ModbusServer : Prop :=
  (∀ (s : State) (conn : Nat) (p : Fin 2), modbusOn s p = true → ethUp s p = true → (∀ x ∈ s.net.mb, x.1 ≠ conn) →
    (s.net.mb.length < 4 → exec (.modbusConnect conn p) s = .next { s with net := { s.net with mb := s.net.mb ++ [(conn, p)] } }) ∧
    (4 ≤ s.net.mb.length → exec (.modbusConnect conn p) s = .next { s with net := { s.net with mbTx := none } })) ∧
  (∀ (s : State) (conn : Nat), exec (.modbusIdleTimeout conn) s =
    .next { s with net := { s.net with mb := s.net.mb.filter fun x => decide (x.1 ≠ conn) } }) ∧
  (∀ (s : State) (conn : Nat) (h : MbHead) (a n : BitVec 16), mbOpen s conn = true → 0 < n.toNat → n.toNat ≤ 125 → a.toNat + n.toNat ≤ 64 →
    exec (.readHoldingRegisters conn h a n) s = .next (mbAnswer conn h ([3, BitVec.ofNat 8 (2 * n.toNat)] ++
      (List.range n.toNat).flatMap fun i => beBytes 2 (mbHalf s.le.board[Fin.ofNat 64 (32 + (a.toNat + i) / 2)] (decide ((a.toNat + i) % 2 = 1)))) s)) ∧
  (∀ (s : State) (conn : Nat) (h : MbHead), mbOpen s conn = true →
    exec (.readInputRegisters conn h 0 4) s = .next (mbAnswer conn h ([4, 8] ++ beBytes 2 (getf (sysModeWord s) 16 16) ++
      beBytes 2 (getf (sysModeWord s) 0 16) ++ beBytes 2 (getf s.boot.safeId 16 16) ++ beBytes 2 (getf s.boot.safeId 0 16)) s)) ∧
  (∀ (s : State) (conn : Nat) (h : MbHead) (a n : BitVec 16), mbOpen s conn = true → 0 < n.toNat → n.toNat ≤ 125 →
    56 < a.toNat + n.toNat ∨ (a.toNat ≤ 6 ∧ 6 < a.toNat + n.toNat ∧ blockWritable s .NS 14 = false) →
    exec (.readInputRegisters conn h a n) s = .next (mbAnswer conn h [0x84, 2] s)) ∧
  (∀ (s : State) (conn : Nat) (h : MbHead) (a n : BitVec 16), mbOpen s conn = true → n = 0 ∨ 125 < n.toNat →
    exec (.readHoldingRegisters conn h a n) s = .next (mbAnswer conn h [0x83, 3] s) ∧
    exec (.readInputRegisters conn h a n) s = .next (mbAnswer conn h [0x84, 3] s)) ∧
  (∀ (s : State) (conn : Nat) (h : MbHead) (r v : BitVec 16), mbOpen s conn = true → r.toNat < 64 →
    (hostWord s (32 + r.toNat / 2) = true → exec (.writeSingleRegister conn h r v) s = .next (mbAnswer conn h [0x86, 3] s)) ∧
    (hostWord s (32 + r.toNat / 2) = false → exec (.writeSingleRegister conn h r v) s = .next (mbAnswer conn h [0x86, 2] s))) ∧
  (∀ (s : State) (conn : Nat) (h : MbHead) (v : BitVec 16), mbOpen s conn = true →
    (blockWritable s .NS 14 = true → exec (.writeSingleRegister conn h 64 v) s =
      .next (mbAnswer conn h ([6, 0, 64] ++ beBytes 2 v.toNat) (hostBudWrite v s))) ∧
    (blockWritable s .NS 14 = false → exec (.writeSingleRegister conn h 64 v) s = .next (mbAnswer conn h [0x86, 2] s))) ∧
  (∀ (s : State) (conn : Nat) (h : MbHead) (k : Fin 32) (b0 b1 b2 b3 : Byte), mbOpen s conn = true → hostWord s (32 + k.val) = true →
    exec (.writeMultipleRegisters conn h (BitVec.ofNat 16 (2 * k.val)) 2 [b0, b1, b2, b3]) s =
      .next (mbAnswer conn h ([16] ++ beBytes 2 (2 * k.val) ++ [0, 2]) (boardSet (Fin.ofNat 64 (32 + k.val)) (b0 ++ b1 ++ b2 ++ b3) s))) ∧
  (∀ (s : State) (conn : Nat) (h : MbHead) (a n : BitVec 16) (b : List Byte), mbOpen s conn = true → n = 0 ∨ 123 < n.toNat →
    exec (.writeMultipleRegisters conn h a n b) s = .next (mbAnswer conn h [0x90, 3] s)) ∧
  (∀ (s : State) (conn : Nat) (h : MbHead) (fn : Byte), mbOpen s conn = true → fn ≠ 3 → fn ≠ 4 → fn ≠ 6 → fn ≠ 16 →
    exec (.modbusOtherFunction conn h fn) s = .next (mbAnswer conn h [fn ||| 0x80#8, 1] s))

/-- R465-R467, Table 16.6: the heartbeat goes out as HB_BASE + NODE and its counter advances; a joystick frame with a new counter sets its three board
words and clears STALE, a repeated one sets none; without frames the words are 0 and STALE is set; a tank frame sets level x 65536 or, on a sensor
fault, 0x80000000 with STALE, as a timeout does; error counts move and bus-off clears on recovery. No other board word changes. -/
def Obligations.CanFrames : Prop :=
  (∀ (s : State) (n : Fin 2) (c : NetCfg), canCfg s = some c → canOn s n c = true →
    ∃ t, exec (.canHeartbeat n) s = .next t ∧ t = { s with can := { s.can with ctl := t.can.ctl } } ∧
      t.can.ctl[n].hb = some (c.hbBase + c.node, heartbeat s n c) ∧ t.can.ctl[n].hbCnt = (s.can.ctl[n].hbCnt + 1) % 256 ∧
      (heartbeat s n c).length = 8 ∧ (heartbeat s n c)[0]? = some (BitVec.ofNat 8 (s.sys.mode.code + 16 * s.sys.mode.sub)) ∧
      (heartbeat s n c)[5]? = some (BitVec.ofNat 8 c.node) ∧ ∀ k : Fin 2, k ≠ n → t.can.ctl[k] = s.can.ctl[k]) ∧
  (∀ (s : State) (n : Fin 2) (c : NetCfg), canCfg s = none ∨ (canCfg s = some c ∧ canOn s n c = false) → exec (.canHeartbeat n) s = .next s) ∧
  (∀ (s : State) (n : Fin 2) (c : NetCfg) (d : Vector Byte 8), canCfg s = some c → canOn s n c = true → c.joyId.isSome = true → c.joyWord ≤ 61 →
    s.can.ctl[n].joySeen ≠ some d[6].toNat → s.can.joyLast ≠ some d[6].toNat →
    ∃ t, exec (.joystickFrame n d) s = .next t ∧ t = { s with can := t.can, le := t.le, freeCtr := s.freeCtr + 1 } ∧
      t.can.ctl[n].joyStale = false ∧ t.can.ctl[n].joyCnt = d[6].toNat ∧ t.can.joyLast = some d[6].toNat ∧
      t.le = { s.le with board := t.le.board, boardVer := t.le.boardVer } ∧
      t.le.board[Fin.ofNat 64 c.joyWord] = d[1] ++ d[0] ++ 0#16 ∧ t.le.board[Fin.ofNat 64 (c.joyWord + 1)] = d[3] ++ d[2] ++ 0#16 ∧
      t.le.board[Fin.ofNat 64 (c.joyWord + 2)] = 0#16 ++ d[5] ++ d[4] ∧
      ∀ k : Fin 64, k.val < c.joyWord ∨ c.joyWord + 2 < k.val → t.le.board[k] = s.le.board[k]) ∧
  (∀ (s : State) (n : Fin 2) (c : NetCfg) (d : Vector Byte 8), canCfg s = some c → canOn s n c = true → c.joyId.isSome = true →
    s.can.ctl[n].joySeen = some d[6].toNat ∨ s.can.joyLast = some d[6].toNat →
    ∃ t, exec (.joystickFrame n d) s = .next t ∧ t = { s with can := t.can, freeCtr := s.freeCtr + 1 } ∧ t.can.joyLast = s.can.joyLast) ∧
  (∀ (s : State) (c : NetCfg), canCfg s = some c → c.joyId.isSome = true → c.joyWord ≤ 61 →
    ∃ t, exec .joystickTimeout s = .next t ∧ t = { s with can := t.can, le := t.le } ∧
      (∀ n : Fin 2, t.can.ctl[n] = { s.can.ctl[n] with joyStale := true }) ∧ t.le.board[Fin.ofNat 64 c.joyWord] = 0 ∧
      t.le.board[Fin.ofNat 64 (c.joyWord + 1)] = 0 ∧ t.le.board[Fin.ofNat 64 (c.joyWord + 2)] = 0 ∧
      ∀ k : Fin 64, k.val < c.joyWord ∨ c.joyWord + 2 < k.val → t.le.board[k] = s.le.board[k]) ∧
  (∀ (s : State) (n : Fin 2) (i : Fin 32) (c : NetCfg) (d : Vector Byte 8), canCfg s = some c → canOn s n c = true → i.val < c.tankN →
    c.tankWord + c.tankN ≤ 64 → s.can.ctl[n].tankSeen[i] ≠ some d[5].toNat → s.can.tankLast[i] ≠ some d[5].toNat →
    ∃ t, exec (.tankFrame n i d) s = .next t ∧ t = { s with can := t.can, le := t.le, freeCtr := s.freeCtr + 1 } ∧
      t.can.ctl[n].tankStale.getLsbD i = d[4].getLsbD 0 ∧ t.can.tankLast[i] = some d[5].toNat ∧
      t.le.board[Fin.ofNat 64 (c.tankWord + i.val)] = (if d[4].getLsbD 0 then 0x80000000#32 else d[1] ++ d[0] ++ 0#16) ∧
      ∀ k : Fin 64, k.val ≠ c.tankWord + i.val → t.le.board[k] = s.le.board[k]) ∧
  (∀ (s : State) (i : Fin 32) (c : NetCfg), canCfg s = some c → i.val < c.tankN → c.tankWord + c.tankN ≤ 64 →
    ∃ t, exec (.tankTimeout i) s = .next t ∧ t = { s with can := t.can, le := t.le } ∧
      (∀ n : Fin 2, t.can.ctl[n] = { s.can.ctl[n] with tankStale := s.can.ctl[n].tankStale ||| (1#32 <<< i.val) }) ∧
      t.le.board[Fin.ofNat 64 (c.tankWord + i.val)] = 0x80000000 ∧
      ∀ k : Fin 64, k.val ≠ c.tankWord + i.val → t.le.board[k] = s.le.board[k]) ∧
  (∀ (s : State) (n : Fin 2) (c : NetCfg) (pr : Bool), canCfg s = some c → canOn s n c = true →
    ∃ t, exec (.canBusError n true pr) s = .next t ∧ t = { s with can := { s.can with ctl := t.can.ctl } } ∧
      t.can.ctl[n] = { s.can.ctl[n] with tec := s.can.ctl[n].tec + 8, busOff := decide (255 < s.can.ctl[n].tec + 8) } ∧
      ∀ k : Fin 2, k ≠ n → t.can.ctl[k] = s.can.ctl[k]) ∧
  (∀ (s : State) (n : Fin 2), s.can.ctl[n].busOff = true →
    ∃ t, exec (.canBusoffRecovery n) s = .next t ∧ t = { s with can := { s.can with ctl := t.can.ctl } } ∧
      t.can.ctl[n] = { s.can.ctl[n] with busOff := false, tec := 0, rec_ := 0 } ∧ ∀ k : Fin 2, k ≠ n → t.can.ctl[k] = s.can.ctl[k]) ∧
  (∀ (s : State) (n : Fin 2), s.can.ctl[n].busOff = false → exec (.canBusoffRecovery n) s = .next s)

/-- R479, R483-R485, R491, Table 17.5: loss of XSYS or of PLL lock puts the PLL on the system RC, stops HL, counts the loss and locks out for CLOCK_FAIL,
once, until the clocks are restored; loss of XAON, or its failure to qualify within 2 s, puts CLK_AON on the RC with RTC_INACC and raises no code;
XAON takes over again; in the maintenance configuration ETH0's reference is an input where it shows edges, else driven. R503-R508, R513, R516,
Sequence 18.1, Table 18.6: the rails start one after the other and are up with the fourth; a failed bring-up is tried again and after three stays off
until VIN falls below 10 V; PORST_N resets in full and the rails stay on; a rail fault resets with the rails off, every carrier and brake output off,
unless a save runs, which defers it; VIN above VIN_OV and a third reading above 135 degree C lock out; a logic sensor above 150 degree C resets; below
120 degree C the derating ends. -/
def Obligations.ClocksAndSupplies : Prop :=
  ((∀ s : State, s.clk.fail = false → vcoreOn s = true → s.pmu.released = true → s.save.active = false → FaultEnters s →
    ∃ t, exec .xsysLoss s = .next t ∧ LockedFor 0x0208 t ∧
      t.clk = { s.clk with rc := true, fail := true, pllLock := true, nXsys := incSat 255 s.clk.nXsys } ∧ t.hl.on = false ∧ t.hl.link = false ∧
      t.img = s.img ∧ t.mem = s.mem ∧ t.dk = s.dk ∧ t.pmu = s.pmu ∧ t.cab = s.cab) ∧
  (∀ s : State, s.clk.fail = true → exec .xsysLoss s = .next s) ∧
  (∀ s : State, (clkNow s).aonSrc ≠ 2 →
    exec .xaonSwitch s = .next { s with clk := { s.clk with aonFb := false } } ∧
    (s.clk.aonFb = true → exec .xaonStartTimeout s = .next { s with clk := { s.clk with
      aonFb := true, nAon := incSat 255 s.clk.nAon, rtcInacc := true } })) ∧
  (∀ s : State, s.clk.aonFb = false → exec .xaonLoss s = .next { s with clk := { s.clk with
    aonFb := true, nAon := incSat 255 s.clk.nAon, rtcInacc := true } }) ∧
  (∀ s : State, (clkNow s).aonSrc = 2 → exec .xaonSwitch s = .next s ∧ exec .xaonStartTimeout s = .next s) ∧
  (∀ s : State, maintNet s = true →
    exec (.refclkProbe true) s = .next { s with clk := { s.clk with ethRef := s.clk.ethRef ||| 1#2, refo := s.clk.refo &&& 2#2 } } ∧
    exec (.refclkProbe false) s = .next { s with clk := { s.clk with ethRef := s.clk.ethRef ||| 1#2, refo := s.clk.refo ||| 1#2 } }) ∧
  (∀ (s : State) (b : Bool), maintNet s = false → exec (.refclkProbe b) s = .next s)) ∧
  ((∀ s : State, s.pmu.rails = .off → exec .vinQualified s = .next { s with pmu := { s.pmu with rails := .rising, started := 1, pg := 1 } }) ∧
  (∀ s : State, s.pmu.rails ≠ .off → exec .vinQualified s = .next s) ∧
  (∀ s : State, s.pmu.rails = .rising →
    (s.pmu.started = 1 → exec .railStart s = .next { s with pmu := { s.pmu with started := 2, pg := 3, rails := .rising } }) ∧
    (s.pmu.started = 2 → exec .railStart s = .next { s with pmu := { s.pmu with started := 3, pg := 7, rails := .rising } }) ∧
    (s.pmu.started = 3 → exec .railStart s = .next { s with pmu := { s.pmu with started := 4, pg := 15, rails := .up } })) ∧
  (∀ (s : State) (r : Fin 4), s.pmu.released = false → s.pmu.rails = .rising ∨ s.pmu.rails = .up → r.val < s.pmu.started →
    exec (.bringUpFail r) s = .next { s with pmu := { s.pmu with
      fails := incSat 255 s.pmu.fails, failRail := r.val, row := s.pmu.row + 1, started := 0, pg := 0
      rails := if s.pmu.row + 1 ≥ 3 then .held else .retry } }) ∧
  (∀ s : State, s.pmu.rails = .retry →
    (s.pmu.coolWait = false → exec .bringUpRetry s = .next { s with pmu := { s.pmu with rails := .rising, started := 1, pg := 1 } }) ∧
    (s.pmu.coolWait = true → exec .bringUpRetry s = .next s)) ∧
  (∀ s : State, s.pmu.rails = .held → exec .bringUpRetry s = .next s ∧ exec .vinBelow10v s = .next { s with pmu := { s.pmu with rails := .off, row := 0 } }) ∧
  (∀ s : State, ∃ t, exec .fullReset s = .next t ∧ t.sys.mode = .bootPowerup ∧ t.pmu.cause = .porst ∧ t.pmu.released = false ∧ t.pmu.rails = s.pmu.rails ∧
    t.pending = s.pending ∧ t.img = {} ∧ t.sec.lock = false ∧ t.saf.ka = 0 ∧ t.saf.bkH = 0 ∧ t.saf.causes = [] ∧ t.net.sess = [] ∧
    t.otp.newHash = s.otp.newHash ∧ t.aon.rtcAcc = s.aon.rtcAcc ∧ t.aon.drawer = [] ∧ t.dk = s.dk ∧ t.cab.par = s.cab.par ∧ t.cab.alibi = s.cab.alibi) ∧
  (∀ (s : State) (r : Fin 4), s.pmu.released = true → s.pmu.rails = .up → s.pmu.pg.getLsbD r = true →
    (s.save.active = true → s.save.saving = true → exec (.railFault r) s = .next { s with pmu := { s.pmu with railPend := some r.val } }) ∧
    (s.save.active = false → ∃ t, exec (.railFault r) s = .next t ∧ t.sys.mode = .bootPowerup ∧ t.pmu.cause = .rail ∧ t.pmu.railId = r.val ∧
      t.pmu.rails = .retry ∧ t.pmu.pg = 0 ∧ t.saf.ka = 0 ∧ t.saf.bkH = 0 ∧ t.saf.bkL = 0 ∧ t.saf.so = 0 ∧ t.mem = s.mem ∧ t.dk = s.dk)) ∧
  (∀ (s : State) (v : BitVec 16), s.pmu.cfg.vinOv < v.toNat → s.pmu.released = true → FaultEnters s →
    ∃ t, exec (.vinOv v) s = .next t ∧ LockedFor 0x0502 t ∧ t.pmu = { s.pmu with
      vin := v.toNat, vinMax := max s.pmu.vinMax v.toNat, vinLow := decide (v.toNat < 1800), vinOv := true }) ∧
  (∀ (s : State) (v : BitVec 16), exec (.vinLow v) s = .next { s with pmu := { s.pmu with
    vin := v.toNat, vinMax := max s.pmu.vinMax v.toNat, vinLow := decide (v.toNat < 1800), vinOv := decide (s.pmu.cfg.vinOv < v.toNat) } }) ∧
  (∀ (s : State) (x : Vector (Option (BitVec 24)) 8) (i : Fin 8) (v : BitVec 24), s.pmu.rails = .up → s.pmu.released = true → vcoreOn s = true →
    i.val < 6 → x[i] = some v → 38400 < v.toInt →
    ∃ t, exec (.tempRead x) s = .next t ∧ t.pmu.cause = .hotcut ∧ t.pmu.rails = .retry ∧ t.pmu.coolWait = true ∧ t.sys.mode = .bootPowerup ∧
      t.saf.ka = 0 ∧ t.saf.bkH = 0) ∧
  (∀ (s : State) (x : Vector (Option (BitVec 24)) 8) (i : Fin 8) (v : BitVec 24), s.pmu.rails = .up → s.pmu.released = true → vcoreOn s = true →
    FaultEnters s → x[i] = some v → 34560 < v.toInt → 2 ≤ s.pmu.hotCnt[i] →
    (∀ (j : Fin 8) (w : BitVec 24), j.val < 6 → x[j] = some w → w.toInt ≤ 38400) → (∀ (j : Fin 8) (w : Int), s.pmu.temp[j] = some w → w ≤ 38400) →
    ∃ t, exec (.tempRead x) s = .next t ∧ LockedFor 0x0503 t ∧ t.pmu.hot = true ∧ t.pmu.temp[i] = some v.toInt) ∧
  (∀ (s : State) (x : Vector (Option (BitVec 24)) 8), s.pmu.rails = .up → s.pmu.released = true → vcoreOn s = true →
    (∀ i : Fin 8, ∃ v, x[i] = some v ∧ v.toInt < 30720) →
    ∃ t, exec (.tempRead x) s = .next t ∧ t.pmu.hot = false ∧ t.sys = s.sys ∧ t.saf.causes = s.saf.causes ∧ t.mem = s.mem ∧ t.img = s.img ∧
      ∀ i : Fin 8, t.pmu.temp[i] = x[i].map BitVec.toInt))

/-- R523, R525, R527, R528, R537, R543, R546, R547: SAVE_READY is set at 42.0 V and cleared below 41.5 V; one second without it in OPERATE or LOCKOUT is
HOLDUP_LOW; at sag confirmation every carrier, brake, safe output and axis is off, sessions end, a pending homing is dropped, the sag is counted, and
in OPERATE or LOCKOUT with SAVE_READY a save starts, the network domain quiesces and the Loop Engine finishes its samples; without SAVE_READY, and in BOOT, the core domains go off with the slots as they were. Mode,
causes and latches stay. -/
def Obligations.SagConfirmed : Prop :=
  (∀ (s : State) (v : BitVec 16), s.save.resuming = false →
    (v.toNat < 4200 → exec (.saveReadySet v) s = .next { s with save := { s.save with vsave := v.toNat } }) ∧
    (4200 ≤ v.toNat → exec (.saveReadySet v) s = .next { s with save := { s.save with vsave := v.toNat, ready := true } })) ∧
  (∀ (s : State) (v : BitVec 16),
    (v.toNat < 4150 → exec (.saveReadyClear v) s = .next { s with save := { s.save with vsave := v.toNat, ready := false } }) ∧
    (4150 ≤ v.toNat → exec (.saveReadyClear v) s = .next { s with save := { s.save with vsave := v.toNat } })) ∧
  (∀ s : State, s.sys.mode = .operate → s.save.ready = false → s.save.active = false → s.save.coreOff = false →
    ∃ t, exec .holdupLow s = .next t ∧ LockedFor 0x0501 t ∧ LockoutFrame s t) ∧
  (∀ s : State, s.sys.mode.isLockout = true → s.save.ready = false → s.save.active = false → s.save.coreOff = false →
    ∃ t, exec .holdupLow s = .next t ∧ t.sys = s.sys ∧ (∃ x ∈ t.saf.causes, x.code = 0x0501) ∧ LockoutFrame s t) ∧
  (∀ s : State, s.save.ready = true ∨ s.save.active = true ∨ s.save.coreOff = true → exec .holdupLow s = .next s) ∧
  (∀ (s : State) (v : BitVec 16), s.pmu.released = true → s.pmu.rails = .up → s.save.active = false → s.save.coreOff = false →
    s.sys.mode = .operate ∨ s.sys.mode.isLockout = true → s.save.ready = true →
    ∃ t, exec (.sagConfirm v) s = .next t ∧ t.pending = s.pending ∧ t.img = s.img ∧ t.sys.mode = s.sys.mode ∧ t.saf.causes = s.saf.causes ∧
      DriveOff t ∧ t.saf.bkH = 0 ∧ t.saf.bkL = 0 ∧ (∀ n : Fin 4, t.saf.ax[n].latch = s.saf.ax[n].latch) ∧ t.net.sess = [] ∧ t.net.mb = [] ∧
      t.save.active = true ∧ t.save.saving = true ∧ t.save.act = true ∧ t.save.step = .confirmed ∧ t.save.charge = false ∧ t.save.fromVsave = true ∧
      t.save.vsave0 = v.toNat ∧ t.save.at_ = s.now ∧ t.saf.homing = none ∧ (s.saf.homing.isSome = true → t.save.homeRes = 0) ∧
      t.fab.dom[2] = s.fab.dom[2] ∧ (s.fab.dom[3] = .on → t.fab.dom[3] = .quiescing) ∧ t.life.sag = s.life.sag + 1) ∧
  (∀ (s : State) (v : BitVec 16), s.pmu.released = true → s.pmu.rails = .up → s.save.active = false → s.save.coreOff = false → MemWf s →
    s.pmu.railPend = none → (∀ p : Fin 2, s.chest.port[p].pend = false) → Settled s →
    (∀ i : Fin 256, s.chn.slots[i].st ≠ .running ∧ s.chn.slots[i].st ≠ .draining) → (((s.sys.mode = .operate ∨ s.sys.mode.isLockout = true) ∧ s.save.ready = false) ∨ s.sys.mode.isBoot = true) →
    ∃ t, exec (.sagConfirm v) s = .next t ∧ t.sys.mode = s.sys.mode ∧ t.saf.causes = s.saf.causes ∧ DriveOff t ∧ t.saf.bkH = 0 ∧ t.save.active = false ∧
      t.save.coreOff = true ∧ t.save.act = false ∧ t.pmu.pg = 0 ∧ t.fab.dom = #v[.on, .off, .off, .off] ∧ t.boot.halted = (s.sys.mode.isBoot || s.boot.halted) ∧
      ∀ a, 0x30004000 ≤ a → a < 0x30006000 → memByte t.mem a = memByte s.mem a) ∧
  (∀ (s : State) (v : BitVec 16), s.pmu.released = false ∨ s.pmu.rails ≠ .up ∨ s.save.active = true → exec (.sagConfirm v) s = .next s)

/-- R529-R531, R533-R536, R544, Sequence 19.1, Table 19.3: the capture completes an accepted Chest store and writes at most 8 history entries; the record
goes into slot A when neither slot is valid, else into the slot that does not hold the newest one, with the next SEQ, its header block only when the
read-back held, and the other slot stays; the Drawer is filled and the core domains go off; VSAVE below 12 V loses what it held but the Chest, whose history ring takes the causes that end (Table 11.4); a resume waits for
SAVE_READY, and after 5 s runs without it. -/
def Obligations.SaveAndResume : Prop :=
  (∀ s : State, s.save.step = .confirmed → tagNext s = none → (∀ l : Fin 4, s.le.lanes[l].work = []) →
    ∃ t, exec .saveCapture s = .next t ∧ t = { s with save := { s.save with step := .captured, record := t.save.record }, mem := t.mem
                                                      saf := { s.saf with hist := s.saf.hist.drop 8 }
                                                      fab := { s.fab with soft := t.fab.soft, hard := t.fab.hard } } ∧
      (s.saf.hist = [] → t.mem = s.mem) ∧
      (s.sys.mode = .operate → wakeRuns s = false → t.save.record = recordBytes 1 s) ∧ (s.sys.mode = .watch → t.save.record = recordBytes 2 s)) ∧
  (∀ (s : State) (p : Fin 2), s.save.step = .confirmed → tagNext s = some p →
    ∃ t, exec .saveCapture s = .next t ∧ t.chest.port[p].pend = false ∧ t.chest.port[p].result = 1 ∧ t.save.step = .captured) ∧
  (∀ s : State, s.save.step ≠ .confirmed → exec .saveCapture s = .next s) ∧
  (∀ s : State, s.save.step = .captured → s.save.record.length = 0x700 → MemWf s → newestSlot s = none →
    ∃ (t : State) (n : Nat), exec (.saveRecordWrite true) s = .next t ∧ t = { s with
      mem := t.mem, life := t.life, save := { s.save with step := .written, record := [], seq := 1 }
      fab := { s.fab with soft := t.fab.soft, hard := t.fab.hard } } ∧ memBytes t.mem 0x30004000 0x700 = recordSeal 1 n s.save.record ∧
      ∀ a, 0x30005000 ≤ a → a < 0x30006000 → memByte t.mem a = memByte s.mem a) ∧
  (∀ (s : State) (b : Bool), s.save.step = .captured → s.save.record.length = 0x700 → MemWf s → newestSlot s = some b →
    (∃ (t : State) (n : Nat), exec (.saveRecordWrite true) s = .next t ∧
      memBytes t.mem (if b then 0x30004000 else 0x30005000) 0x700 = recordSeal (leAt (slotBytes s b) 8 4 + 1) n s.save.record ∧
      t.save.step = .written ∧ ∀ a, (if b then 0x30005000 else 0x30004000) ≤ a → a < (if b then 0x30006000 else 0x30005000) →
        memByte t.mem a = memByte s.mem a) ∧
    (∃ t, exec (.saveRecordWrite false) s = .next t ∧ t.save.step = .written ∧ t.save.seq = s.save.seq ∧
      ∀ a, (if b then 0x30004000 else 0x30005000) ≤ a → a < (if b then 0x30004020 else 0x30005020) → memByte t.mem a = memByte s.mem a)) ∧
  (∀ (s : State) (v w : BitVec 16), s.save.step = .written → s.pmu.railPend = none → (∀ i : Fin 256, s.chn.slots[i].st ≠ .draining) → Settled s →
    ∃ t, exec (.saveComplete v w) s = .next t ∧ t.save.active = false ∧ t.save.coreOff = true ∧ t.save.act = false ∧ t.save.vsave = v.toNat ∧
      t.save.vmin = w.toNat ∧ t.save.dur = satNat 65535 (s.now - s.save.at_) ∧ t.pmu.pg = 0 ∧ t.sys.mode = s.sys.mode ∧
      t.saf.causes = s.saf.causes ∧ t.mem = s.mem ∧ t.fab.dom = #v[.on, .off, .off, .off] ∧ drawerOk t.aon.drawer = true) ∧
  (∀ (s : State) (v w : BitVec 16), s.save.step ≠ .written → exec (.saveComplete v w) s = .next s) ∧
  (∀ (s : State) (vbat : Bool), s.save.active = true ∨ s.save.coreOff = true → MemWf s →
    ∃ t, exec (.aonLoss vbat) s = .next t ∧ t.sys.mode = .bootPowerup ∧ t.pmu.cause = .sagLoss ∧ t.pmu.rails = .off ∧
      t.pmu.rtcLost = (s.pmu.rtcLost || !vbat) ∧ (vbat = true → t.aon.rtcAcc = s.aon.rtcAcc) ∧ t.aon.drawer = [] ∧ t.cab.alibi = s.cab.alibi ∧
      (∀ a, 0x10000000 ≤ a → a < 0x10100000 → memByte t.mem a = 0) ∧ (∀ a, 0x30000000 ≤ a → s.saf.causes = [] ∨ a < 0x30003000 ∨ 0x30003800 ≤ a → memByte t.mem a = memByte s.mem a)) ∧
  (∀ (s : State) (vbat : Bool), s.save.active = false → s.save.coreOff = false → exec (.aonLoss vbat) s = .next s) ∧
  (∀ s : State, s.save.coreOff = true → s.boot.halted = false → wakeRuns s = false → s.save.resuming = false → s.sys.mode ≠ .lockoutMaint →
    (s.save.ready = false → exec .sagResume s = .next { s with save := { s.save with charge := true, resuming := true } }) ∧
    (s.save.ready = true → exec .sagResume s = .next { s with
      save := { s.save with charge := true, resuming := false }, aon := { s.aon with step := .waking, cause := 5, index := 0, fromSag := true } })) ∧
  (∀ s : State, s.save.coreOff = true → s.boot.halted = false → wakeRuns s = false → s.save.resuming = false → s.sys.mode = .lockoutMaint →
    ∃ t, exec .sagResume s = .next t ∧ t.sys.mode = .bootPowerup ∧ t.pmu.rails = .rising ∧ t.saf.causes = []) ∧
  (∀ s : State, s.save.resuming = true → s.save.ready = false → exec .resumeHoldupTimeout s = .next { s with
    save := { s.save with noHoldup := true, resuming := false }, aon := { s.aon with step := .waking, cause := 5, index := 0, fromSag := true } }) ∧
  (∀ (s : State) (n : Fin 4), s.fab.dom[0] = .on → s.fab.dom[1] = .on → TagReady s 0 → exec (.saveHome .S n) s = .next { s with
    saf := { s.saf with homing := some (n, sInt s.save.homePos) }, fab := fabAnswered s 0 .done }) ∧
  (∀ (s : State) (p : Fin 4), exec (.positionVerifyTimeout p) s = .next { s with save := { s.save with
    verify := s.save.verify.filter fun x => decide (x.1 ≠ p) } })

/-- R51, R53, R61, R498, R551, R554, R559, R561, Tables 20.1, 20.4 and 20.6: ENTER_WATCH is refused outside OPERATE and without section 0x70, else the
sleep command goes out; a token return that is not accepted in time is given up; the commit writes a Drawer that its own check passes, ends sessions,
turns the outputs off and the domains down and opens the entry window. RTC_WRITE sets the second and clears RTC_LOST and RTC_INACC. -/
def Obligations.WatchEntry : Prop :=
  (∀ s : State, s.sys.resPend = false → s.sys.mode ≠ .operate →
    ∃ t, exec (.enterWatch (.core .S)) s = .next t ∧ t = { s with net := t.net, sys := { s.sys with
      resAction := 2, resRcp := 0, resCollide := false, resPend := false, resResult := 0x14, resReason := 1, resIndex := 0xFF } }) ∧
  (∀ s : State, s.sys.resPend = false → s.sys.mode = .operate → s.sys.switching = false → s.img.watch = none →
    ∃ t, exec (.enterWatch (.core .S)) s = .next t ∧ t = { s with net := t.net, sys := { s.sys with
      resAction := 2, resRcp := 0, resCollide := false, resPend := false, resResult := 0x14, resReason := 8, resIndex := 0xFF } }) ∧
  (∀ s : State, s.sys.resPend = false → watchRefusal s = none → s.trst.adopted = true → s.trst.sleep = false →
    exec (.enterWatch (.core .S)) s = .next { s with
      sys := { s.sys with resAction := 2, resRcp := 0, resCollide := false, resPend := true }
      trst := { s.trst with sleepSent := true }, aon := { s.aon with step := .deck } }) ∧
  (∀ s : State, s.aon.step = .tokens → exec .tokenReturnTimeout s = .next { s with
    aon := { s.aon with step := .closing }, hl := { s.hl with on := false, link := false, leaving := false } }) ∧
  (∀ s : State, s.aon.step ≠ .tokens → exec .tokenReturnTimeout s = .next s) ∧
  (∀ s : State, s.sys.mode = .operate → s.aon.step = .closing → Settled s →
    ∃ t, exec .watchCommit s = .next t ∧ t.sys.mode = .watch ∧ t.sys.entry = 3 ∧ t.saf.ka = 0 ∧ t.saf.so = 0 ∧ t.saf.bkH = 0 ∧ t.saf.bkL = 0 ∧
      t.saf.toOut = 0xF ∧ t.saf.causes = s.saf.causes ∧ t.net.sess = [] ∧ t.net.mb = [] ∧ t.fab.dom = #v[.on, .off, .off, .off] ∧ t.pmu.pg = 3 ∧
      t.aon.step = .window ∧ t.aon.samples = 0 ∧ t.aon.entries = incSat 65535 s.aon.entries ∧ drawerOk t.aon.drawer = true ∧ t.sys.resPend = false ∧
      (s.sys.resPend = true → t.sys.resResult = 0) ∧ t.img = s.img ∧ t.cab = s.cab ∧ t.dk = s.dk ∧ t.pending = s.pending ∧
      (∀ i : Fin 256, t.chn.slots[i].st ≠ .running) ∧ ∀ k : Fin 4, t.cap[k].st ≠ 1 ∧ t.cap[k].st ≠ 2) ∧
  (∀ s : State, s.sys.mode ≠ .operate ∨ s.aon.step = .none ∨ s.aon.step = .deck → exec .watchCommit s = .next s) ∧
  (∀ (s : State) (v : Word), s.fab.dom[0] = .on → s.fab.dom[1] = .on → TagReady s 0 → exec (.rtcWrite .S v) s = .next { s with
    aon := { s.aon with rtcAcc := v.toNat * 10000000000000 }, pmu := { s.pmu with rtcLost := false }, clk := { s.clk with rtcInacc := false }
    fab := fabAnswered s 0 .done })

/-- R69, R70, R487, R536, R545, R555-R564, R567, R571, Table 20.3: an edge in the entry window is lost, a level present at its end wakes; a pin, the alarm
second, a compare hit, a wire break, a changed input or a temperature above 135 degree C starts the wake with its CAUSE; the wake restores what the
Drawer and the retained memories hold, or starts a bring-up when its check fails; at the ready point the device is in OPERATE, or in LOCKOUT for an
unlocked PLL or an unlinked deck. BOOT goes on after a sag where Table 2.8 says. -/
def Obligations.WakeAndReady : Prop :=
  (∀ (s : State) (n : Fin 4), s.aon.step = .window → wakeCfg s n = 3 → s.aon.wake.getLsbD n = false →
    ∃ t, exec (.wakePin n true) s = .next t ∧ t = { s with aon := { s.aon with edgeLost := true, wake := t.aon.wake } } ∧ t.aon.wake.getLsbD n = true) ∧
  (∀ (s : State) (n : Fin 4) (l : Bool), s.sys.mode = .watch → s.aon.step = .asleep →
    (wakeCfg s n = 1 ∧ l = true) ∨ (wakeCfg s n = 2 ∧ l = false) ∨ (wakeCfg s n = 3 ∧ l = true ∧ s.aon.wake.getLsbD n = false) ∨
      (wakeCfg s n = 4 ∧ l = false ∧ s.aon.wake.getLsbD n = true) →
    ∃ t, exec (.wakePin n l) s = .next t ∧ t = { s with aon := { s.aon with step := .waking, cause := 3, index := n.val, wake := t.aon.wake } } ∧
      t.aon.wake.getLsbD n = l) ∧
  (∀ s : State, s.aon.step = .window → (∀ n : Fin 4, wakeLevel s n = false) → exec .watchWindowEnd s = .next { s with aon := { s.aon with step := .asleep } }) ∧
  (∀ (s : State) (n : Fin 4), s.sys.mode = .watch → s.aon.step = .window → wakeLevel s n = true → (∀ k : Fin 4, k < n → wakeLevel s k = false) →
    exec .watchWindowEnd s = .next { s with aon := { s.aon with step := .waking, cause := 3, index := n.val } }) ∧
  (∀ s : State, s.sys.mode = .watch → s.aon.step = .asleep →
    (s.aon.alarmEn = true → rtcS s = s.aon.alarmS → exec .rtcAlarm s = .next { s with aon := { s.aon with step := .waking, cause := 4, index := 0 } }) ∧
    (s.aon.alarmEn = false ∨ rtcS s ≠ s.aon.alarmS → exec .rtcAlarm s = .next s)) ∧
  (∀ (s : State) (w : WatchCfg) (v : Vector (BitVec 16) 16) (i : BitVec 16) (x : Vector (BitVec 24) 6), s.sys.mode = .watch → s.aon.step = .asleep →
    s.img.watch = some w → (∀ k : Fin 6, x[k].toInt ≤ 34560) → (i ^^^ s.aon.siCommit) &&& w.siWake = 0 →
    (∀ k : Fin 16, w.wbWake.getLsbD k = true → 9000 ≤ v[k].toNat) →
    (∀ k : Fin 16, w.aiEn.getLsbD k = true → w.lower[k] ≤ v[k].toNat ∧ v[k].toNat ≤ w.upper[k]) →
    ∃ t, exec (.watchSample v i x) s = .next t ∧ t = { s with aon := t.aon, pmu := { s.pmu with temp := t.pmu.temp } } ∧ t.aon.step = .asleep ∧
      t.aon.samples = s.aon.samples + 1 ∧ t.aon.aiHit = 0 ∧ t.aon.siHit = 0 ∧ t.aon.first = false ∧ (∀ k : Fin 16, t.aon.wval[k] = v[k].toNat)) ∧
  (∀ (s : State) (w : WatchCfg) (v : Vector (BitVec 16) 16) (i : BitVec 16) (x : Vector (BitVec 24) 6) (k : Fin 16), s.sys.mode = .watch →
    s.aon.step = .asleep → s.img.watch = some w → (∀ j : Fin 6, x[j].toInt ≤ 34560) → w.aiEn.getLsbD k = true →
    s.aon.first = true ∨ s.aon.wout.getLsbD k = false → w.upper[k] < v[k].toNat ∨ v[k].toNat < w.lower[k] → (∀ j : Fin 16, j < k → w.aiEn.getLsbD j = false) →
    ∃ t, exec (.watchSample v i x) s = .next t ∧ t = { s with aon := t.aon, pmu := { s.pmu with temp := t.pmu.temp } } ∧ t.aon.step = .waking ∧
      t.aon.cause = 1 ∧ t.aon.index = k.val ∧ t.aon.wout.getLsbD k = true ∧ t.aon.aiHit.getLsbD k = true) ∧
  (∀ (s : State) (w : WatchCfg) (v : Vector (BitVec 16) 16) (i : BitVec 16) (x : Vector (BitVec 24) 6) (j : Fin 6), s.sys.mode = .watch → s.aon.step = .asleep →
    s.img.watch = some w → 34560 < x[j].toInt →
    ∃ t, exec (.watchSample v i x) s = .next t ∧ t.sys = s.sys ∧ t.aon.step = .waking ∧ ∃ e ∈ t.saf.causes, e.code = 0x0503) ∧
  (∀ s : State, s.aon.step = .waking → drawerOk s.aon.drawer = true →
    ∃ t, exec .wakeStart s = .next t ∧ t.aon = { s.aon with step := .restored, shorted := 0 } ∧ t.pmu.pg = 0xF ∧ t.mem = s.mem ∧ t.img = s.img ∧ t.sec = s.sec ∧
      t.sys.mode = s.sys.mode ∧ t.net.sess = [] ∧ t.le.board = s.le.board ∧ t.saf.causes = s.saf.causes ∧ t.saf.ka = 0 ∧ t.saf.bkH = 0 ∧ t.saf.so = 0 ∧
      t.fab = {} ∧ (∀ i : Fin 256, t.chn.slots[i].st = s.chn.slots[i].st ∧ t.chn.slots[i].gen = s.chn.slots[i].gen ∧
        t.chn.slots[i].bankB = s.chn.slots[i].bankB) ∧
      ∀ n : Fin 4, t.saf.ax[n].latch = s.saf.ax[n].latch ∧ (t.saf.ax[n].st = .sto ∨ t.saf.ax[n].st = .unused)) ∧
  (∀ s : State, s.aon.step = .waking → drawerOk s.aon.drawer = false →
    ∃ t, exec .wakeStart s = .next t ∧ t.sys.mode = .bootPowerup ∧ t.pmu.cause = .sagLoss ∧ t.pmu.rails = .rising ∧ t.pmu.started = 1) ∧
  (∀ s : State, s.aon.step ≠ .waking → exec .wakeStart s = .next s) ∧
  (∀ s : State, s.aon.step = .restored → s.sys.mode = .watch ∨ s.sys.mode = .operate → s.saf.causes = [] → s.save.noHoldup = false →
    s.trst.adopted = false ∨ deckLinked s = true → s.sys.change = none → (∀ i : Fin 256, s.chn.slots[i].wasRun = false ∧ s.chn.slots[i].autoPend = false) →
    ∃ t, exec (.wakeReady true) s = .next t ∧ t.sys.mode = .operate ∧ t.sys.entry = (if s.aon.fromSag then 7 else 2) ∧ t.aon.step = .none ∧
      t.save.coreOff = false ∧ t.save.active = false ∧ t.saf.causes = [] ∧ t.mem = s.mem ∧ t.img = s.img) ∧
  (∀ (s : State) (c : Code), s.aon.step = .restored → s.sys.mode = .watch ∨ s.sys.mode = .operate → s.sys.change = none → c = 0x0208 ∨ c = 0x0209 →
    (c = 0x0209 → s.trst.adopted = true ∧ deckLinked s = false) →
    ∃ t, exec (.wakeReady (decide (c ≠ 0x0208))) s = .next t ∧ LockedFor c t ∧ t.sys.entry = 4) ∧
  (∀ (s : State) (b : Bool), s.aon.step ≠ .restored → exec (.wakeReady b) s = .next s) ∧
  (∀ s : State, s.boot.halted = true →
    ∃ t, exec .bootSagRestart s = .next t ∧ t.boot.halted = false ∧ t.save.active = false ∧ t.save.coreOff = false ∧ t.pmu.pg = 0xF ∧ t.mem = s.mem ∧
      (s.boot.chargeBack = true → t.sys.mode = .bootCharge ∧ t.save.charge = true) ∧
      (s.boot.chargeBack = false → s.boot.loaded = true → t.sys.mode = .bootSelftest)) ∧
  (∀ s : State, s.boot.halted = true → s.boot.chargeBack = false → s.boot.loaded = false → s.otp.ok = true →
    ∃ t, exec .bootSagRestart s = .next t ∧ t.sys.mode = .bootImage ∧ t.boot.phase = .discovery) ∧
  (∀ s : State, s.boot.halted = false → exec .bootSagRestart s = .next s)

/-- R125, R575-R579, R581, R582, R584: the tag ports are secure (0) and non-secure (1), and the other world's write is a FAULT_WORLD; GO while a write is pending only sets COLLIDE, a locked segment
ends it with RESULT 2, else it is pending; its completion writes the 32 bytes of the port served first, counts TAG_WRITES and records block and world;
TAGLOCK sets lock bits and never clears one; the lifetime counters take their increments, saturating, under their CRC; no other byte of memory
changes. -/
def Obligations.TagAreaAndLifetime : Prop :=
  (∀ (s : State) (p : Fin 2) (b : BitVec 5), s.chest.port[p].pend = true → TagPortWrite s p →
    ∃ t, exec (.tagWrite p (tagWorld p) b) s = .next t ∧
      t = { s with chest := { s.chest with port := t.chest.port }, fab := fabAnswered s (coreInit (tagWorld p)) .done } ∧
      t.chest.port[p] = { s.chest.port[p] with collide := true } ∧ ∀ q : Fin 2, q ≠ p → t.chest.port[q] = s.chest.port[q]) ∧
  (∀ (s : State) (p : Fin 2) (b : BitVec 5), s.chest.port[p].pend = false → chestClosed s = false → tagLocked s b.toNat = true →
    TagPortWrite s p →
    ∃ t, exec (.tagWrite p (tagWorld p) b) s = .next t ∧
      t = { s with chest := { s.chest with port := t.chest.port }, fab := fabAnswered s (coreInit (tagWorld p)) .done } ∧
      t.chest.port[p] = { s.chest.port[p] with block := b.toNat, result := 2 } ∧ ∀ q : Fin 2, q ≠ p → t.chest.port[q] = s.chest.port[q]) ∧
  (∀ (s : State) (p : Fin 2) (b : BitVec 5), s.chest.port[p].pend = false → chestClosed s = false → tagLocked s b.toNat = false →
    TagPortWrite s p →
    ∃ t, exec (.tagWrite p (tagWorld p) b) s = .next t ∧
      t = { s with chest := { s.chest with port := t.chest.port, gos := s.chest.gos + 1 }, fab := fabAnswered s (coreInit (tagWorld p)) .done } ∧
      t.chest.port[p] = { s.chest.port[p] with block := b.toNat, target := b.toNat, pend := true, ns := decide (p = 1), hsp := none, order := s.chest.gos } ∧
      ∀ q : Fin 2, q ≠ p → t.chest.port[q] = s.chest.port[q]) ∧
  (∀ (s : State) (p : Fin 2) (b : BitVec 5), s.fab.dom[1] = .on → TagReady s (if p = 0 then 1 else 0) →
    ∃ t, exec (.tagWrite p (if p = 0 then .NS else .S) b) s = .next t ∧ t.chest = s.chest ∧ t.mem = s.mem ∧
      t.sec.violCount = incSat 65535 s.sec.violCount ∧ t.fab = fabAnswered s (if p = 0 then 1 else 0) .faultWorld) ∧
  (∀ (s : State) (p : Fin 2), tagNext s = some p → s.chest.port[p].target < 32 → s.chest.port[p].hsp = none → MemWf s →
    ∃ t, exec .tagWriteComplete s = .next t ∧
      t = { s with mem := t.mem, chest := { s.chest with port := t.chest.port }, fab := { s.fab with soft := t.fab.soft, hard := t.fab.hard } } ∧
      t.chest.port[p] = { s.chest.port[p] with pend := false, result := 1, hsp := none } ∧ (∀ q : Fin 2, q ≠ p → t.chest.port[q] = s.chest.port[q]) ∧
      (∀ j : Fin 8, memWord t.mem (0x30002000 + 32 * s.chest.port[p].target + 4 * j.val) = s.chest.port[p].buf[j]) ∧
      leNat (memBytes t.mem 0x30002400 4) = satNat 0xFFFFFFFF (leNat (memBytes s.mem 0x30002400 4) + 1) ∧ tagLocks t = tagLocks s ∧
      memByte t.mem 0x30002405 = BitVec.ofNat 8 s.chest.port[p].target ∧ memByte t.mem 0x30002406 = (if s.chest.port[p].ns then 1 else 0) ∧
      memWord t.mem 0x30002408 = rtcS s ∧
      ∀ a, (a < 0x30002000 + 32 * s.chest.port[p].target ∨ 0x30002020 + 32 * s.chest.port[p].target ≤ a) → (a < 0x30002400 ∨ 0x30002410 ≤ a) →
        memByte t.mem a = memByte s.mem a) ∧
  (∀ s : State, s.chest.port[0].pend = false → s.chest.port[1].pend = false → exec .tagWriteComplete s = .next s) ∧
  (∀ (s : State) (p : Fin 2) (l : BitVec 8), MemWf s → TagPortWrite s p →
    ∃ t, exec (.tagLock p (tagWorld p) l) s = .next t ∧
      t = { s with mem := t.mem, fab := { fabAnswered s (coreInit (tagWorld p)) .done with soft := t.fab.soft, hard := t.fab.hard } } ∧ tagLocks t = tagLocks s ||| l ∧
      ∀ a, a < 0x30002400 ∨ 0x30002410 ≤ a → memByte t.mem a = memByte s.mem a) ∧
  (∀ s : State, vcoreOn s = true → MemWf s →
    ∃ t, exec .lifetimeWrite s = .next t ∧ t = { s with mem := t.mem, life := { opUs := s.life.opUs % 60000000 }, fab := { s.fab with soft := t.fab.soft, hard := t.fab.hard } } ∧
      memBytes t.mem 0x30006000 64 = lifeBytes (memBytes s.mem 0x30006000 64) s.life ∧ crcAt t 0x6000 64 = true ∧
      ∀ a, a < 0x30006000 ∨ 0x30006044 ≤ a → memByte t.mem a = memByte s.mem a) ∧
  (∀ s : State, vcoreOn s = false → exec .lifetimeWrite s = .next s)

/-- At reset: the invariants hold; BOOT.POWERUP, the block world table at its reset value, every fabric pool full, nothing driven. -/
def Obligations.InvariantsAtReset : Prop :=
  MemWf State.reset ∧ TagsKept State.reset ∧ LegInterlock State.reset ∧ BwtFixed State.reset ∧ DriveOff State.reset ∧
  State.reset.sys.mode.isBoot = true ∧ State.reset.sec.bwt = 0x03803E20 ∧ State.reset.pending = []

/-- Every step keeps the memory in its canonical form: addresses strictly rising, no cell equal to what an unlisted address reads as. -/
def Obligations.MemoryStaysCanonical : Prop :=
  ∀ s t : State, MemWf s → step s = .next t → MemWf t

/-- R195, R196, R199, R200, R202: in every step each tag of a pool is either free or held by one transaction, and a request waits in the pool of its
initiator. -/
def Obligations.TagBooksKept : Prop :=
  ∀ s t : State, TagsKept s → step s = .next t → TagsKept t

/-- R87, R131: OTP bits are only ever set: no step clears SECURE_LOCK or a revoke bit, or changes a key slot that holds a hash. -/
def Obligations.OtpNeverCleared : Prop :=
  ∀ s t : State, step s = .next t →
    (s.otp.secureLock = true → t.otp.secureLock = true) ∧
    (∀ n : Fin 4, s.otp.newRevoked.getLsbD n = true → t.otp.newRevoked.getLsbD n = true) ∧
    (∀ n : Fin 4, s.otp.newHash[n] ≠ 0 → t.otp.newHash[n] = s.otp.newHash[n])

/-- R256, R259, R264, R266: no step turns HI and LO of a leg on together, a complementary switch only follows with both off, and a bridge that does not
run or is not released conducts nothing. -/
def Obligations.LegInterlockKept : Prop :=
  ∀ s t : State, LegInterlock s → step s = .next t → LegInterlock t

/-- Every command completes: for each constructor of Instr, in every state and with all operands that meet CommandReady, which asks something of the state
and the operands alone (one form of the command's own effect, with the conditions under which the statement of its family gives it), exec answers a next
state, and that state carries the mark of the effect (CommandDone). -/
def Obligations.EveryCommandCompletes : Prop :=
  ∀ (s : State) (i : Instr), CommandReady s i → ∃ t, exec i s = .next t ∧ CommandDone s t i
end

