-- ==== Sys2Proof/Laws/State.lean ====
section
/-! SUPPORT. Laws/State.lean: what each named update of the state leaves alone, field by field, and what it writes. -/
namespace Sys2Proof.Machine
open Sys2Proof

/-! ### modSlot -/

@[simp] theorem State.modSlot_pending (s : State) (i : Fin 256) (f : Slot → Slot) : (s.modSlot i f).pending = s.pending := rfl
@[simp] theorem State.modSlot_now (s : State) (i : Fin 256) (f : Slot → Slot) : (s.modSlot i f).now = s.now := rfl
@[simp] theorem State.modSlot_freeCtr (s : State) (i : Fin 256) (f : Slot → Slot) : (s.modSlot i f).freeCtr = s.freeCtr := rfl
@[simp] theorem State.modSlot_sys (s : State) (i : Fin 256) (f : Slot → Slot) : (s.modSlot i f).sys = s.sys := rfl
@[simp] theorem State.modSlot_boot (s : State) (i : Fin 256) (f : Slot → Slot) : (s.modSlot i f).boot = s.boot := rfl
@[simp] theorem State.modSlot_img (s : State) (i : Fin 256) (f : Slot → Slot) : (s.modSlot i f).img = s.img := rfl
@[simp] theorem State.modSlot_sec (s : State) (i : Fin 256) (f : Slot → Slot) : (s.modSlot i f).sec = s.sec := rfl
@[simp] theorem State.modSlot_otp (s : State) (i : Fin 256) (f : Slot → Slot) : (s.modSlot i f).otp = s.otp := rfl
@[simp] theorem State.modSlot_mem (s : State) (i : Fin 256) (f : Slot → Slot) : (s.modSlot i f).mem = s.mem := rfl
@[simp] theorem State.modSlot_trst (s : State) (i : Fin 256) (f : Slot → Slot) : (s.modSlot i f).trst = s.trst := rfl
@[simp] theorem State.modSlot_dk (s : State) (i : Fin 256) (f : Slot → Slot) : (s.modSlot i f).dk = s.dk := rfl
@[simp] theorem State.modSlot_saf (s : State) (i : Fin 256) (f : Slot → Slot) : (s.modSlot i f).saf = s.saf := rfl
@[simp] theorem State.modSlot_le (s : State) (i : Fin 256) (f : Slot → Slot) : (s.modSlot i f).le = s.le := rfl
@[simp] theorem State.modSlot_cap (s : State) (i : Fin 256) (f : Slot → Slot) : (s.modSlot i f).cap = s.cap := rfl
@[simp] theorem State.modSlot_fab (s : State) (i : Fin 256) (f : Slot → Slot) : (s.modSlot i f).fab = s.fab := rfl
@[simp] theorem State.modSlot_aon (s : State) (i : Fin 256) (f : Slot → Slot) : (s.modSlot i f).aon = s.aon := rfl
@[simp] theorem State.modSlot_life (s : State) (i : Fin 256) (f : Slot → Slot) : (s.modSlot i f).life = s.life := rfl
@[simp] theorem State.modSlot_save (s : State) (i : Fin 256) (f : Slot → Slot) : (s.modSlot i f).save = s.save := rfl
@[simp] theorem State.modSlot_chest (s : State) (i : Fin 256) (f : Slot → Slot) : (s.modSlot i f).chest = s.chest := rfl
@[simp] theorem State.modSlot_clk (s : State) (i : Fin 256) (f : Slot → Slot) : (s.modSlot i f).clk = s.clk := rfl
@[simp] theorem State.modSlot_pmu (s : State) (i : Fin 256) (f : Slot → Slot) : (s.modSlot i f).pmu = s.pmu := rfl
@[simp] theorem State.modSlot_spm (s : State) (i : Fin 256) (f : Slot → Slot) : (s.modSlot i f).spm = s.spm := rfl
@[simp] theorem State.modSlot_hl (s : State) (i : Fin 256) (f : Slot → Slot) : (s.modSlot i f).hl = s.hl := rfl
@[simp] theorem State.modSlot_cab (s : State) (i : Fin 256) (f : Slot → Slot) : (s.modSlot i f).cab = s.cab := rfl
@[simp] theorem State.modSlot_fio (s : State) (i : Fin 256) (f : Slot → Slot) : (s.modSlot i f).fio = s.fio := rfl
@[simp] theorem State.modSlot_fan (s : State) (i : Fin 256) (f : Slot → Slot) : (s.modSlot i f).fan = s.fan := rfl
@[simp] theorem State.modSlot_ain (s : State) (i : Fin 256) (f : Slot → Slot) : (s.modSlot i f).ain = s.ain := rfl
@[simp] theorem State.modSlot_enc (s : State) (i : Fin 256) (f : Slot → Slot) : (s.modSlot i f).enc = s.enc := rfl
@[simp] theorem State.modSlot_gpio (s : State) (i : Fin 256) (f : Slot → Slot) : (s.modSlot i f).gpio = s.gpio := rfl
@[simp] theorem State.modSlot_ser (s : State) (i : Fin 256) (f : Slot → Slot) : (s.modSlot i f).ser = s.ser := rfl
@[simp] theorem State.modSlot_net (s : State) (i : Fin 256) (f : Slot → Slot) : (s.modSlot i f).net = s.net := rfl
@[simp] theorem State.modSlot_can (s : State) (i : Fin 256) (f : Slot → Slot) : (s.modSlot i f).can = s.can := rfl
@[simp] theorem State.modSlot_flash (s : State) (i : Fin 256) (f : Slot → Slot) : (s.modSlot i f).flash = s.flash := rfl

/-! ### mapSlots -/

@[simp] theorem State.mapSlots_pending (s : State) (f : Slot → Slot) : (s.mapSlots f).pending = s.pending := rfl
@[simp] theorem State.mapSlots_now (s : State) (f : Slot → Slot) : (s.mapSlots f).now = s.now := rfl
@[simp] theorem State.mapSlots_freeCtr (s : State) (f : Slot → Slot) : (s.mapSlots f).freeCtr = s.freeCtr := rfl
@[simp] theorem State.mapSlots_sys (s : State) (f : Slot → Slot) : (s.mapSlots f).sys = s.sys := rfl
@[simp] theorem State.mapSlots_boot (s : State) (f : Slot → Slot) : (s.mapSlots f).boot = s.boot := rfl
@[simp] theorem State.mapSlots_img (s : State) (f : Slot → Slot) : (s.mapSlots f).img = s.img := rfl
@[simp] theorem State.mapSlots_sec (s : State) (f : Slot → Slot) : (s.mapSlots f).sec = s.sec := rfl
@[simp] theorem State.mapSlots_otp (s : State) (f : Slot → Slot) : (s.mapSlots f).otp = s.otp := rfl
@[simp] theorem State.mapSlots_mem (s : State) (f : Slot → Slot) : (s.mapSlots f).mem = s.mem := rfl
@[simp] theorem State.mapSlots_trst (s : State) (f : Slot → Slot) : (s.mapSlots f).trst = s.trst := rfl
@[simp] theorem State.mapSlots_dk (s : State) (f : Slot → Slot) : (s.mapSlots f).dk = s.dk := rfl
@[simp] theorem State.mapSlots_saf (s : State) (f : Slot → Slot) : (s.mapSlots f).saf = s.saf := rfl
@[simp] theorem State.mapSlots_le (s : State) (f : Slot → Slot) : (s.mapSlots f).le = s.le := rfl
@[simp] theorem State.mapSlots_cap (s : State) (f : Slot → Slot) : (s.mapSlots f).cap = s.cap := rfl
@[simp] theorem State.mapSlots_fab (s : State) (f : Slot → Slot) : (s.mapSlots f).fab = s.fab := rfl
@[simp] theorem State.mapSlots_aon (s : State) (f : Slot → Slot) : (s.mapSlots f).aon = s.aon := rfl
@[simp] theorem State.mapSlots_life (s : State) (f : Slot → Slot) : (s.mapSlots f).life = s.life := rfl
@[simp] theorem State.mapSlots_save (s : State) (f : Slot → Slot) : (s.mapSlots f).save = s.save := rfl
@[simp] theorem State.mapSlots_chest (s : State) (f : Slot → Slot) : (s.mapSlots f).chest = s.chest := rfl
@[simp] theorem State.mapSlots_clk (s : State) (f : Slot → Slot) : (s.mapSlots f).clk = s.clk := rfl
@[simp] theorem State.mapSlots_pmu (s : State) (f : Slot → Slot) : (s.mapSlots f).pmu = s.pmu := rfl
@[simp] theorem State.mapSlots_spm (s : State) (f : Slot → Slot) : (s.mapSlots f).spm = s.spm := rfl
@[simp] theorem State.mapSlots_hl (s : State) (f : Slot → Slot) : (s.mapSlots f).hl = s.hl := rfl
@[simp] theorem State.mapSlots_cab (s : State) (f : Slot → Slot) : (s.mapSlots f).cab = s.cab := rfl
@[simp] theorem State.mapSlots_fio (s : State) (f : Slot → Slot) : (s.mapSlots f).fio = s.fio := rfl
@[simp] theorem State.mapSlots_fan (s : State) (f : Slot → Slot) : (s.mapSlots f).fan = s.fan := rfl
@[simp] theorem State.mapSlots_ain (s : State) (f : Slot → Slot) : (s.mapSlots f).ain = s.ain := rfl
@[simp] theorem State.mapSlots_enc (s : State) (f : Slot → Slot) : (s.mapSlots f).enc = s.enc := rfl
@[simp] theorem State.mapSlots_gpio (s : State) (f : Slot → Slot) : (s.mapSlots f).gpio = s.gpio := rfl
@[simp] theorem State.mapSlots_ser (s : State) (f : Slot → Slot) : (s.mapSlots f).ser = s.ser := rfl
@[simp] theorem State.mapSlots_net (s : State) (f : Slot → Slot) : (s.mapSlots f).net = s.net := rfl
@[simp] theorem State.mapSlots_can (s : State) (f : Slot → Slot) : (s.mapSlots f).can = s.can := rfl
@[simp] theorem State.mapSlots_flash (s : State) (f : Slot → Slot) : (s.mapSlots f).flash = s.flash := rfl

/-! ### modPort -/

@[simp] theorem State.modPort_pending (s : State) (p : Fin 4) (f : Port → Port) : (s.modPort p f).pending = s.pending := rfl
@[simp] theorem State.modPort_now (s : State) (p : Fin 4) (f : Port → Port) : (s.modPort p f).now = s.now := rfl
@[simp] theorem State.modPort_freeCtr (s : State) (p : Fin 4) (f : Port → Port) : (s.modPort p f).freeCtr = s.freeCtr := rfl
@[simp] theorem State.modPort_sys (s : State) (p : Fin 4) (f : Port → Port) : (s.modPort p f).sys = s.sys := rfl
@[simp] theorem State.modPort_boot (s : State) (p : Fin 4) (f : Port → Port) : (s.modPort p f).boot = s.boot := rfl
@[simp] theorem State.modPort_img (s : State) (p : Fin 4) (f : Port → Port) : (s.modPort p f).img = s.img := rfl
@[simp] theorem State.modPort_sec (s : State) (p : Fin 4) (f : Port → Port) : (s.modPort p f).sec = s.sec := rfl
@[simp] theorem State.modPort_otp (s : State) (p : Fin 4) (f : Port → Port) : (s.modPort p f).otp = s.otp := rfl
@[simp] theorem State.modPort_mem (s : State) (p : Fin 4) (f : Port → Port) : (s.modPort p f).mem = s.mem := rfl
@[simp] theorem State.modPort_trst (s : State) (p : Fin 4) (f : Port → Port) : (s.modPort p f).trst = s.trst := rfl
@[simp] theorem State.modPort_dk (s : State) (p : Fin 4) (f : Port → Port) : (s.modPort p f).dk = s.dk := rfl
@[simp] theorem State.modPort_saf (s : State) (p : Fin 4) (f : Port → Port) : (s.modPort p f).saf = s.saf := rfl
@[simp] theorem State.modPort_le (s : State) (p : Fin 4) (f : Port → Port) : (s.modPort p f).le = s.le := rfl
@[simp] theorem State.modPort_cap (s : State) (p : Fin 4) (f : Port → Port) : (s.modPort p f).cap = s.cap := rfl
@[simp] theorem State.modPort_fab (s : State) (p : Fin 4) (f : Port → Port) : (s.modPort p f).fab = s.fab := rfl
@[simp] theorem State.modPort_aon (s : State) (p : Fin 4) (f : Port → Port) : (s.modPort p f).aon = s.aon := rfl
@[simp] theorem State.modPort_life (s : State) (p : Fin 4) (f : Port → Port) : (s.modPort p f).life = s.life := rfl
@[simp] theorem State.modPort_save (s : State) (p : Fin 4) (f : Port → Port) : (s.modPort p f).save = s.save := rfl
@[simp] theorem State.modPort_chest (s : State) (p : Fin 4) (f : Port → Port) : (s.modPort p f).chest = s.chest := rfl
@[simp] theorem State.modPort_clk (s : State) (p : Fin 4) (f : Port → Port) : (s.modPort p f).clk = s.clk := rfl
@[simp] theorem State.modPort_pmu (s : State) (p : Fin 4) (f : Port → Port) : (s.modPort p f).pmu = s.pmu := rfl
@[simp] theorem State.modPort_spm (s : State) (p : Fin 4) (f : Port → Port) : (s.modPort p f).spm = s.spm := rfl
@[simp] theorem State.modPort_hl (s : State) (p : Fin 4) (f : Port → Port) : (s.modPort p f).hl = s.hl := rfl
@[simp] theorem State.modPort_cab (s : State) (p : Fin 4) (f : Port → Port) : (s.modPort p f).cab = s.cab := rfl
@[simp] theorem State.modPort_fio (s : State) (p : Fin 4) (f : Port → Port) : (s.modPort p f).fio = s.fio := rfl
@[simp] theorem State.modPort_fan (s : State) (p : Fin 4) (f : Port → Port) : (s.modPort p f).fan = s.fan := rfl
@[simp] theorem State.modPort_ain (s : State) (p : Fin 4) (f : Port → Port) : (s.modPort p f).ain = s.ain := rfl
@[simp] theorem State.modPort_enc (s : State) (p : Fin 4) (f : Port → Port) : (s.modPort p f).enc = s.enc := rfl
@[simp] theorem State.modPort_gpio (s : State) (p : Fin 4) (f : Port → Port) : (s.modPort p f).gpio = s.gpio := rfl
@[simp] theorem State.modPort_ser (s : State) (p : Fin 4) (f : Port → Port) : (s.modPort p f).ser = s.ser := rfl
@[simp] theorem State.modPort_net (s : State) (p : Fin 4) (f : Port → Port) : (s.modPort p f).net = s.net := rfl
@[simp] theorem State.modPort_can (s : State) (p : Fin 4) (f : Port → Port) : (s.modPort p f).can = s.can := rfl
@[simp] theorem State.modPort_flash (s : State) (p : Fin 4) (f : Port → Port) : (s.modPort p f).flash = s.flash := rfl

/-! ### modAxis -/

@[simp] theorem State.modAxis_pending (s : State) (n : Fin 4) (f : Axis → Axis) : (s.modAxis n f).pending = s.pending := rfl
@[simp] theorem State.modAxis_now (s : State) (n : Fin 4) (f : Axis → Axis) : (s.modAxis n f).now = s.now := rfl
@[simp] theorem State.modAxis_freeCtr (s : State) (n : Fin 4) (f : Axis → Axis) : (s.modAxis n f).freeCtr = s.freeCtr := rfl
@[simp] theorem State.modAxis_sys (s : State) (n : Fin 4) (f : Axis → Axis) : (s.modAxis n f).sys = s.sys := rfl
@[simp] theorem State.modAxis_boot (s : State) (n : Fin 4) (f : Axis → Axis) : (s.modAxis n f).boot = s.boot := rfl
@[simp] theorem State.modAxis_img (s : State) (n : Fin 4) (f : Axis → Axis) : (s.modAxis n f).img = s.img := rfl
@[simp] theorem State.modAxis_sec (s : State) (n : Fin 4) (f : Axis → Axis) : (s.modAxis n f).sec = s.sec := rfl
@[simp] theorem State.modAxis_otp (s : State) (n : Fin 4) (f : Axis → Axis) : (s.modAxis n f).otp = s.otp := rfl
@[simp] theorem State.modAxis_mem (s : State) (n : Fin 4) (f : Axis → Axis) : (s.modAxis n f).mem = s.mem := rfl
@[simp] theorem State.modAxis_trst (s : State) (n : Fin 4) (f : Axis → Axis) : (s.modAxis n f).trst = s.trst := rfl
@[simp] theorem State.modAxis_dk (s : State) (n : Fin 4) (f : Axis → Axis) : (s.modAxis n f).dk = s.dk := rfl
@[simp] theorem State.modAxis_chn (s : State) (n : Fin 4) (f : Axis → Axis) : (s.modAxis n f).chn = s.chn := rfl
@[simp] theorem State.modAxis_le (s : State) (n : Fin 4) (f : Axis → Axis) : (s.modAxis n f).le = s.le := rfl
@[simp] theorem State.modAxis_cap (s : State) (n : Fin 4) (f : Axis → Axis) : (s.modAxis n f).cap = s.cap := rfl
@[simp] theorem State.modAxis_fab (s : State) (n : Fin 4) (f : Axis → Axis) : (s.modAxis n f).fab = s.fab := rfl
@[simp] theorem State.modAxis_aon (s : State) (n : Fin 4) (f : Axis → Axis) : (s.modAxis n f).aon = s.aon := rfl
@[simp] theorem State.modAxis_life (s : State) (n : Fin 4) (f : Axis → Axis) : (s.modAxis n f).life = s.life := rfl
@[simp] theorem State.modAxis_save (s : State) (n : Fin 4) (f : Axis → Axis) : (s.modAxis n f).save = s.save := rfl
@[simp] theorem State.modAxis_chest (s : State) (n : Fin 4) (f : Axis → Axis) : (s.modAxis n f).chest = s.chest := rfl
@[simp] theorem State.modAxis_clk (s : State) (n : Fin 4) (f : Axis → Axis) : (s.modAxis n f).clk = s.clk := rfl
@[simp] theorem State.modAxis_pmu (s : State) (n : Fin 4) (f : Axis → Axis) : (s.modAxis n f).pmu = s.pmu := rfl
@[simp] theorem State.modAxis_spm (s : State) (n : Fin 4) (f : Axis → Axis) : (s.modAxis n f).spm = s.spm := rfl
@[simp] theorem State.modAxis_hl (s : State) (n : Fin 4) (f : Axis → Axis) : (s.modAxis n f).hl = s.hl := rfl
@[simp] theorem State.modAxis_cab (s : State) (n : Fin 4) (f : Axis → Axis) : (s.modAxis n f).cab = s.cab := rfl
@[simp] theorem State.modAxis_fio (s : State) (n : Fin 4) (f : Axis → Axis) : (s.modAxis n f).fio = s.fio := rfl
@[simp] theorem State.modAxis_fan (s : State) (n : Fin 4) (f : Axis → Axis) : (s.modAxis n f).fan = s.fan := rfl
@[simp] theorem State.modAxis_ain (s : State) (n : Fin 4) (f : Axis → Axis) : (s.modAxis n f).ain = s.ain := rfl
@[simp] theorem State.modAxis_enc (s : State) (n : Fin 4) (f : Axis → Axis) : (s.modAxis n f).enc = s.enc := rfl
@[simp] theorem State.modAxis_gpio (s : State) (n : Fin 4) (f : Axis → Axis) : (s.modAxis n f).gpio = s.gpio := rfl
@[simp] theorem State.modAxis_ser (s : State) (n : Fin 4) (f : Axis → Axis) : (s.modAxis n f).ser = s.ser := rfl
@[simp] theorem State.modAxis_net (s : State) (n : Fin 4) (f : Axis → Axis) : (s.modAxis n f).net = s.net := rfl
@[simp] theorem State.modAxis_can (s : State) (n : Fin 4) (f : Axis → Axis) : (s.modAxis n f).can = s.can := rfl
@[simp] theorem State.modAxis_flash (s : State) (n : Fin 4) (f : Axis → Axis) : (s.modAxis n f).flash = s.flash := rfl

/-! ### modTag -/

@[simp] theorem State.modTag_pending (s : State) (p : Fin 2) (f : TagPort → TagPort) : (s.modTag p f).pending = s.pending := rfl
@[simp] theorem State.modTag_now (s : State) (p : Fin 2) (f : TagPort → TagPort) : (s.modTag p f).now = s.now := rfl
@[simp] theorem State.modTag_freeCtr (s : State) (p : Fin 2) (f : TagPort → TagPort) : (s.modTag p f).freeCtr = s.freeCtr := rfl
@[simp] theorem State.modTag_sys (s : State) (p : Fin 2) (f : TagPort → TagPort) : (s.modTag p f).sys = s.sys := rfl
@[simp] theorem State.modTag_boot (s : State) (p : Fin 2) (f : TagPort → TagPort) : (s.modTag p f).boot = s.boot := rfl
@[simp] theorem State.modTag_img (s : State) (p : Fin 2) (f : TagPort → TagPort) : (s.modTag p f).img = s.img := rfl
@[simp] theorem State.modTag_sec (s : State) (p : Fin 2) (f : TagPort → TagPort) : (s.modTag p f).sec = s.sec := rfl
@[simp] theorem State.modTag_otp (s : State) (p : Fin 2) (f : TagPort → TagPort) : (s.modTag p f).otp = s.otp := rfl
@[simp] theorem State.modTag_mem (s : State) (p : Fin 2) (f : TagPort → TagPort) : (s.modTag p f).mem = s.mem := rfl
@[simp] theorem State.modTag_trst (s : State) (p : Fin 2) (f : TagPort → TagPort) : (s.modTag p f).trst = s.trst := rfl
@[simp] theorem State.modTag_dk (s : State) (p : Fin 2) (f : TagPort → TagPort) : (s.modTag p f).dk = s.dk := rfl
@[simp] theorem State.modTag_saf (s : State) (p : Fin 2) (f : TagPort → TagPort) : (s.modTag p f).saf = s.saf := rfl
@[simp] theorem State.modTag_chn (s : State) (p : Fin 2) (f : TagPort → TagPort) : (s.modTag p f).chn = s.chn := rfl
@[simp] theorem State.modTag_le (s : State) (p : Fin 2) (f : TagPort → TagPort) : (s.modTag p f).le = s.le := rfl
@[simp] theorem State.modTag_cap (s : State) (p : Fin 2) (f : TagPort → TagPort) : (s.modTag p f).cap = s.cap := rfl
@[simp] theorem State.modTag_fab (s : State) (p : Fin 2) (f : TagPort → TagPort) : (s.modTag p f).fab = s.fab := rfl
@[simp] theorem State.modTag_aon (s : State) (p : Fin 2) (f : TagPort → TagPort) : (s.modTag p f).aon = s.aon := rfl
@[simp] theorem State.modTag_life (s : State) (p : Fin 2) (f : TagPort → TagPort) : (s.modTag p f).life = s.life := rfl
@[simp] theorem State.modTag_save (s : State) (p : Fin 2) (f : TagPort → TagPort) : (s.modTag p f).save = s.save := rfl
@[simp] theorem State.modTag_clk (s : State) (p : Fin 2) (f : TagPort → TagPort) : (s.modTag p f).clk = s.clk := rfl
@[simp] theorem State.modTag_pmu (s : State) (p : Fin 2) (f : TagPort → TagPort) : (s.modTag p f).pmu = s.pmu := rfl
@[simp] theorem State.modTag_spm (s : State) (p : Fin 2) (f : TagPort → TagPort) : (s.modTag p f).spm = s.spm := rfl
@[simp] theorem State.modTag_hl (s : State) (p : Fin 2) (f : TagPort → TagPort) : (s.modTag p f).hl = s.hl := rfl
@[simp] theorem State.modTag_cab (s : State) (p : Fin 2) (f : TagPort → TagPort) : (s.modTag p f).cab = s.cab := rfl
@[simp] theorem State.modTag_fio (s : State) (p : Fin 2) (f : TagPort → TagPort) : (s.modTag p f).fio = s.fio := rfl
@[simp] theorem State.modTag_fan (s : State) (p : Fin 2) (f : TagPort → TagPort) : (s.modTag p f).fan = s.fan := rfl
@[simp] theorem State.modTag_ain (s : State) (p : Fin 2) (f : TagPort → TagPort) : (s.modTag p f).ain = s.ain := rfl
@[simp] theorem State.modTag_enc (s : State) (p : Fin 2) (f : TagPort → TagPort) : (s.modTag p f).enc = s.enc := rfl
@[simp] theorem State.modTag_gpio (s : State) (p : Fin 2) (f : TagPort → TagPort) : (s.modTag p f).gpio = s.gpio := rfl
@[simp] theorem State.modTag_ser (s : State) (p : Fin 2) (f : TagPort → TagPort) : (s.modTag p f).ser = s.ser := rfl
@[simp] theorem State.modTag_net (s : State) (p : Fin 2) (f : TagPort → TagPort) : (s.modTag p f).net = s.net := rfl
@[simp] theorem State.modTag_can (s : State) (p : Fin 2) (f : TagPort → TagPort) : (s.modTag p f).can = s.can := rfl
@[simp] theorem State.modTag_flash (s : State) (p : Fin 2) (f : TagPort → TagPort) : (s.modTag p f).flash = s.flash := rfl

/-! ### modEth -/

@[simp] theorem State.modEth_pending (s : State) (p : Fin 2) (f : EthPort → EthPort) : (s.modEth p f).pending = s.pending := rfl
@[simp] theorem State.modEth_now (s : State) (p : Fin 2) (f : EthPort → EthPort) : (s.modEth p f).now = s.now := rfl
@[simp] theorem State.modEth_freeCtr (s : State) (p : Fin 2) (f : EthPort → EthPort) : (s.modEth p f).freeCtr = s.freeCtr := rfl
@[simp] theorem State.modEth_sys (s : State) (p : Fin 2) (f : EthPort → EthPort) : (s.modEth p f).sys = s.sys := rfl
@[simp] theorem State.modEth_boot (s : State) (p : Fin 2) (f : EthPort → EthPort) : (s.modEth p f).boot = s.boot := rfl
@[simp] theorem State.modEth_img (s : State) (p : Fin 2) (f : EthPort → EthPort) : (s.modEth p f).img = s.img := rfl
@[simp] theorem State.modEth_sec (s : State) (p : Fin 2) (f : EthPort → EthPort) : (s.modEth p f).sec = s.sec := rfl
@[simp] theorem State.modEth_otp (s : State) (p : Fin 2) (f : EthPort → EthPort) : (s.modEth p f).otp = s.otp := rfl
@[simp] theorem State.modEth_mem (s : State) (p : Fin 2) (f : EthPort → EthPort) : (s.modEth p f).mem = s.mem := rfl
@[simp] theorem State.modEth_trst (s : State) (p : Fin 2) (f : EthPort → EthPort) : (s.modEth p f).trst = s.trst := rfl
@[simp] theorem State.modEth_dk (s : State) (p : Fin 2) (f : EthPort → EthPort) : (s.modEth p f).dk = s.dk := rfl
@[simp] theorem State.modEth_saf (s : State) (p : Fin 2) (f : EthPort → EthPort) : (s.modEth p f).saf = s.saf := rfl
@[simp] theorem State.modEth_chn (s : State) (p : Fin 2) (f : EthPort → EthPort) : (s.modEth p f).chn = s.chn := rfl
@[simp] theorem State.modEth_le (s : State) (p : Fin 2) (f : EthPort → EthPort) : (s.modEth p f).le = s.le := rfl
@[simp] theorem State.modEth_cap (s : State) (p : Fin 2) (f : EthPort → EthPort) : (s.modEth p f).cap = s.cap := rfl
@[simp] theorem State.modEth_fab (s : State) (p : Fin 2) (f : EthPort → EthPort) : (s.modEth p f).fab = s.fab := rfl
@[simp] theorem State.modEth_aon (s : State) (p : Fin 2) (f : EthPort → EthPort) : (s.modEth p f).aon = s.aon := rfl
@[simp] theorem State.modEth_life (s : State) (p : Fin 2) (f : EthPort → EthPort) : (s.modEth p f).life = s.life := rfl
@[simp] theorem State.modEth_save (s : State) (p : Fin 2) (f : EthPort → EthPort) : (s.modEth p f).save = s.save := rfl
@[simp] theorem State.modEth_chest (s : State) (p : Fin 2) (f : EthPort → EthPort) : (s.modEth p f).chest = s.chest := rfl
@[simp] theorem State.modEth_clk (s : State) (p : Fin 2) (f : EthPort → EthPort) : (s.modEth p f).clk = s.clk := rfl
@[simp] theorem State.modEth_pmu (s : State) (p : Fin 2) (f : EthPort → EthPort) : (s.modEth p f).pmu = s.pmu := rfl
@[simp] theorem State.modEth_spm (s : State) (p : Fin 2) (f : EthPort → EthPort) : (s.modEth p f).spm = s.spm := rfl
@[simp] theorem State.modEth_hl (s : State) (p : Fin 2) (f : EthPort → EthPort) : (s.modEth p f).hl = s.hl := rfl
@[simp] theorem State.modEth_cab (s : State) (p : Fin 2) (f : EthPort → EthPort) : (s.modEth p f).cab = s.cab := rfl
@[simp] theorem State.modEth_fio (s : State) (p : Fin 2) (f : EthPort → EthPort) : (s.modEth p f).fio = s.fio := rfl
@[simp] theorem State.modEth_fan (s : State) (p : Fin 2) (f : EthPort → EthPort) : (s.modEth p f).fan = s.fan := rfl
@[simp] theorem State.modEth_ain (s : State) (p : Fin 2) (f : EthPort → EthPort) : (s.modEth p f).ain = s.ain := rfl
@[simp] theorem State.modEth_enc (s : State) (p : Fin 2) (f : EthPort → EthPort) : (s.modEth p f).enc = s.enc := rfl
@[simp] theorem State.modEth_gpio (s : State) (p : Fin 2) (f : EthPort → EthPort) : (s.modEth p f).gpio = s.gpio := rfl
@[simp] theorem State.modEth_ser (s : State) (p : Fin 2) (f : EthPort → EthPort) : (s.modEth p f).ser = s.ser := rfl
@[simp] theorem State.modEth_can (s : State) (p : Fin 2) (f : EthPort → EthPort) : (s.modEth p f).can = s.can := rfl
@[simp] theorem State.modEth_flash (s : State) (p : Fin 2) (f : EthPort → EthPort) : (s.modEth p f).flash = s.flash := rfl

/-! ### modSess -/

@[simp] theorem State.modSess_pending (s : State) (n : Nat) (f : Session → Session) : (s.modSess n f).pending = s.pending := rfl
@[simp] theorem State.modSess_now (s : State) (n : Nat) (f : Session → Session) : (s.modSess n f).now = s.now := rfl
@[simp] theorem State.modSess_freeCtr (s : State) (n : Nat) (f : Session → Session) : (s.modSess n f).freeCtr = s.freeCtr := rfl
@[simp] theorem State.modSess_sys (s : State) (n : Nat) (f : Session → Session) : (s.modSess n f).sys = s.sys := rfl
@[simp] theorem State.modSess_boot (s : State) (n : Nat) (f : Session → Session) : (s.modSess n f).boot = s.boot := rfl
@[simp] theorem State.modSess_img (s : State) (n : Nat) (f : Session → Session) : (s.modSess n f).img = s.img := rfl
@[simp] theorem State.modSess_sec (s : State) (n : Nat) (f : Session → Session) : (s.modSess n f).sec = s.sec := rfl
@[simp] theorem State.modSess_otp (s : State) (n : Nat) (f : Session → Session) : (s.modSess n f).otp = s.otp := rfl
@[simp] theorem State.modSess_mem (s : State) (n : Nat) (f : Session → Session) : (s.modSess n f).mem = s.mem := rfl
@[simp] theorem State.modSess_trst (s : State) (n : Nat) (f : Session → Session) : (s.modSess n f).trst = s.trst := rfl
@[simp] theorem State.modSess_dk (s : State) (n : Nat) (f : Session → Session) : (s.modSess n f).dk = s.dk := rfl
@[simp] theorem State.modSess_saf (s : State) (n : Nat) (f : Session → Session) : (s.modSess n f).saf = s.saf := rfl
@[simp] theorem State.modSess_chn (s : State) (n : Nat) (f : Session → Session) : (s.modSess n f).chn = s.chn := rfl
@[simp] theorem State.modSess_le (s : State) (n : Nat) (f : Session → Session) : (s.modSess n f).le = s.le := rfl
@[simp] theorem State.modSess_cap (s : State) (n : Nat) (f : Session → Session) : (s.modSess n f).cap = s.cap := rfl
@[simp] theorem State.modSess_fab (s : State) (n : Nat) (f : Session → Session) : (s.modSess n f).fab = s.fab := rfl
@[simp] theorem State.modSess_aon (s : State) (n : Nat) (f : Session → Session) : (s.modSess n f).aon = s.aon := rfl
@[simp] theorem State.modSess_life (s : State) (n : Nat) (f : Session → Session) : (s.modSess n f).life = s.life := rfl
@[simp] theorem State.modSess_save (s : State) (n : Nat) (f : Session → Session) : (s.modSess n f).save = s.save := rfl
@[simp] theorem State.modSess_chest (s : State) (n : Nat) (f : Session → Session) : (s.modSess n f).chest = s.chest := rfl
@[simp] theorem State.modSess_clk (s : State) (n : Nat) (f : Session → Session) : (s.modSess n f).clk = s.clk := rfl
@[simp] theorem State.modSess_pmu (s : State) (n : Nat) (f : Session → Session) : (s.modSess n f).pmu = s.pmu := rfl
@[simp] theorem State.modSess_spm (s : State) (n : Nat) (f : Session → Session) : (s.modSess n f).spm = s.spm := rfl
@[simp] theorem State.modSess_hl (s : State) (n : Nat) (f : Session → Session) : (s.modSess n f).hl = s.hl := rfl
@[simp] theorem State.modSess_cab (s : State) (n : Nat) (f : Session → Session) : (s.modSess n f).cab = s.cab := rfl
@[simp] theorem State.modSess_fio (s : State) (n : Nat) (f : Session → Session) : (s.modSess n f).fio = s.fio := rfl
@[simp] theorem State.modSess_fan (s : State) (n : Nat) (f : Session → Session) : (s.modSess n f).fan = s.fan := rfl
@[simp] theorem State.modSess_ain (s : State) (n : Nat) (f : Session → Session) : (s.modSess n f).ain = s.ain := rfl
@[simp] theorem State.modSess_enc (s : State) (n : Nat) (f : Session → Session) : (s.modSess n f).enc = s.enc := rfl
@[simp] theorem State.modSess_gpio (s : State) (n : Nat) (f : Session → Session) : (s.modSess n f).gpio = s.gpio := rfl
@[simp] theorem State.modSess_ser (s : State) (n : Nat) (f : Session → Session) : (s.modSess n f).ser = s.ser := rfl
@[simp] theorem State.modSess_can (s : State) (n : Nat) (f : Session → Session) : (s.modSess n f).can = s.can := rfl
@[simp] theorem State.modSess_flash (s : State) (n : Nat) (f : Session → Session) : (s.modSess n f).flash = s.flash := rfl

/-! ### modCan -/

@[simp] theorem State.modCan_pending (s : State) (n : Fin 2) (f : CanCtl → CanCtl) : (s.modCan n f).pending = s.pending := rfl
@[simp] theorem State.modCan_now (s : State) (n : Fin 2) (f : CanCtl → CanCtl) : (s.modCan n f).now = s.now := rfl
@[simp] theorem State.modCan_freeCtr (s : State) (n : Fin 2) (f : CanCtl → CanCtl) : (s.modCan n f).freeCtr = s.freeCtr := rfl
@[simp] theorem State.modCan_sys (s : State) (n : Fin 2) (f : CanCtl → CanCtl) : (s.modCan n f).sys = s.sys := rfl
@[simp] theorem State.modCan_boot (s : State) (n : Fin 2) (f : CanCtl → CanCtl) : (s.modCan n f).boot = s.boot := rfl
@[simp] theorem State.modCan_img (s : State) (n : Fin 2) (f : CanCtl → CanCtl) : (s.modCan n f).img = s.img := rfl
@[simp] theorem State.modCan_sec (s : State) (n : Fin 2) (f : CanCtl → CanCtl) : (s.modCan n f).sec = s.sec := rfl
@[simp] theorem State.modCan_otp (s : State) (n : Fin 2) (f : CanCtl → CanCtl) : (s.modCan n f).otp = s.otp := rfl
@[simp] theorem State.modCan_mem (s : State) (n : Fin 2) (f : CanCtl → CanCtl) : (s.modCan n f).mem = s.mem := rfl
@[simp] theorem State.modCan_trst (s : State) (n : Fin 2) (f : CanCtl → CanCtl) : (s.modCan n f).trst = s.trst := rfl
@[simp] theorem State.modCan_dk (s : State) (n : Fin 2) (f : CanCtl → CanCtl) : (s.modCan n f).dk = s.dk := rfl
@[simp] theorem State.modCan_saf (s : State) (n : Fin 2) (f : CanCtl → CanCtl) : (s.modCan n f).saf = s.saf := rfl
@[simp] theorem State.modCan_chn (s : State) (n : Fin 2) (f : CanCtl → CanCtl) : (s.modCan n f).chn = s.chn := rfl
@[simp] theorem State.modCan_le (s : State) (n : Fin 2) (f : CanCtl → CanCtl) : (s.modCan n f).le = s.le := rfl
@[simp] theorem State.modCan_cap (s : State) (n : Fin 2) (f : CanCtl → CanCtl) : (s.modCan n f).cap = s.cap := rfl
@[simp] theorem State.modCan_fab (s : State) (n : Fin 2) (f : CanCtl → CanCtl) : (s.modCan n f).fab = s.fab := rfl
@[simp] theorem State.modCan_aon (s : State) (n : Fin 2) (f : CanCtl → CanCtl) : (s.modCan n f).aon = s.aon := rfl
@[simp] theorem State.modCan_life (s : State) (n : Fin 2) (f : CanCtl → CanCtl) : (s.modCan n f).life = s.life := rfl
@[simp] theorem State.modCan_save (s : State) (n : Fin 2) (f : CanCtl → CanCtl) : (s.modCan n f).save = s.save := rfl
@[simp] theorem State.modCan_chest (s : State) (n : Fin 2) (f : CanCtl → CanCtl) : (s.modCan n f).chest = s.chest := rfl
@[simp] theorem State.modCan_clk (s : State) (n : Fin 2) (f : CanCtl → CanCtl) : (s.modCan n f).clk = s.clk := rfl
@[simp] theorem State.modCan_pmu (s : State) (n : Fin 2) (f : CanCtl → CanCtl) : (s.modCan n f).pmu = s.pmu := rfl
@[simp] theorem State.modCan_spm (s : State) (n : Fin 2) (f : CanCtl → CanCtl) : (s.modCan n f).spm = s.spm := rfl
@[simp] theorem State.modCan_hl (s : State) (n : Fin 2) (f : CanCtl → CanCtl) : (s.modCan n f).hl = s.hl := rfl
@[simp] theorem State.modCan_cab (s : State) (n : Fin 2) (f : CanCtl → CanCtl) : (s.modCan n f).cab = s.cab := rfl
@[simp] theorem State.modCan_fio (s : State) (n : Fin 2) (f : CanCtl → CanCtl) : (s.modCan n f).fio = s.fio := rfl
@[simp] theorem State.modCan_fan (s : State) (n : Fin 2) (f : CanCtl → CanCtl) : (s.modCan n f).fan = s.fan := rfl
@[simp] theorem State.modCan_ain (s : State) (n : Fin 2) (f : CanCtl → CanCtl) : (s.modCan n f).ain = s.ain := rfl
@[simp] theorem State.modCan_enc (s : State) (n : Fin 2) (f : CanCtl → CanCtl) : (s.modCan n f).enc = s.enc := rfl
@[simp] theorem State.modCan_gpio (s : State) (n : Fin 2) (f : CanCtl → CanCtl) : (s.modCan n f).gpio = s.gpio := rfl
@[simp] theorem State.modCan_ser (s : State) (n : Fin 2) (f : CanCtl → CanCtl) : (s.modCan n f).ser = s.ser := rfl
@[simp] theorem State.modCan_net (s : State) (n : Fin 2) (f : CanCtl → CanCtl) : (s.modCan n f).net = s.net := rfl
@[simp] theorem State.modCan_flash (s : State) (n : Fin 2) (f : CanCtl → CanCtl) : (s.modCan n f).flash = s.flash := rfl

/-! ### modPool -/

@[simp] theorem State.modPool_pending (s : State) (p : Fin 8) (f : Pool → Pool) : (s.modPool p f).pending = s.pending := rfl
@[simp] theorem State.modPool_now (s : State) (p : Fin 8) (f : Pool → Pool) : (s.modPool p f).now = s.now := rfl
@[simp] theorem State.modPool_freeCtr (s : State) (p : Fin 8) (f : Pool → Pool) : (s.modPool p f).freeCtr = s.freeCtr := rfl
@[simp] theorem State.modPool_sys (s : State) (p : Fin 8) (f : Pool → Pool) : (s.modPool p f).sys = s.sys := rfl
@[simp] theorem State.modPool_boot (s : State) (p : Fin 8) (f : Pool → Pool) : (s.modPool p f).boot = s.boot := rfl
@[simp] theorem State.modPool_img (s : State) (p : Fin 8) (f : Pool → Pool) : (s.modPool p f).img = s.img := rfl
@[simp] theorem State.modPool_sec (s : State) (p : Fin 8) (f : Pool → Pool) : (s.modPool p f).sec = s.sec := rfl
@[simp] theorem State.modPool_otp (s : State) (p : Fin 8) (f : Pool → Pool) : (s.modPool p f).otp = s.otp := rfl
@[simp] theorem State.modPool_mem (s : State) (p : Fin 8) (f : Pool → Pool) : (s.modPool p f).mem = s.mem := rfl
@[simp] theorem State.modPool_trst (s : State) (p : Fin 8) (f : Pool → Pool) : (s.modPool p f).trst = s.trst := rfl
@[simp] theorem State.modPool_dk (s : State) (p : Fin 8) (f : Pool → Pool) : (s.modPool p f).dk = s.dk := rfl
@[simp] theorem State.modPool_saf (s : State) (p : Fin 8) (f : Pool → Pool) : (s.modPool p f).saf = s.saf := rfl
@[simp] theorem State.modPool_chn (s : State) (p : Fin 8) (f : Pool → Pool) : (s.modPool p f).chn = s.chn := rfl
@[simp] theorem State.modPool_le (s : State) (p : Fin 8) (f : Pool → Pool) : (s.modPool p f).le = s.le := rfl
@[simp] theorem State.modPool_cap (s : State) (p : Fin 8) (f : Pool → Pool) : (s.modPool p f).cap = s.cap := rfl
@[simp] theorem State.modPool_aon (s : State) (p : Fin 8) (f : Pool → Pool) : (s.modPool p f).aon = s.aon := rfl
@[simp] theorem State.modPool_life (s : State) (p : Fin 8) (f : Pool → Pool) : (s.modPool p f).life = s.life := rfl
@[simp] theorem State.modPool_save (s : State) (p : Fin 8) (f : Pool → Pool) : (s.modPool p f).save = s.save := rfl
@[simp] theorem State.modPool_chest (s : State) (p : Fin 8) (f : Pool → Pool) : (s.modPool p f).chest = s.chest := rfl
@[simp] theorem State.modPool_clk (s : State) (p : Fin 8) (f : Pool → Pool) : (s.modPool p f).clk = s.clk := rfl
@[simp] theorem State.modPool_pmu (s : State) (p : Fin 8) (f : Pool → Pool) : (s.modPool p f).pmu = s.pmu := rfl
@[simp] theorem State.modPool_spm (s : State) (p : Fin 8) (f : Pool → Pool) : (s.modPool p f).spm = s.spm := rfl
@[simp] theorem State.modPool_hl (s : State) (p : Fin 8) (f : Pool → Pool) : (s.modPool p f).hl = s.hl := rfl
@[simp] theorem State.modPool_cab (s : State) (p : Fin 8) (f : Pool → Pool) : (s.modPool p f).cab = s.cab := rfl
@[simp] theorem State.modPool_fio (s : State) (p : Fin 8) (f : Pool → Pool) : (s.modPool p f).fio = s.fio := rfl
@[simp] theorem State.modPool_fan (s : State) (p : Fin 8) (f : Pool → Pool) : (s.modPool p f).fan = s.fan := rfl
@[simp] theorem State.modPool_ain (s : State) (p : Fin 8) (f : Pool → Pool) : (s.modPool p f).ain = s.ain := rfl
@[simp] theorem State.modPool_enc (s : State) (p : Fin 8) (f : Pool → Pool) : (s.modPool p f).enc = s.enc := rfl
@[simp] theorem State.modPool_gpio (s : State) (p : Fin 8) (f : Pool → Pool) : (s.modPool p f).gpio = s.gpio := rfl
@[simp] theorem State.modPool_ser (s : State) (p : Fin 8) (f : Pool → Pool) : (s.modPool p f).ser = s.ser := rfl
@[simp] theorem State.modPool_net (s : State) (p : Fin 8) (f : Pool → Pool) : (s.modPool p f).net = s.net := rfl
@[simp] theorem State.modPool_can (s : State) (p : Fin 8) (f : Pool → Pool) : (s.modPool p f).can = s.can := rfl
@[simp] theorem State.modPool_flash (s : State) (p : Fin 8) (f : Pool → Pool) : (s.modPool p f).flash = s.flash := rfl

/-! ### modFo -/

@[simp] theorem State.modFo_pending (s : State) (n : Fin 32) (f : FoOut → FoOut) : (s.modFo n f).pending = s.pending := rfl
@[simp] theorem State.modFo_now (s : State) (n : Fin 32) (f : FoOut → FoOut) : (s.modFo n f).now = s.now := rfl
@[simp] theorem State.modFo_freeCtr (s : State) (n : Fin 32) (f : FoOut → FoOut) : (s.modFo n f).freeCtr = s.freeCtr := rfl
@[simp] theorem State.modFo_sys (s : State) (n : Fin 32) (f : FoOut → FoOut) : (s.modFo n f).sys = s.sys := rfl
@[simp] theorem State.modFo_boot (s : State) (n : Fin 32) (f : FoOut → FoOut) : (s.modFo n f).boot = s.boot := rfl
@[simp] theorem State.modFo_img (s : State) (n : Fin 32) (f : FoOut → FoOut) : (s.modFo n f).img = s.img := rfl
@[simp] theorem State.modFo_sec (s : State) (n : Fin 32) (f : FoOut → FoOut) : (s.modFo n f).sec = s.sec := rfl
@[simp] theorem State.modFo_otp (s : State) (n : Fin 32) (f : FoOut → FoOut) : (s.modFo n f).otp = s.otp := rfl
@[simp] theorem State.modFo_mem (s : State) (n : Fin 32) (f : FoOut → FoOut) : (s.modFo n f).mem = s.mem := rfl
@[simp] theorem State.modFo_trst (s : State) (n : Fin 32) (f : FoOut → FoOut) : (s.modFo n f).trst = s.trst := rfl
@[simp] theorem State.modFo_dk (s : State) (n : Fin 32) (f : FoOut → FoOut) : (s.modFo n f).dk = s.dk := rfl
@[simp] theorem State.modFo_saf (s : State) (n : Fin 32) (f : FoOut → FoOut) : (s.modFo n f).saf = s.saf := rfl
@[simp] theorem State.modFo_chn (s : State) (n : Fin 32) (f : FoOut → FoOut) : (s.modFo n f).chn = s.chn := rfl
@[simp] theorem State.modFo_le (s : State) (n : Fin 32) (f : FoOut → FoOut) : (s.modFo n f).le = s.le := rfl
@[simp] theorem State.modFo_cap (s : State) (n : Fin 32) (f : FoOut → FoOut) : (s.modFo n f).cap = s.cap := rfl
@[simp] theorem State.modFo_fab (s : State) (n : Fin 32) (f : FoOut → FoOut) : (s.modFo n f).fab = s.fab := rfl
@[simp] theorem State.modFo_aon (s : State) (n : Fin 32) (f : FoOut → FoOut) : (s.modFo n f).aon = s.aon := rfl
@[simp] theorem State.modFo_life (s : State) (n : Fin 32) (f : FoOut → FoOut) : (s.modFo n f).life = s.life := rfl
@[simp] theorem State.modFo_save (s : State) (n : Fin 32) (f : FoOut → FoOut) : (s.modFo n f).save = s.save := rfl
@[simp] theorem State.modFo_chest (s : State) (n : Fin 32) (f : FoOut → FoOut) : (s.modFo n f).chest = s.chest := rfl
@[simp] theorem State.modFo_clk (s : State) (n : Fin 32) (f : FoOut → FoOut) : (s.modFo n f).clk = s.clk := rfl
@[simp] theorem State.modFo_pmu (s : State) (n : Fin 32) (f : FoOut → FoOut) : (s.modFo n f).pmu = s.pmu := rfl
@[simp] theorem State.modFo_spm (s : State) (n : Fin 32) (f : FoOut → FoOut) : (s.modFo n f).spm = s.spm := rfl
@[simp] theorem State.modFo_hl (s : State) (n : Fin 32) (f : FoOut → FoOut) : (s.modFo n f).hl = s.hl := rfl
@[simp] theorem State.modFo_cab (s : State) (n : Fin 32) (f : FoOut → FoOut) : (s.modFo n f).cab = s.cab := rfl
@[simp] theorem State.modFo_fan (s : State) (n : Fin 32) (f : FoOut → FoOut) : (s.modFo n f).fan = s.fan := rfl
@[simp] theorem State.modFo_ain (s : State) (n : Fin 32) (f : FoOut → FoOut) : (s.modFo n f).ain = s.ain := rfl
@[simp] theorem State.modFo_enc (s : State) (n : Fin 32) (f : FoOut → FoOut) : (s.modFo n f).enc = s.enc := rfl
@[simp] theorem State.modFo_gpio (s : State) (n : Fin 32) (f : FoOut → FoOut) : (s.modFo n f).gpio = s.gpio := rfl
@[simp] theorem State.modFo_ser (s : State) (n : Fin 32) (f : FoOut → FoOut) : (s.modFo n f).ser = s.ser := rfl
@[simp] theorem State.modFo_net (s : State) (n : Fin 32) (f : FoOut → FoOut) : (s.modFo n f).net = s.net := rfl
@[simp] theorem State.modFo_can (s : State) (n : Fin 32) (f : FoOut → FoOut) : (s.modFo n f).can = s.can := rfl
@[simp] theorem State.modFo_flash (s : State) (n : Fin 32) (f : FoOut → FoOut) : (s.modFo n f).flash = s.flash := rfl

/-! ### modFan -/

@[simp] theorem State.modFan_pending (s : State) (n : Fin 8) (f : FanUnit → FanUnit) : (s.modFan n f).pending = s.pending := rfl
@[simp] theorem State.modFan_now (s : State) (n : Fin 8) (f : FanUnit → FanUnit) : (s.modFan n f).now = s.now := rfl
@[simp] theorem State.modFan_freeCtr (s : State) (n : Fin 8) (f : FanUnit → FanUnit) : (s.modFan n f).freeCtr = s.freeCtr := rfl
@[simp] theorem State.modFan_sys (s : State) (n : Fin 8) (f : FanUnit → FanUnit) : (s.modFan n f).sys = s.sys := rfl
@[simp] theorem State.modFan_boot (s : State) (n : Fin 8) (f : FanUnit → FanUnit) : (s.modFan n f).boot = s.boot := rfl
@[simp] theorem State.modFan_img (s : State) (n : Fin 8) (f : FanUnit → FanUnit) : (s.modFan n f).img = s.img := rfl
@[simp] theorem State.modFan_sec (s : State) (n : Fin 8) (f : FanUnit → FanUnit) : (s.modFan n f).sec = s.sec := rfl
@[simp] theorem State.modFan_otp (s : State) (n : Fin 8) (f : FanUnit → FanUnit) : (s.modFan n f).otp = s.otp := rfl
@[simp] theorem State.modFan_mem (s : State) (n : Fin 8) (f : FanUnit → FanUnit) : (s.modFan n f).mem = s.mem := rfl
@[simp] theorem State.modFan_trst (s : State) (n : Fin 8) (f : FanUnit → FanUnit) : (s.modFan n f).trst = s.trst := rfl
@[simp] theorem State.modFan_dk (s : State) (n : Fin 8) (f : FanUnit → FanUnit) : (s.modFan n f).dk = s.dk := rfl
@[simp] theorem State.modFan_saf (s : State) (n : Fin 8) (f : FanUnit → FanUnit) : (s.modFan n f).saf = s.saf := rfl
@[simp] theorem State.modFan_chn (s : State) (n : Fin 8) (f : FanUnit → FanUnit) : (s.modFan n f).chn = s.chn := rfl
@[simp] theorem State.modFan_le (s : State) (n : Fin 8) (f : FanUnit → FanUnit) : (s.modFan n f).le = s.le := rfl
@[simp] theorem State.modFan_cap (s : State) (n : Fin 8) (f : FanUnit → FanUnit) : (s.modFan n f).cap = s.cap := rfl
@[simp] theorem State.modFan_fab (s : State) (n : Fin 8) (f : FanUnit → FanUnit) : (s.modFan n f).fab = s.fab := rfl
@[simp] theorem State.modFan_aon (s : State) (n : Fin 8) (f : FanUnit → FanUnit) : (s.modFan n f).aon = s.aon := rfl
@[simp] theorem State.modFan_life (s : State) (n : Fin 8) (f : FanUnit → FanUnit) : (s.modFan n f).life = s.life := rfl
@[simp] theorem State.modFan_save (s : State) (n : Fin 8) (f : FanUnit → FanUnit) : (s.modFan n f).save = s.save := rfl
@[simp] theorem State.modFan_chest (s : State) (n : Fin 8) (f : FanUnit → FanUnit) : (s.modFan n f).chest = s.chest := rfl
@[simp] theorem State.modFan_clk (s : State) (n : Fin 8) (f : FanUnit → FanUnit) : (s.modFan n f).clk = s.clk := rfl
@[simp] theorem State.modFan_pmu (s : State) (n : Fin 8) (f : FanUnit → FanUnit) : (s.modFan n f).pmu = s.pmu := rfl
@[simp] theorem State.modFan_spm (s : State) (n : Fin 8) (f : FanUnit → FanUnit) : (s.modFan n f).spm = s.spm := rfl
@[simp] theorem State.modFan_hl (s : State) (n : Fin 8) (f : FanUnit → FanUnit) : (s.modFan n f).hl = s.hl := rfl
@[simp] theorem State.modFan_cab (s : State) (n : Fin 8) (f : FanUnit → FanUnit) : (s.modFan n f).cab = s.cab := rfl
@[simp] theorem State.modFan_fio (s : State) (n : Fin 8) (f : FanUnit → FanUnit) : (s.modFan n f).fio = s.fio := rfl
@[simp] theorem State.modFan_ain (s : State) (n : Fin 8) (f : FanUnit → FanUnit) : (s.modFan n f).ain = s.ain := rfl
@[simp] theorem State.modFan_enc (s : State) (n : Fin 8) (f : FanUnit → FanUnit) : (s.modFan n f).enc = s.enc := rfl
@[simp] theorem State.modFan_gpio (s : State) (n : Fin 8) (f : FanUnit → FanUnit) : (s.modFan n f).gpio = s.gpio := rfl
@[simp] theorem State.modFan_ser (s : State) (n : Fin 8) (f : FanUnit → FanUnit) : (s.modFan n f).ser = s.ser := rfl
@[simp] theorem State.modFan_net (s : State) (n : Fin 8) (f : FanUnit → FanUnit) : (s.modFan n f).net = s.net := rfl
@[simp] theorem State.modFan_can (s : State) (n : Fin 8) (f : FanUnit → FanUnit) : (s.modFan n f).can = s.can := rfl
@[simp] theorem State.modFan_flash (s : State) (n : Fin 8) (f : FanUnit → FanUnit) : (s.modFan n f).flash = s.flash := rfl

/-! ### modEnc -/

@[simp] theorem State.modEnc_pending (s : State) (p : Fin 4) (f : EncPort → EncPort) : (s.modEnc p f).pending = s.pending := rfl
@[simp] theorem State.modEnc_now (s : State) (p : Fin 4) (f : EncPort → EncPort) : (s.modEnc p f).now = s.now := rfl
@[simp] theorem State.modEnc_freeCtr (s : State) (p : Fin 4) (f : EncPort → EncPort) : (s.modEnc p f).freeCtr = s.freeCtr := rfl
@[simp] theorem State.modEnc_sys (s : State) (p : Fin 4) (f : EncPort → EncPort) : (s.modEnc p f).sys = s.sys := rfl
@[simp] theorem State.modEnc_boot (s : State) (p : Fin 4) (f : EncPort → EncPort) : (s.modEnc p f).boot = s.boot := rfl
@[simp] theorem State.modEnc_img (s : State) (p : Fin 4) (f : EncPort → EncPort) : (s.modEnc p f).img = s.img := rfl
@[simp] theorem State.modEnc_sec (s : State) (p : Fin 4) (f : EncPort → EncPort) : (s.modEnc p f).sec = s.sec := rfl
@[simp] theorem State.modEnc_otp (s : State) (p : Fin 4) (f : EncPort → EncPort) : (s.modEnc p f).otp = s.otp := rfl
@[simp] theorem State.modEnc_mem (s : State) (p : Fin 4) (f : EncPort → EncPort) : (s.modEnc p f).mem = s.mem := rfl
@[simp] theorem State.modEnc_trst (s : State) (p : Fin 4) (f : EncPort → EncPort) : (s.modEnc p f).trst = s.trst := rfl
@[simp] theorem State.modEnc_dk (s : State) (p : Fin 4) (f : EncPort → EncPort) : (s.modEnc p f).dk = s.dk := rfl
@[simp] theorem State.modEnc_saf (s : State) (p : Fin 4) (f : EncPort → EncPort) : (s.modEnc p f).saf = s.saf := rfl
@[simp] theorem State.modEnc_chn (s : State) (p : Fin 4) (f : EncPort → EncPort) : (s.modEnc p f).chn = s.chn := rfl
@[simp] theorem State.modEnc_le (s : State) (p : Fin 4) (f : EncPort → EncPort) : (s.modEnc p f).le = s.le := rfl
@[simp] theorem State.modEnc_cap (s : State) (p : Fin 4) (f : EncPort → EncPort) : (s.modEnc p f).cap = s.cap := rfl
@[simp] theorem State.modEnc_fab (s : State) (p : Fin 4) (f : EncPort → EncPort) : (s.modEnc p f).fab = s.fab := rfl
@[simp] theorem State.modEnc_aon (s : State) (p : Fin 4) (f : EncPort → EncPort) : (s.modEnc p f).aon = s.aon := rfl
@[simp] theorem State.modEnc_life (s : State) (p : Fin 4) (f : EncPort → EncPort) : (s.modEnc p f).life = s.life := rfl
@[simp] theorem State.modEnc_save (s : State) (p : Fin 4) (f : EncPort → EncPort) : (s.modEnc p f).save = s.save := rfl
@[simp] theorem State.modEnc_chest (s : State) (p : Fin 4) (f : EncPort → EncPort) : (s.modEnc p f).chest = s.chest := rfl
@[simp] theorem State.modEnc_clk (s : State) (p : Fin 4) (f : EncPort → EncPort) : (s.modEnc p f).clk = s.clk := rfl
@[simp] theorem State.modEnc_pmu (s : State) (p : Fin 4) (f : EncPort → EncPort) : (s.modEnc p f).pmu = s.pmu := rfl
@[simp] theorem State.modEnc_spm (s : State) (p : Fin 4) (f : EncPort → EncPort) : (s.modEnc p f).spm = s.spm := rfl
@[simp] theorem State.modEnc_hl (s : State) (p : Fin 4) (f : EncPort → EncPort) : (s.modEnc p f).hl = s.hl := rfl
@[simp] theorem State.modEnc_cab (s : State) (p : Fin 4) (f : EncPort → EncPort) : (s.modEnc p f).cab = s.cab := rfl
@[simp] theorem State.modEnc_fio (s : State) (p : Fin 4) (f : EncPort → EncPort) : (s.modEnc p f).fio = s.fio := rfl
@[simp] theorem State.modEnc_fan (s : State) (p : Fin 4) (f : EncPort → EncPort) : (s.modEnc p f).fan = s.fan := rfl
@[simp] theorem State.modEnc_ain (s : State) (p : Fin 4) (f : EncPort → EncPort) : (s.modEnc p f).ain = s.ain := rfl
@[simp] theorem State.modEnc_gpio (s : State) (p : Fin 4) (f : EncPort → EncPort) : (s.modEnc p f).gpio = s.gpio := rfl
@[simp] theorem State.modEnc_ser (s : State) (p : Fin 4) (f : EncPort → EncPort) : (s.modEnc p f).ser = s.ser := rfl
@[simp] theorem State.modEnc_net (s : State) (p : Fin 4) (f : EncPort → EncPort) : (s.modEnc p f).net = s.net := rfl
@[simp] theorem State.modEnc_can (s : State) (p : Fin 4) (f : EncPort → EncPort) : (s.modEnc p f).can = s.can := rfl
@[simp] theorem State.modEnc_flash (s : State) (p : Fin 4) (f : EncPort → EncPort) : (s.modEnc p f).flash = s.flash := rfl

/-! ### What they write -/

@[simp] theorem State.modSlot_chn_slots (s : State) (i : Fin 256) (f : Slot → Slot) : (s.modSlot i f).chn.slots = vmod s.chn.slots i f := rfl
@[simp] theorem State.mapSlots_chn_slots (s : State) (f : Slot → Slot) : (s.mapSlots f).chn.slots = s.chn.slots.map f := rfl
@[simp] theorem State.modSlot_chn_ports (s : State) (i : Fin 256) (f : Slot → Slot) : (s.modSlot i f).chn.ports = s.chn.ports := rfl
@[simp] theorem State.mapSlots_chn_ports (s : State) (f : Slot → Slot) : (s.mapSlots f).chn.ports = s.chn.ports := rfl
@[simp] theorem State.modPort_chn_ports (s : State) (p : Fin 4) (f : Port → Port) : (s.modPort p f).chn.ports = vmod s.chn.ports p f := rfl
@[simp] theorem State.modPort_chn_slots (s : State) (p : Fin 4) (f : Port → Port) : (s.modPort p f).chn.slots = s.chn.slots := rfl
@[simp] theorem State.modAxis_saf_ax (s : State) (n : Fin 4) (f : Axis → Axis) : (s.modAxis n f).saf.ax = vmod s.saf.ax n f := rfl
@[simp] theorem State.modAxis_saf_ka (s : State) (n : Fin 4) (f : Axis → Axis) : (s.modAxis n f).saf.ka = s.saf.ka := rfl
@[simp] theorem State.modAxis_saf_causes (s : State) (n : Fin 4) (f : Axis → Axis) : (s.modAxis n f).saf.causes = s.saf.causes := rfl
@[simp] theorem State.modTag_chest_port (s : State) (p : Fin 2) (f : TagPort → TagPort) : (s.modTag p f).chest.port = vmod s.chest.port p f := rfl
@[simp] theorem State.modEth_net_eth (s : State) (p : Fin 2) (f : EthPort → EthPort) : (s.modEth p f).net.eth = vmod s.net.eth p f := rfl
@[simp] theorem State.modEth_net_sess (s : State) (p : Fin 2) (f : EthPort → EthPort) : (s.modEth p f).net.sess = s.net.sess := rfl
@[simp] theorem State.modEth_net_hspTx (s : State) (p : Fin 2) (f : EthPort → EthPort) : (s.modEth p f).net.hspTx = s.net.hspTx := rfl
@[simp] theorem State.modSess_net_eth (s : State) (n : Nat) (f : Session → Session) : (s.modSess n f).net.eth = s.net.eth := rfl
@[simp] theorem State.modCan_can_ctl (s : State) (n : Fin 2) (f : CanCtl → CanCtl) : (s.modCan n f).can.ctl = vmod s.can.ctl n f := rfl
@[simp] theorem State.modPool_fab_pools (s : State) (p : Fin 8) (f : Pool → Pool) : (s.modPool p f).fab.pools = vmod s.fab.pools p f := rfl
@[simp] theorem State.modPool_fab_flight (s : State) (p : Fin 8) (f : Pool → Pool) : (s.modPool p f).fab.flight = s.fab.flight := rfl
@[simp] theorem State.modPool_fab_ret (s : State) (p : Fin 8) (f : Pool → Pool) : (s.modPool p f).fab.ret = s.fab.ret := rfl
@[simp] theorem State.modFo_fio_out (s : State) (n : Fin 32) (f : FoOut → FoOut) : (s.modFo n f).fio.out = vmod s.fio.out n f := rfl

/-- An element that vmod changes. -/
@[simp] theorem vmod_self {α : Type} {n : Nat} (v : Vector α n) (i : Fin n) (f : α → α) : (vmod v i f)[i] = f v[i] := by simp [vmod]

/-- An element that vmod leaves. -/
theorem vmod_other {α : Type} {n : Nat} (v : Vector α n) (i j : Fin n) (f : α → α) (h : i ≠ j) : (vmod v i f)[j] = v[j] := by
  simp only [vmod, Fin.getElem_fin]
  exact Vector.getElem_set_ne _ _ (fun e => h (Fin.ext e))

end Sys2Proof.Machine
end

