-- ==== Sys2Proof/Laws/Frames.lean ====
section
/-! SUPPORT. Laws/Frames.lean: the parts of the state that the shared operations of LOCKOUT and of the field outputs leave alone, one lemma
per part and operation. -/
namespace Sys2Proof.Machine
open Sys2Proof

theorem foldl_fields {α β : Type} (p : State → β) (l : List α) (f : State → α → State) (hf : ∀ s a, p (f s a) = p s) (s : State) :
    p (l.foldl f s) = p s := by
  induction l generalizing s with
  | nil => rfl
  | cons a l ih => rw [List.foldl_cons, ih, hf]

@[simp] theorem foRefresh_pending (n : Fin 32) (s : State) : (foRefresh n s).pending = s.pending := rfl
@[simp] theorem foRefresh_now (n : Fin 32) (s : State) : (foRefresh n s).now = s.now := rfl
@[simp] theorem foRefresh_freeCtr (n : Fin 32) (s : State) : (foRefresh n s).freeCtr = s.freeCtr := rfl
@[simp] theorem foRefresh_sys (n : Fin 32) (s : State) : (foRefresh n s).sys = s.sys := rfl
@[simp] theorem foRefresh_boot (n : Fin 32) (s : State) : (foRefresh n s).boot = s.boot := rfl
@[simp] theorem foRefresh_img (n : Fin 32) (s : State) : (foRefresh n s).img = s.img := rfl
@[simp] theorem foRefresh_sec (n : Fin 32) (s : State) : (foRefresh n s).sec = s.sec := rfl
@[simp] theorem foRefresh_otp (n : Fin 32) (s : State) : (foRefresh n s).otp = s.otp := rfl
@[simp] theorem foRefresh_mem (n : Fin 32) (s : State) : (foRefresh n s).mem = s.mem := rfl
@[simp] theorem foRefresh_trst (n : Fin 32) (s : State) : (foRefresh n s).trst = s.trst := rfl
@[simp] theorem foRefresh_dk (n : Fin 32) (s : State) : (foRefresh n s).dk = s.dk := rfl
@[simp] theorem foRefresh_saf (n : Fin 32) (s : State) : (foRefresh n s).saf = s.saf := rfl
@[simp] theorem foRefresh_chn (n : Fin 32) (s : State) : (foRefresh n s).chn = s.chn := rfl
@[simp] theorem foRefresh_le (n : Fin 32) (s : State) : (foRefresh n s).le = s.le := rfl
@[simp] theorem foRefresh_cap (n : Fin 32) (s : State) : (foRefresh n s).cap = s.cap := rfl
@[simp] theorem foRefresh_fab (n : Fin 32) (s : State) : (foRefresh n s).fab = s.fab := rfl
@[simp] theorem foRefresh_aon (n : Fin 32) (s : State) : (foRefresh n s).aon = s.aon := rfl
@[simp] theorem foRefresh_life (n : Fin 32) (s : State) : (foRefresh n s).life = s.life := rfl
@[simp] theorem foRefresh_save (n : Fin 32) (s : State) : (foRefresh n s).save = s.save := rfl
@[simp] theorem foRefresh_chest (n : Fin 32) (s : State) : (foRefresh n s).chest = s.chest := rfl
@[simp] theorem foRefresh_clk (n : Fin 32) (s : State) : (foRefresh n s).clk = s.clk := rfl
@[simp] theorem foRefresh_pmu (n : Fin 32) (s : State) : (foRefresh n s).pmu = s.pmu := rfl
@[simp] theorem foRefresh_spm (n : Fin 32) (s : State) : (foRefresh n s).spm = s.spm := rfl
@[simp] theorem foRefresh_hl (n : Fin 32) (s : State) : (foRefresh n s).hl = s.hl := rfl
@[simp] theorem foRefresh_cab (n : Fin 32) (s : State) : (foRefresh n s).cab = s.cab := rfl
@[simp] theorem foRefresh_fan (n : Fin 32) (s : State) : (foRefresh n s).fan = s.fan := rfl
@[simp] theorem foRefresh_ain (n : Fin 32) (s : State) : (foRefresh n s).ain = s.ain := rfl
@[simp] theorem foRefresh_enc (n : Fin 32) (s : State) : (foRefresh n s).enc = s.enc := rfl
@[simp] theorem foRefresh_gpio (n : Fin 32) (s : State) : (foRefresh n s).gpio = s.gpio := rfl
@[simp] theorem foRefresh_ser (n : Fin 32) (s : State) : (foRefresh n s).ser = s.ser := rfl
@[simp] theorem foRefresh_net (n : Fin 32) (s : State) : (foRefresh n s).net = s.net := rfl
@[simp] theorem foRefresh_can (n : Fin 32) (s : State) : (foRefresh n s).can = s.can := rfl
@[simp] theorem foRefresh_flash (n : Fin 32) (s : State) : (foRefresh n s).flash = s.flash := rfl

@[simp] theorem fanRefresh_pending (n : Fin 8) (s : State) : (fanRefresh n s).pending = s.pending := by
  unfold fanRefresh; dsimp only; split <;> (try split) <;> rfl
@[simp] theorem fanRefresh_now (n : Fin 8) (s : State) : (fanRefresh n s).now = s.now := by
  unfold fanRefresh; dsimp only; split <;> (try split) <;> rfl
@[simp] theorem fanRefresh_freeCtr (n : Fin 8) (s : State) : (fanRefresh n s).freeCtr = s.freeCtr := by
  unfold fanRefresh; dsimp only; split <;> (try split) <;> rfl
@[simp] theorem fanRefresh_sys (n : Fin 8) (s : State) : (fanRefresh n s).sys = s.sys := by
  unfold fanRefresh; dsimp only; split <;> (try split) <;> rfl
@[simp] theorem fanRefresh_boot (n : Fin 8) (s : State) : (fanRefresh n s).boot = s.boot := by
  unfold fanRefresh; dsimp only; split <;> (try split) <;> rfl
@[simp] theorem fanRefresh_img (n : Fin 8) (s : State) : (fanRefresh n s).img = s.img := by
  unfold fanRefresh; dsimp only; split <;> (try split) <;> rfl
@[simp] theorem fanRefresh_sec (n : Fin 8) (s : State) : (fanRefresh n s).sec = s.sec := by
  unfold fanRefresh; dsimp only; split <;> (try split) <;> rfl
@[simp] theorem fanRefresh_otp (n : Fin 8) (s : State) : (fanRefresh n s).otp = s.otp := by
  unfold fanRefresh; dsimp only; split <;> (try split) <;> rfl
@[simp] theorem fanRefresh_mem (n : Fin 8) (s : State) : (fanRefresh n s).mem = s.mem := by
  unfold fanRefresh; dsimp only; split <;> (try split) <;> rfl
@[simp] theorem fanRefresh_trst (n : Fin 8) (s : State) : (fanRefresh n s).trst = s.trst := by
  unfold fanRefresh; dsimp only; split <;> (try split) <;> rfl
@[simp] theorem fanRefresh_dk (n : Fin 8) (s : State) : (fanRefresh n s).dk = s.dk := by
  unfold fanRefresh; dsimp only; split <;> (try split) <;> rfl
@[simp] theorem fanRefresh_saf (n : Fin 8) (s : State) : (fanRefresh n s).saf = s.saf := by
  unfold fanRefresh; dsimp only; split <;> (try split) <;> rfl
@[simp] theorem fanRefresh_chn (n : Fin 8) (s : State) : (fanRefresh n s).chn = s.chn := by
  unfold fanRefresh; dsimp only; split <;> (try split) <;> rfl
@[simp] theorem fanRefresh_le (n : Fin 8) (s : State) : (fanRefresh n s).le = s.le := by
  unfold fanRefresh; dsimp only; split <;> (try split) <;> rfl
@[simp] theorem fanRefresh_cap (n : Fin 8) (s : State) : (fanRefresh n s).cap = s.cap := by
  unfold fanRefresh; dsimp only; split <;> (try split) <;> rfl
@[simp] theorem fanRefresh_fab (n : Fin 8) (s : State) : (fanRefresh n s).fab = s.fab := by
  unfold fanRefresh; dsimp only; split <;> (try split) <;> rfl
@[simp] theorem fanRefresh_aon (n : Fin 8) (s : State) : (fanRefresh n s).aon = s.aon := by
  unfold fanRefresh; dsimp only; split <;> (try split) <;> rfl
@[simp] theorem fanRefresh_life (n : Fin 8) (s : State) : (fanRefresh n s).life = s.life := by
  unfold fanRefresh; dsimp only; split <;> (try split) <;> rfl
@[simp] theorem fanRefresh_save (n : Fin 8) (s : State) : (fanRefresh n s).save = s.save := by
  unfold fanRefresh; dsimp only; split <;> (try split) <;> rfl
@[simp] theorem fanRefresh_chest (n : Fin 8) (s : State) : (fanRefresh n s).chest = s.chest := by
  unfold fanRefresh; dsimp only; split <;> (try split) <;> rfl
@[simp] theorem fanRefresh_clk (n : Fin 8) (s : State) : (fanRefresh n s).clk = s.clk := by
  unfold fanRefresh; dsimp only; split <;> (try split) <;> rfl
@[simp] theorem fanRefresh_pmu (n : Fin 8) (s : State) : (fanRefresh n s).pmu = s.pmu := by
  unfold fanRefresh; dsimp only; split <;> (try split) <;> rfl
@[simp] theorem fanRefresh_spm (n : Fin 8) (s : State) : (fanRefresh n s).spm = s.spm := by
  unfold fanRefresh; dsimp only; split <;> (try split) <;> rfl
@[simp] theorem fanRefresh_hl (n : Fin 8) (s : State) : (fanRefresh n s).hl = s.hl := by
  unfold fanRefresh; dsimp only; split <;> (try split) <;> rfl
@[simp] theorem fanRefresh_cab (n : Fin 8) (s : State) : (fanRefresh n s).cab = s.cab := by
  unfold fanRefresh; dsimp only; split <;> (try split) <;> rfl
@[simp] theorem fanRefresh_ain (n : Fin 8) (s : State) : (fanRefresh n s).ain = s.ain := by
  unfold fanRefresh; dsimp only; split <;> (try split) <;> rfl
@[simp] theorem fanRefresh_enc (n : Fin 8) (s : State) : (fanRefresh n s).enc = s.enc := by
  unfold fanRefresh; dsimp only; split <;> (try split) <;> rfl
@[simp] theorem fanRefresh_gpio (n : Fin 8) (s : State) : (fanRefresh n s).gpio = s.gpio := by
  unfold fanRefresh; dsimp only; split <;> (try split) <;> rfl
@[simp] theorem fanRefresh_ser (n : Fin 8) (s : State) : (fanRefresh n s).ser = s.ser := by
  unfold fanRefresh; dsimp only; split <;> (try split) <;> rfl
@[simp] theorem fanRefresh_net (n : Fin 8) (s : State) : (fanRefresh n s).net = s.net := by
  unfold fanRefresh; dsimp only; split <;> (try split) <;> rfl
@[simp] theorem fanRefresh_can (n : Fin 8) (s : State) : (fanRefresh n s).can = s.can := by
  unfold fanRefresh; dsimp only; split <;> (try split) <;> rfl
@[simp] theorem fanRefresh_flash (n : Fin 8) (s : State) : (fanRefresh n s).flash = s.flash := by
  unfold fanRefresh; dsimp only; split <;> (try split) <;> rfl

@[simp] theorem fieldsRefresh_pending (s : State) : (fieldsRefresh s).pending = s.pending := by
  unfold fieldsRefresh; rw [foldl_fields (·.pending), foldl_fields (·.pending)] <;> simp
@[simp] theorem fieldsRefresh_now (s : State) : (fieldsRefresh s).now = s.now := by
  unfold fieldsRefresh; rw [foldl_fields (·.now), foldl_fields (·.now)] <;> simp
@[simp] theorem fieldsRefresh_freeCtr (s : State) : (fieldsRefresh s).freeCtr = s.freeCtr := by
  unfold fieldsRefresh; rw [foldl_fields (·.freeCtr), foldl_fields (·.freeCtr)] <;> simp
@[simp] theorem fieldsRefresh_sys (s : State) : (fieldsRefresh s).sys = s.sys := by
  unfold fieldsRefresh; rw [foldl_fields (·.sys), foldl_fields (·.sys)] <;> simp
@[simp] theorem fieldsRefresh_boot (s : State) : (fieldsRefresh s).boot = s.boot := by
  unfold fieldsRefresh; rw [foldl_fields (·.boot), foldl_fields (·.boot)] <;> simp
@[simp] theorem fieldsRefresh_img (s : State) : (fieldsRefresh s).img = s.img := by
  unfold fieldsRefresh; rw [foldl_fields (·.img), foldl_fields (·.img)] <;> simp
@[simp] theorem fieldsRefresh_sec (s : State) : (fieldsRefresh s).sec = s.sec := by
  unfold fieldsRefresh; rw [foldl_fields (·.sec), foldl_fields (·.sec)] <;> simp
@[simp] theorem fieldsRefresh_otp (s : State) : (fieldsRefresh s).otp = s.otp := by
  unfold fieldsRefresh; rw [foldl_fields (·.otp), foldl_fields (·.otp)] <;> simp
@[simp] theorem fieldsRefresh_mem (s : State) : (fieldsRefresh s).mem = s.mem := by
  unfold fieldsRefresh; rw [foldl_fields (·.mem), foldl_fields (·.mem)] <;> simp
@[simp] theorem fieldsRefresh_trst (s : State) : (fieldsRefresh s).trst = s.trst := by
  unfold fieldsRefresh; rw [foldl_fields (·.trst), foldl_fields (·.trst)] <;> simp
@[simp] theorem fieldsRefresh_dk (s : State) : (fieldsRefresh s).dk = s.dk := by
  unfold fieldsRefresh; rw [foldl_fields (·.dk), foldl_fields (·.dk)] <;> simp
@[simp] theorem fieldsRefresh_saf (s : State) : (fieldsRefresh s).saf = s.saf := by
  unfold fieldsRefresh; rw [foldl_fields (·.saf), foldl_fields (·.saf)] <;> simp
@[simp] theorem fieldsRefresh_chn (s : State) : (fieldsRefresh s).chn = s.chn := by
  unfold fieldsRefresh; rw [foldl_fields (·.chn), foldl_fields (·.chn)] <;> simp
@[simp] theorem fieldsRefresh_le (s : State) : (fieldsRefresh s).le = s.le := by
  unfold fieldsRefresh; rw [foldl_fields (·.le), foldl_fields (·.le)] <;> simp
@[simp] theorem fieldsRefresh_cap (s : State) : (fieldsRefresh s).cap = s.cap := by
  unfold fieldsRefresh; rw [foldl_fields (·.cap), foldl_fields (·.cap)] <;> simp
@[simp] theorem fieldsRefresh_fab (s : State) : (fieldsRefresh s).fab = s.fab := by
  unfold fieldsRefresh; rw [foldl_fields (·.fab), foldl_fields (·.fab)] <;> simp
@[simp] theorem fieldsRefresh_aon (s : State) : (fieldsRefresh s).aon = s.aon := by
  unfold fieldsRefresh; rw [foldl_fields (·.aon), foldl_fields (·.aon)] <;> simp
@[simp] theorem fieldsRefresh_life (s : State) : (fieldsRefresh s).life = s.life := by
  unfold fieldsRefresh; rw [foldl_fields (·.life), foldl_fields (·.life)] <;> simp
@[simp] theorem fieldsRefresh_save (s : State) : (fieldsRefresh s).save = s.save := by
  unfold fieldsRefresh; rw [foldl_fields (·.save), foldl_fields (·.save)] <;> simp
@[simp] theorem fieldsRefresh_chest (s : State) : (fieldsRefresh s).chest = s.chest := by
  unfold fieldsRefresh; rw [foldl_fields (·.chest), foldl_fields (·.chest)] <;> simp
@[simp] theorem fieldsRefresh_clk (s : State) : (fieldsRefresh s).clk = s.clk := by
  unfold fieldsRefresh; rw [foldl_fields (·.clk), foldl_fields (·.clk)] <;> simp
@[simp] theorem fieldsRefresh_pmu (s : State) : (fieldsRefresh s).pmu = s.pmu := by
  unfold fieldsRefresh; rw [foldl_fields (·.pmu), foldl_fields (·.pmu)] <;> simp
@[simp] theorem fieldsRefresh_spm (s : State) : (fieldsRefresh s).spm = s.spm := by
  unfold fieldsRefresh; rw [foldl_fields (·.spm), foldl_fields (·.spm)] <;> simp
@[simp] theorem fieldsRefresh_hl (s : State) : (fieldsRefresh s).hl = s.hl := by
  unfold fieldsRefresh; rw [foldl_fields (·.hl), foldl_fields (·.hl)] <;> simp
@[simp] theorem fieldsRefresh_cab (s : State) : (fieldsRefresh s).cab = s.cab := by
  unfold fieldsRefresh; rw [foldl_fields (·.cab), foldl_fields (·.cab)] <;> simp
@[simp] theorem fieldsRefresh_ain (s : State) : (fieldsRefresh s).ain = s.ain := by
  unfold fieldsRefresh; rw [foldl_fields (·.ain), foldl_fields (·.ain)] <;> simp
@[simp] theorem fieldsRefresh_enc (s : State) : (fieldsRefresh s).enc = s.enc := by
  unfold fieldsRefresh; rw [foldl_fields (·.enc), foldl_fields (·.enc)] <;> simp
@[simp] theorem fieldsRefresh_gpio (s : State) : (fieldsRefresh s).gpio = s.gpio := by
  unfold fieldsRefresh; rw [foldl_fields (·.gpio), foldl_fields (·.gpio)] <;> simp
@[simp] theorem fieldsRefresh_ser (s : State) : (fieldsRefresh s).ser = s.ser := by
  unfold fieldsRefresh; rw [foldl_fields (·.ser), foldl_fields (·.ser)] <;> simp
@[simp] theorem fieldsRefresh_net (s : State) : (fieldsRefresh s).net = s.net := by
  unfold fieldsRefresh; rw [foldl_fields (·.net), foldl_fields (·.net)] <;> simp
@[simp] theorem fieldsRefresh_can (s : State) : (fieldsRefresh s).can = s.can := by
  unfold fieldsRefresh; rw [foldl_fields (·.can), foldl_fields (·.can)] <;> simp
@[simp] theorem fieldsRefresh_flash (s : State) : (fieldsRefresh s).flash = s.flash := by
  unfold fieldsRefresh; rw [foldl_fields (·.flash), foldl_fields (·.flash)] <;> simp

@[simp] theorem histPush_pending (c : Code) (k : Nat) (u : BitVec 8) (d : Word) (s : State) : (histPush c k u d s).pending = s.pending := rfl
@[simp] theorem histPush_now (c : Code) (k : Nat) (u : BitVec 8) (d : Word) (s : State) : (histPush c k u d s).now = s.now := rfl
@[simp] theorem histPush_freeCtr (c : Code) (k : Nat) (u : BitVec 8) (d : Word) (s : State) : (histPush c k u d s).freeCtr = s.freeCtr := rfl
@[simp] theorem histPush_sys (c : Code) (k : Nat) (u : BitVec 8) (d : Word) (s : State) : (histPush c k u d s).sys = s.sys := rfl
@[simp] theorem histPush_boot (c : Code) (k : Nat) (u : BitVec 8) (d : Word) (s : State) : (histPush c k u d s).boot = s.boot := rfl
@[simp] theorem histPush_img (c : Code) (k : Nat) (u : BitVec 8) (d : Word) (s : State) : (histPush c k u d s).img = s.img := rfl
@[simp] theorem histPush_sec (c : Code) (k : Nat) (u : BitVec 8) (d : Word) (s : State) : (histPush c k u d s).sec = s.sec := rfl
@[simp] theorem histPush_otp (c : Code) (k : Nat) (u : BitVec 8) (d : Word) (s : State) : (histPush c k u d s).otp = s.otp := rfl
@[simp] theorem histPush_mem (c : Code) (k : Nat) (u : BitVec 8) (d : Word) (s : State) : (histPush c k u d s).mem = s.mem := rfl
@[simp] theorem histPush_trst (c : Code) (k : Nat) (u : BitVec 8) (d : Word) (s : State) : (histPush c k u d s).trst = s.trst := rfl
@[simp] theorem histPush_dk (c : Code) (k : Nat) (u : BitVec 8) (d : Word) (s : State) : (histPush c k u d s).dk = s.dk := rfl
@[simp] theorem histPush_chn (c : Code) (k : Nat) (u : BitVec 8) (d : Word) (s : State) : (histPush c k u d s).chn = s.chn := rfl
@[simp] theorem histPush_le (c : Code) (k : Nat) (u : BitVec 8) (d : Word) (s : State) : (histPush c k u d s).le = s.le := rfl
@[simp] theorem histPush_cap (c : Code) (k : Nat) (u : BitVec 8) (d : Word) (s : State) : (histPush c k u d s).cap = s.cap := rfl
@[simp] theorem histPush_fab (c : Code) (k : Nat) (u : BitVec 8) (d : Word) (s : State) : (histPush c k u d s).fab = s.fab := rfl
@[simp] theorem histPush_aon (c : Code) (k : Nat) (u : BitVec 8) (d : Word) (s : State) : (histPush c k u d s).aon = s.aon := rfl
@[simp] theorem histPush_life (c : Code) (k : Nat) (u : BitVec 8) (d : Word) (s : State) : (histPush c k u d s).life = s.life := rfl
@[simp] theorem histPush_save (c : Code) (k : Nat) (u : BitVec 8) (d : Word) (s : State) : (histPush c k u d s).save = s.save := rfl
@[simp] theorem histPush_chest (c : Code) (k : Nat) (u : BitVec 8) (d : Word) (s : State) : (histPush c k u d s).chest = s.chest := rfl
@[simp] theorem histPush_clk (c : Code) (k : Nat) (u : BitVec 8) (d : Word) (s : State) : (histPush c k u d s).clk = s.clk := rfl
@[simp] theorem histPush_pmu (c : Code) (k : Nat) (u : BitVec 8) (d : Word) (s : State) : (histPush c k u d s).pmu = s.pmu := rfl
@[simp] theorem histPush_spm (c : Code) (k : Nat) (u : BitVec 8) (d : Word) (s : State) : (histPush c k u d s).spm = s.spm := rfl
@[simp] theorem histPush_hl (c : Code) (k : Nat) (u : BitVec 8) (d : Word) (s : State) : (histPush c k u d s).hl = s.hl := rfl
@[simp] theorem histPush_cab (c : Code) (k : Nat) (u : BitVec 8) (d : Word) (s : State) : (histPush c k u d s).cab = s.cab := rfl
@[simp] theorem histPush_fio (c : Code) (k : Nat) (u : BitVec 8) (d : Word) (s : State) : (histPush c k u d s).fio = s.fio := rfl
@[simp] theorem histPush_fan (c : Code) (k : Nat) (u : BitVec 8) (d : Word) (s : State) : (histPush c k u d s).fan = s.fan := rfl
@[simp] theorem histPush_ain (c : Code) (k : Nat) (u : BitVec 8) (d : Word) (s : State) : (histPush c k u d s).ain = s.ain := rfl
@[simp] theorem histPush_enc (c : Code) (k : Nat) (u : BitVec 8) (d : Word) (s : State) : (histPush c k u d s).enc = s.enc := rfl
@[simp] theorem histPush_gpio (c : Code) (k : Nat) (u : BitVec 8) (d : Word) (s : State) : (histPush c k u d s).gpio = s.gpio := rfl
@[simp] theorem histPush_ser (c : Code) (k : Nat) (u : BitVec 8) (d : Word) (s : State) : (histPush c k u d s).ser = s.ser := rfl
@[simp] theorem histPush_net (c : Code) (k : Nat) (u : BitVec 8) (d : Word) (s : State) : (histPush c k u d s).net = s.net := rfl
@[simp] theorem histPush_can (c : Code) (k : Nat) (u : BitVec 8) (d : Word) (s : State) : (histPush c k u d s).can = s.can := rfl
@[simp] theorem histPush_flash (c : Code) (k : Nat) (u : BitVec 8) (d : Word) (s : State) : (histPush c k u d s).flash = s.flash := rfl

@[simp] theorem recordCause_pending (c : Code) (u : BitVec 8) (d : Word) (s : State) : (recordCause c u d s).pending = s.pending := by
  unfold recordCause; split <;> rfl
@[simp] theorem recordCause_now (c : Code) (u : BitVec 8) (d : Word) (s : State) : (recordCause c u d s).now = s.now := by
  unfold recordCause; split <;> rfl
@[simp] theorem recordCause_freeCtr (c : Code) (u : BitVec 8) (d : Word) (s : State) : (recordCause c u d s).freeCtr = s.freeCtr := by
  unfold recordCause; split <;> rfl
@[simp] theorem recordCause_sys (c : Code) (u : BitVec 8) (d : Word) (s : State) : (recordCause c u d s).sys = s.sys := by
  unfold recordCause; split <;> rfl
@[simp] theorem recordCause_boot (c : Code) (u : BitVec 8) (d : Word) (s : State) : (recordCause c u d s).boot = s.boot := by
  unfold recordCause; split <;> rfl
@[simp] theorem recordCause_img (c : Code) (u : BitVec 8) (d : Word) (s : State) : (recordCause c u d s).img = s.img := by
  unfold recordCause; split <;> rfl
@[simp] theorem recordCause_sec (c : Code) (u : BitVec 8) (d : Word) (s : State) : (recordCause c u d s).sec = s.sec := by
  unfold recordCause; split <;> rfl
@[simp] theorem recordCause_otp (c : Code) (u : BitVec 8) (d : Word) (s : State) : (recordCause c u d s).otp = s.otp := by
  unfold recordCause; split <;> rfl
@[simp] theorem recordCause_mem (c : Code) (u : BitVec 8) (d : Word) (s : State) : (recordCause c u d s).mem = s.mem := by
  unfold recordCause; split <;> rfl
@[simp] theorem recordCause_trst (c : Code) (u : BitVec 8) (d : Word) (s : State) : (recordCause c u d s).trst = s.trst := by
  unfold recordCause; split <;> rfl
@[simp] theorem recordCause_dk (c : Code) (u : BitVec 8) (d : Word) (s : State) : (recordCause c u d s).dk = s.dk := by
  unfold recordCause; split <;> rfl
@[simp] theorem recordCause_chn (c : Code) (u : BitVec 8) (d : Word) (s : State) : (recordCause c u d s).chn = s.chn := by
  unfold recordCause; split <;> rfl
@[simp] theorem recordCause_le (c : Code) (u : BitVec 8) (d : Word) (s : State) : (recordCause c u d s).le = s.le := by
  unfold recordCause; split <;> rfl
@[simp] theorem recordCause_fab (c : Code) (u : BitVec 8) (d : Word) (s : State) : (recordCause c u d s).fab = s.fab := by
  unfold recordCause; split <;> rfl
@[simp] theorem recordCause_aon (c : Code) (u : BitVec 8) (d : Word) (s : State) : (recordCause c u d s).aon = s.aon := by
  unfold recordCause; split <;> rfl
@[simp] theorem recordCause_life (c : Code) (u : BitVec 8) (d : Word) (s : State) : (recordCause c u d s).life = s.life := by
  unfold recordCause; split <;> rfl
@[simp] theorem recordCause_save (c : Code) (u : BitVec 8) (d : Word) (s : State) : (recordCause c u d s).save = s.save := by
  unfold recordCause; split <;> rfl
@[simp] theorem recordCause_chest (c : Code) (u : BitVec 8) (d : Word) (s : State) : (recordCause c u d s).chest = s.chest := by
  unfold recordCause; split <;> rfl
@[simp] theorem recordCause_clk (c : Code) (u : BitVec 8) (d : Word) (s : State) : (recordCause c u d s).clk = s.clk := by
  unfold recordCause; split <;> rfl
@[simp] theorem recordCause_pmu (c : Code) (u : BitVec 8) (d : Word) (s : State) : (recordCause c u d s).pmu = s.pmu := by
  unfold recordCause; split <;> rfl
@[simp] theorem recordCause_spm (c : Code) (u : BitVec 8) (d : Word) (s : State) : (recordCause c u d s).spm = s.spm := by
  unfold recordCause; split <;> rfl
@[simp] theorem recordCause_hl (c : Code) (u : BitVec 8) (d : Word) (s : State) : (recordCause c u d s).hl = s.hl := by
  unfold recordCause; split <;> rfl
@[simp] theorem recordCause_cab (c : Code) (u : BitVec 8) (d : Word) (s : State) : (recordCause c u d s).cab = s.cab := by
  unfold recordCause; split <;> rfl
@[simp] theorem recordCause_fio (c : Code) (u : BitVec 8) (d : Word) (s : State) : (recordCause c u d s).fio = s.fio := by
  unfold recordCause; split <;> rfl
@[simp] theorem recordCause_fan (c : Code) (u : BitVec 8) (d : Word) (s : State) : (recordCause c u d s).fan = s.fan := by
  unfold recordCause; split <;> rfl
@[simp] theorem recordCause_ain (c : Code) (u : BitVec 8) (d : Word) (s : State) : (recordCause c u d s).ain = s.ain := by
  unfold recordCause; split <;> rfl
@[simp] theorem recordCause_enc (c : Code) (u : BitVec 8) (d : Word) (s : State) : (recordCause c u d s).enc = s.enc := by
  unfold recordCause; split <;> rfl
@[simp] theorem recordCause_gpio (c : Code) (u : BitVec 8) (d : Word) (s : State) : (recordCause c u d s).gpio = s.gpio := by
  unfold recordCause; split <;> rfl
@[simp] theorem recordCause_ser (c : Code) (u : BitVec 8) (d : Word) (s : State) : (recordCause c u d s).ser = s.ser := by
  unfold recordCause; split <;> rfl
@[simp] theorem recordCause_net (c : Code) (u : BitVec 8) (d : Word) (s : State) : (recordCause c u d s).net = s.net := by
  unfold recordCause; split <;> rfl
@[simp] theorem recordCause_can (c : Code) (u : BitVec 8) (d : Word) (s : State) : (recordCause c u d s).can = s.can := by
  unfold recordCause; split <;> rfl
@[simp] theorem recordCause_flash (c : Code) (u : BitVec 8) (d : Word) (s : State) : (recordCause c u d s).flash = s.flash := by
  unfold recordCause; split <;> rfl

@[simp] theorem lockoutOutputs_pending (own : Bool) (s : State) : (lockoutOutputs own s).pending = s.pending := by
  cases own <;> rfl
@[simp] theorem lockoutOutputs_now (own : Bool) (s : State) : (lockoutOutputs own s).now = s.now := by
  cases own <;> rfl
@[simp] theorem lockoutOutputs_freeCtr (own : Bool) (s : State) : (lockoutOutputs own s).freeCtr = s.freeCtr := by
  cases own <;> rfl
@[simp] theorem lockoutOutputs_sys (own : Bool) (s : State) : (lockoutOutputs own s).sys = s.sys := by
  cases own <;> rfl
@[simp] theorem lockoutOutputs_boot (own : Bool) (s : State) : (lockoutOutputs own s).boot = s.boot := by
  cases own <;> rfl
@[simp] theorem lockoutOutputs_img (own : Bool) (s : State) : (lockoutOutputs own s).img = s.img := by
  cases own <;> rfl
@[simp] theorem lockoutOutputs_sec (own : Bool) (s : State) : (lockoutOutputs own s).sec = s.sec := by
  cases own <;> rfl
@[simp] theorem lockoutOutputs_otp (own : Bool) (s : State) : (lockoutOutputs own s).otp = s.otp := by
  cases own <;> rfl
@[simp] theorem lockoutOutputs_mem (own : Bool) (s : State) : (lockoutOutputs own s).mem = s.mem := by
  cases own <;> rfl
@[simp] theorem lockoutOutputs_trst (own : Bool) (s : State) : (lockoutOutputs own s).trst = s.trst := by
  cases own <;> rfl
@[simp] theorem lockoutOutputs_dk (own : Bool) (s : State) : (lockoutOutputs own s).dk = s.dk := by
  cases own <;> rfl
@[simp] theorem lockoutOutputs_chn (own : Bool) (s : State) : (lockoutOutputs own s).chn = s.chn := by
  cases own <;> rfl
@[simp] theorem lockoutOutputs_le (own : Bool) (s : State) : (lockoutOutputs own s).le = s.le := by
  cases own <;> rfl
@[simp] theorem lockoutOutputs_cap (own : Bool) (s : State) : (lockoutOutputs own s).cap = s.cap := by
  cases own <;> rfl
@[simp] theorem lockoutOutputs_fab (own : Bool) (s : State) : (lockoutOutputs own s).fab = s.fab := by
  cases own <;> rfl
@[simp] theorem lockoutOutputs_aon (own : Bool) (s : State) : (lockoutOutputs own s).aon = s.aon := by
  cases own <;> rfl
@[simp] theorem lockoutOutputs_save (own : Bool) (s : State) : (lockoutOutputs own s).save = s.save := by
  cases own <;> rfl
@[simp] theorem lockoutOutputs_chest (own : Bool) (s : State) : (lockoutOutputs own s).chest = s.chest := by
  cases own <;> rfl
@[simp] theorem lockoutOutputs_clk (own : Bool) (s : State) : (lockoutOutputs own s).clk = s.clk := by
  cases own <;> rfl
@[simp] theorem lockoutOutputs_pmu (own : Bool) (s : State) : (lockoutOutputs own s).pmu = s.pmu := by
  cases own <;> rfl
@[simp] theorem lockoutOutputs_spm (own : Bool) (s : State) : (lockoutOutputs own s).spm = s.spm := by
  cases own <;> rfl
@[simp] theorem lockoutOutputs_hl (own : Bool) (s : State) : (lockoutOutputs own s).hl = s.hl := by
  cases own <;> rfl
@[simp] theorem lockoutOutputs_cab (own : Bool) (s : State) : (lockoutOutputs own s).cab = s.cab := by
  cases own <;> rfl
@[simp] theorem lockoutOutputs_fio (own : Bool) (s : State) : (lockoutOutputs own s).fio = s.fio := by
  cases own <;> rfl
@[simp] theorem lockoutOutputs_fan (own : Bool) (s : State) : (lockoutOutputs own s).fan = s.fan := by
  cases own <;> rfl
@[simp] theorem lockoutOutputs_ain (own : Bool) (s : State) : (lockoutOutputs own s).ain = s.ain := by
  cases own <;> rfl
@[simp] theorem lockoutOutputs_enc (own : Bool) (s : State) : (lockoutOutputs own s).enc = s.enc := by
  cases own <;> rfl
@[simp] theorem lockoutOutputs_gpio (own : Bool) (s : State) : (lockoutOutputs own s).gpio = s.gpio := by
  cases own <;> rfl
@[simp] theorem lockoutOutputs_ser (own : Bool) (s : State) : (lockoutOutputs own s).ser = s.ser := by
  cases own <;> rfl
@[simp] theorem lockoutOutputs_net (own : Bool) (s : State) : (lockoutOutputs own s).net = s.net := by
  cases own <;> rfl
@[simp] theorem lockoutOutputs_can (own : Bool) (s : State) : (lockoutOutputs own s).can = s.can := by
  cases own <;> rfl
@[simp] theorem lockoutOutputs_flash (own : Bool) (s : State) : (lockoutOutputs own s).flash = s.flash := by
  cases own <;> rfl

/-- The answer of a mode request writes the network side only (R46, R460). -/
theorem hspModeAnswer_net (r : Nat) (s : State) : ∃ n, hspModeAnswer r s = { s with net := n } := by
  unfold hspModeAnswer hspReply hspSay hspOut
  repeat' split
  all_goals exact ⟨_, rfl⟩

theorem hspModeDone_net (s : State) : ∃ n, hspModeDone s = { s with net := n } := hspModeAnswer_net _ s

@[simp] theorem hspModeDone_pending (s : State) : (hspModeDone s).pending = s.pending := by obtain ⟨n, h⟩ := hspModeDone_net s; rw [h]
@[simp] theorem hspModeDone_now (s : State) : (hspModeDone s).now = s.now := by obtain ⟨n, h⟩ := hspModeDone_net s; rw [h]
@[simp] theorem hspModeDone_freeCtr (s : State) : (hspModeDone s).freeCtr = s.freeCtr := by obtain ⟨n, h⟩ := hspModeDone_net s; rw [h]
@[simp] theorem hspModeDone_boot (s : State) : (hspModeDone s).boot = s.boot := by obtain ⟨n, h⟩ := hspModeDone_net s; rw [h]
@[simp] theorem hspModeDone_img (s : State) : (hspModeDone s).img = s.img := by obtain ⟨n, h⟩ := hspModeDone_net s; rw [h]
@[simp] theorem hspModeDone_sec (s : State) : (hspModeDone s).sec = s.sec := by obtain ⟨n, h⟩ := hspModeDone_net s; rw [h]
@[simp] theorem hspModeDone_otp (s : State) : (hspModeDone s).otp = s.otp := by obtain ⟨n, h⟩ := hspModeDone_net s; rw [h]
@[simp] theorem hspModeDone_mem (s : State) : (hspModeDone s).mem = s.mem := by obtain ⟨n, h⟩ := hspModeDone_net s; rw [h]
@[simp] theorem hspModeDone_dk (s : State) : (hspModeDone s).dk = s.dk := by obtain ⟨n, h⟩ := hspModeDone_net s; rw [h]
@[simp] theorem hspModeDone_saf (s : State) : (hspModeDone s).saf = s.saf := by obtain ⟨n, h⟩ := hspModeDone_net s; rw [h]
@[simp] theorem hspModeDone_chn (s : State) : (hspModeDone s).chn = s.chn := by obtain ⟨n, h⟩ := hspModeDone_net s; rw [h]
@[simp] theorem hspModeDone_le (s : State) : (hspModeDone s).le = s.le := by obtain ⟨n, h⟩ := hspModeDone_net s; rw [h]
@[simp] theorem hspModeDone_cap (s : State) : (hspModeDone s).cap = s.cap := by obtain ⟨n, h⟩ := hspModeDone_net s; rw [h]
@[simp] theorem hspModeDone_fab (s : State) : (hspModeDone s).fab = s.fab := by obtain ⟨n, h⟩ := hspModeDone_net s; rw [h]
@[simp] theorem hspModeDone_life (s : State) : (hspModeDone s).life = s.life := by obtain ⟨n, h⟩ := hspModeDone_net s; rw [h]
@[simp] theorem hspModeDone_save (s : State) : (hspModeDone s).save = s.save := by obtain ⟨n, h⟩ := hspModeDone_net s; rw [h]
@[simp] theorem hspModeDone_chest (s : State) : (hspModeDone s).chest = s.chest := by obtain ⟨n, h⟩ := hspModeDone_net s; rw [h]
@[simp] theorem hspModeDone_clk (s : State) : (hspModeDone s).clk = s.clk := by obtain ⟨n, h⟩ := hspModeDone_net s; rw [h]
@[simp] theorem hspModeDone_pmu (s : State) : (hspModeDone s).pmu = s.pmu := by obtain ⟨n, h⟩ := hspModeDone_net s; rw [h]
@[simp] theorem hspModeDone_spm (s : State) : (hspModeDone s).spm = s.spm := by obtain ⟨n, h⟩ := hspModeDone_net s; rw [h]
@[simp] theorem hspModeDone_cab (s : State) : (hspModeDone s).cab = s.cab := by obtain ⟨n, h⟩ := hspModeDone_net s; rw [h]
@[simp] theorem hspModeDone_fio (s : State) : (hspModeDone s).fio = s.fio := by obtain ⟨n, h⟩ := hspModeDone_net s; rw [h]
@[simp] theorem hspModeDone_fan (s : State) : (hspModeDone s).fan = s.fan := by obtain ⟨n, h⟩ := hspModeDone_net s; rw [h]
@[simp] theorem hspModeDone_ain (s : State) : (hspModeDone s).ain = s.ain := by obtain ⟨n, h⟩ := hspModeDone_net s; rw [h]
@[simp] theorem hspModeDone_enc (s : State) : (hspModeDone s).enc = s.enc := by obtain ⟨n, h⟩ := hspModeDone_net s; rw [h]
@[simp] theorem hspModeDone_gpio (s : State) : (hspModeDone s).gpio = s.gpio := by obtain ⟨n, h⟩ := hspModeDone_net s; rw [h]
@[simp] theorem hspModeDone_ser (s : State) : (hspModeDone s).ser = s.ser := by obtain ⟨n, h⟩ := hspModeDone_net s; rw [h]
@[simp] theorem hspModeDone_can (s : State) : (hspModeDone s).can = s.can := by obtain ⟨n, h⟩ := hspModeDone_net s; rw [h]
@[simp] theorem hspModeDone_flash (s : State) : (hspModeDone s).flash = s.flash := by obtain ⟨n, h⟩ := hspModeDone_net s; rw [h]
@[simp] theorem hspModeDone_sys (s : State) : (hspModeDone s).sys = s.sys := by obtain ⟨n, h⟩ := hspModeDone_net s; rw [h]
@[simp] theorem hspModeDone_trst (s : State) : (hspModeDone s).trst = s.trst := by obtain ⟨n, h⟩ := hspModeDone_net s; rw [h]
@[simp] theorem hspModeDone_hl (s : State) : (hspModeDone s).hl = s.hl := by obtain ⟨n, h⟩ := hspModeDone_net s; rw [h]
@[simp] theorem hspModeDone_aon (s : State) : (hspModeDone s).aon = s.aon := by obtain ⟨n, h⟩ := hspModeDone_net s; rw [h]

@[simp] theorem watchAbandon_pending (s : State) : (watchAbandon s).pending = s.pending := by
  unfold watchAbandon; split <;> simp
@[simp] theorem watchAbandon_now (s : State) : (watchAbandon s).now = s.now := by
  unfold watchAbandon; split <;> simp
@[simp] theorem watchAbandon_freeCtr (s : State) : (watchAbandon s).freeCtr = s.freeCtr := by
  unfold watchAbandon; split <;> simp
@[simp] theorem watchAbandon_boot (s : State) : (watchAbandon s).boot = s.boot := by
  unfold watchAbandon; split <;> simp
@[simp] theorem watchAbandon_img (s : State) : (watchAbandon s).img = s.img := by
  unfold watchAbandon; split <;> simp
@[simp] theorem watchAbandon_sec (s : State) : (watchAbandon s).sec = s.sec := by
  unfold watchAbandon; split <;> simp
@[simp] theorem watchAbandon_otp (s : State) : (watchAbandon s).otp = s.otp := by
  unfold watchAbandon; split <;> simp
@[simp] theorem watchAbandon_mem (s : State) : (watchAbandon s).mem = s.mem := by
  unfold watchAbandon; split <;> simp
@[simp] theorem watchAbandon_dk (s : State) : (watchAbandon s).dk = s.dk := by
  unfold watchAbandon; split <;> simp
@[simp] theorem watchAbandon_saf (s : State) : (watchAbandon s).saf = s.saf := by
  unfold watchAbandon; split <;> simp
@[simp] theorem watchAbandon_chn (s : State) : (watchAbandon s).chn = s.chn := by
  unfold watchAbandon; split <;> simp
@[simp] theorem watchAbandon_le (s : State) : (watchAbandon s).le = s.le := by
  unfold watchAbandon; split <;> simp
@[simp] theorem watchAbandon_cap (s : State) : (watchAbandon s).cap = s.cap := by
  unfold watchAbandon; split <;> simp
@[simp] theorem watchAbandon_fab (s : State) : (watchAbandon s).fab = s.fab := by
  unfold watchAbandon; split <;> simp
@[simp] theorem watchAbandon_life (s : State) : (watchAbandon s).life = s.life := by
  unfold watchAbandon; split <;> simp
@[simp] theorem watchAbandon_save (s : State) : (watchAbandon s).save = s.save := by
  unfold watchAbandon; split <;> simp
@[simp] theorem watchAbandon_chest (s : State) : (watchAbandon s).chest = s.chest := by
  unfold watchAbandon; split <;> simp
@[simp] theorem watchAbandon_clk (s : State) : (watchAbandon s).clk = s.clk := by
  unfold watchAbandon; split <;> simp
@[simp] theorem watchAbandon_pmu (s : State) : (watchAbandon s).pmu = s.pmu := by
  unfold watchAbandon; split <;> simp
@[simp] theorem watchAbandon_spm (s : State) : (watchAbandon s).spm = s.spm := by
  unfold watchAbandon; split <;> simp
@[simp] theorem watchAbandon_cab (s : State) : (watchAbandon s).cab = s.cab := by
  unfold watchAbandon; split <;> simp
@[simp] theorem watchAbandon_fio (s : State) : (watchAbandon s).fio = s.fio := by
  unfold watchAbandon; split <;> simp
@[simp] theorem watchAbandon_fan (s : State) : (watchAbandon s).fan = s.fan := by
  unfold watchAbandon; split <;> simp
@[simp] theorem watchAbandon_ain (s : State) : (watchAbandon s).ain = s.ain := by
  unfold watchAbandon; split <;> simp
@[simp] theorem watchAbandon_enc (s : State) : (watchAbandon s).enc = s.enc := by
  unfold watchAbandon; split <;> simp
@[simp] theorem watchAbandon_gpio (s : State) : (watchAbandon s).gpio = s.gpio := by
  unfold watchAbandon; split <;> simp
@[simp] theorem watchAbandon_ser (s : State) : (watchAbandon s).ser = s.ser := by
  unfold watchAbandon; split <;> simp
@[simp] theorem watchAbandon_can (s : State) : (watchAbandon s).can = s.can := by
  unfold watchAbandon; split <;> simp
@[simp] theorem watchAbandon_flash (s : State) : (watchAbandon s).flash = s.flash := by
  unfold watchAbandon; split <;> simp

@[simp] theorem tablesLock_pending (s : State) : (tablesLock s).pending = s.pending := by
  unfold tablesLock; split <;> rfl
@[simp] theorem tablesLock_now (s : State) : (tablesLock s).now = s.now := by
  unfold tablesLock; split <;> rfl
@[simp] theorem tablesLock_freeCtr (s : State) : (tablesLock s).freeCtr = s.freeCtr := by
  unfold tablesLock; split <;> rfl
@[simp] theorem tablesLock_sys (s : State) : (tablesLock s).sys = s.sys := by
  unfold tablesLock; split <;> rfl
@[simp] theorem tablesLock_boot (s : State) : (tablesLock s).boot = s.boot := by
  unfold tablesLock; split <;> rfl
@[simp] theorem tablesLock_img (s : State) : (tablesLock s).img = s.img := by
  unfold tablesLock; split <;> rfl
@[simp] theorem tablesLock_otp (s : State) : (tablesLock s).otp = s.otp := by
  unfold tablesLock; split <;> rfl
@[simp] theorem tablesLock_mem (s : State) : (tablesLock s).mem = s.mem := by
  unfold tablesLock; split <;> rfl
@[simp] theorem tablesLock_trst (s : State) : (tablesLock s).trst = s.trst := by
  unfold tablesLock; split <;> rfl
@[simp] theorem tablesLock_dk (s : State) : (tablesLock s).dk = s.dk := by
  unfold tablesLock; split <;> rfl
@[simp] theorem tablesLock_saf (s : State) : (tablesLock s).saf = s.saf := by
  unfold tablesLock; split <;> rfl
@[simp] theorem tablesLock_chn (s : State) : (tablesLock s).chn = s.chn := by
  unfold tablesLock; split <;> rfl
@[simp] theorem tablesLock_le (s : State) : (tablesLock s).le = s.le := by
  unfold tablesLock; split <;> rfl
@[simp] theorem tablesLock_cap (s : State) : (tablesLock s).cap = s.cap := by
  unfold tablesLock; split <;> rfl
@[simp] theorem tablesLock_fab (s : State) : (tablesLock s).fab = s.fab := by
  unfold tablesLock; split <;> rfl
@[simp] theorem tablesLock_aon (s : State) : (tablesLock s).aon = s.aon := by
  unfold tablesLock; split <;> rfl
@[simp] theorem tablesLock_life (s : State) : (tablesLock s).life = s.life := by
  unfold tablesLock; split <;> rfl
@[simp] theorem tablesLock_save (s : State) : (tablesLock s).save = s.save := by
  unfold tablesLock; split <;> rfl
@[simp] theorem tablesLock_chest (s : State) : (tablesLock s).chest = s.chest := by
  unfold tablesLock; split <;> rfl
@[simp] theorem tablesLock_clk (s : State) : (tablesLock s).clk = s.clk := by
  unfold tablesLock; split <;> rfl
@[simp] theorem tablesLock_pmu (s : State) : (tablesLock s).pmu = s.pmu := by
  unfold tablesLock; split <;> rfl
@[simp] theorem tablesLock_spm (s : State) : (tablesLock s).spm = s.spm := by
  unfold tablesLock; split <;> rfl
@[simp] theorem tablesLock_hl (s : State) : (tablesLock s).hl = s.hl := by
  unfold tablesLock; split <;> rfl
@[simp] theorem tablesLock_cab (s : State) : (tablesLock s).cab = s.cab := by
  unfold tablesLock; split <;> rfl
@[simp] theorem tablesLock_fio (s : State) : (tablesLock s).fio = s.fio := by
  unfold tablesLock; split <;> rfl
@[simp] theorem tablesLock_fan (s : State) : (tablesLock s).fan = s.fan := by
  unfold tablesLock; split <;> rfl
@[simp] theorem tablesLock_ain (s : State) : (tablesLock s).ain = s.ain := by
  unfold tablesLock; split <;> rfl
@[simp] theorem tablesLock_enc (s : State) : (tablesLock s).enc = s.enc := by
  unfold tablesLock; split <;> rfl
@[simp] theorem tablesLock_gpio (s : State) : (tablesLock s).gpio = s.gpio := by
  unfold tablesLock; split <;> rfl
@[simp] theorem tablesLock_ser (s : State) : (tablesLock s).ser = s.ser := by
  unfold tablesLock; split <;> rfl
@[simp] theorem tablesLock_net (s : State) : (tablesLock s).net = s.net := by
  unfold tablesLock; split <;> rfl
@[simp] theorem tablesLock_can (s : State) : (tablesLock s).can = s.can := by
  unfold tablesLock; split <;> rfl
@[simp] theorem tablesLock_flash (s : State) : (tablesLock s).flash = s.flash := by
  unfold tablesLock; split <;> rfl

@[simp] theorem lockoutEnter_pending (e : Nat) (own : Bool) (s : State) : (lockoutEnter e own s).pending = s.pending := by
  unfold lockoutEnter; dsimp only; split <;> simp [lockHolds]
@[simp] theorem lockoutEnter_now (e : Nat) (own : Bool) (s : State) : (lockoutEnter e own s).now = s.now := by
  unfold lockoutEnter; dsimp only; split <;> simp [lockHolds]
@[simp] theorem lockoutEnter_freeCtr (e : Nat) (own : Bool) (s : State) : (lockoutEnter e own s).freeCtr = s.freeCtr := by
  unfold lockoutEnter; dsimp only; split <;> simp [lockHolds]
@[simp] theorem lockoutEnter_img (e : Nat) (own : Bool) (s : State) : (lockoutEnter e own s).img = s.img := by
  unfold lockoutEnter; dsimp only; split <;> simp [lockHolds]
@[simp] theorem lockoutEnter_otp (e : Nat) (own : Bool) (s : State) : (lockoutEnter e own s).otp = s.otp := by
  unfold lockoutEnter; dsimp only; split <;> simp [lockHolds]
@[simp] theorem lockoutEnter_mem (e : Nat) (own : Bool) (s : State) : (lockoutEnter e own s).mem = s.mem := by
  unfold lockoutEnter; dsimp only; split <;> simp [lockHolds]
@[simp] theorem lockoutEnter_dk (e : Nat) (own : Bool) (s : State) : (lockoutEnter e own s).dk = s.dk := by
  unfold lockoutEnter; dsimp only; split <;> simp [lockHolds]
@[simp] theorem lockoutEnter_le (e : Nat) (own : Bool) (s : State) : (lockoutEnter e own s).le = s.le := by
  unfold lockoutEnter; dsimp only; split <;> simp [lockHolds]
@[simp] theorem lockoutEnter_fab (e : Nat) (own : Bool) (s : State) : (lockoutEnter e own s).fab = s.fab := by
  unfold lockoutEnter; dsimp only; split <;> simp [lockHolds]
@[simp] theorem lockoutEnter_save (e : Nat) (own : Bool) (s : State) : (lockoutEnter e own s).save = s.save := by
  unfold lockoutEnter; dsimp only; split <;> simp [lockHolds]
@[simp] theorem lockoutEnter_chest (e : Nat) (own : Bool) (s : State) : (lockoutEnter e own s).chest = s.chest := by
  unfold lockoutEnter; dsimp only; split <;> simp [lockHolds]
@[simp] theorem lockoutEnter_clk (e : Nat) (own : Bool) (s : State) : (lockoutEnter e own s).clk = s.clk := by
  unfold lockoutEnter; dsimp only; split <;> simp [lockHolds]
@[simp] theorem lockoutEnter_pmu (e : Nat) (own : Bool) (s : State) : (lockoutEnter e own s).pmu = s.pmu := by
  unfold lockoutEnter; dsimp only; split <;> simp [lockHolds]
@[simp] theorem lockoutEnter_spm (e : Nat) (own : Bool) (s : State) : (lockoutEnter e own s).spm = s.spm := by
  unfold lockoutEnter; dsimp only; split <;> simp [lockHolds]
@[simp] theorem lockoutEnter_cab (e : Nat) (own : Bool) (s : State) : (lockoutEnter e own s).cab = s.cab := by
  unfold lockoutEnter; dsimp only; split <;> simp [lockHolds]
@[simp] theorem lockoutEnter_ain (e : Nat) (own : Bool) (s : State) : (lockoutEnter e own s).ain = s.ain := by
  unfold lockoutEnter; dsimp only; split <;> simp [lockHolds]
@[simp] theorem lockoutEnter_enc (e : Nat) (own : Bool) (s : State) : (lockoutEnter e own s).enc = s.enc := by
  unfold lockoutEnter; dsimp only; split <;> simp [lockHolds]
@[simp] theorem lockoutEnter_gpio (e : Nat) (own : Bool) (s : State) : (lockoutEnter e own s).gpio = s.gpio := by
  unfold lockoutEnter; dsimp only; split <;> simp [lockHolds]
@[simp] theorem lockoutEnter_ser (e : Nat) (own : Bool) (s : State) : (lockoutEnter e own s).ser = s.ser := by
  unfold lockoutEnter; dsimp only; split <;> simp [lockHolds]
@[simp] theorem lockoutEnter_can (e : Nat) (own : Bool) (s : State) : (lockoutEnter e own s).can = s.can := by
  unfold lockoutEnter; dsimp only; split <;> simp [lockHolds]
@[simp] theorem lockoutEnter_flash (e : Nat) (own : Bool) (s : State) : (lockoutEnter e own s).flash = s.flash := by
  unfold lockoutEnter; dsimp only; split <;> simp [lockHolds]

@[simp] theorem raise_pending (c : Code) (u : BitVec 8) (d : Word) (s : State) : (raise c u d s).pending = s.pending := by
  unfold raise; dsimp only; (repeat' split) <;> simp
@[simp] theorem raise_now (c : Code) (u : BitVec 8) (d : Word) (s : State) : (raise c u d s).now = s.now := by
  unfold raise; dsimp only; (repeat' split) <;> simp
@[simp] theorem raise_freeCtr (c : Code) (u : BitVec 8) (d : Word) (s : State) : (raise c u d s).freeCtr = s.freeCtr := by
  unfold raise; dsimp only; (repeat' split) <;> simp
@[simp] theorem raise_img (c : Code) (u : BitVec 8) (d : Word) (s : State) : (raise c u d s).img = s.img := by
  unfold raise; dsimp only; (repeat' split) <;> simp
@[simp] theorem raise_otp (c : Code) (u : BitVec 8) (d : Word) (s : State) : (raise c u d s).otp = s.otp := by
  unfold raise; dsimp only; (repeat' split) <;> simp
@[simp] theorem raise_mem (c : Code) (u : BitVec 8) (d : Word) (s : State) : (raise c u d s).mem = s.mem := by
  unfold raise; dsimp only; (repeat' split) <;> simp
@[simp] theorem raise_dk (c : Code) (u : BitVec 8) (d : Word) (s : State) : (raise c u d s).dk = s.dk := by
  unfold raise; dsimp only; (repeat' split) <;> simp
@[simp] theorem raise_le (c : Code) (u : BitVec 8) (d : Word) (s : State) : (raise c u d s).le = s.le := by
  unfold raise; dsimp only; (repeat' split) <;> simp
@[simp] theorem raise_fab (c : Code) (u : BitVec 8) (d : Word) (s : State) : (raise c u d s).fab = s.fab := by
  unfold raise; dsimp only; (repeat' split) <;> simp
@[simp] theorem raise_save (c : Code) (u : BitVec 8) (d : Word) (s : State) : (raise c u d s).save = s.save := by
  unfold raise; dsimp only; (repeat' split) <;> simp
@[simp] theorem raise_chest (c : Code) (u : BitVec 8) (d : Word) (s : State) : (raise c u d s).chest = s.chest := by
  unfold raise; dsimp only; (repeat' split) <;> simp
@[simp] theorem raise_clk (c : Code) (u : BitVec 8) (d : Word) (s : State) : (raise c u d s).clk = s.clk := by
  unfold raise; dsimp only; (repeat' split) <;> simp
@[simp] theorem raise_pmu (c : Code) (u : BitVec 8) (d : Word) (s : State) : (raise c u d s).pmu = s.pmu := by
  unfold raise; dsimp only; (repeat' split) <;> simp
@[simp] theorem raise_spm (c : Code) (u : BitVec 8) (d : Word) (s : State) : (raise c u d s).spm = s.spm := by
  unfold raise; dsimp only; (repeat' split) <;> simp
@[simp] theorem raise_cab (c : Code) (u : BitVec 8) (d : Word) (s : State) : (raise c u d s).cab = s.cab := by
  unfold raise; dsimp only; (repeat' split) <;> simp
@[simp] theorem raise_ain (c : Code) (u : BitVec 8) (d : Word) (s : State) : (raise c u d s).ain = s.ain := by
  unfold raise; dsimp only; (repeat' split) <;> simp
@[simp] theorem raise_enc (c : Code) (u : BitVec 8) (d : Word) (s : State) : (raise c u d s).enc = s.enc := by
  unfold raise; dsimp only; (repeat' split) <;> simp
@[simp] theorem raise_gpio (c : Code) (u : BitVec 8) (d : Word) (s : State) : (raise c u d s).gpio = s.gpio := by
  unfold raise; dsimp only; (repeat' split) <;> simp
@[simp] theorem raise_ser (c : Code) (u : BitVec 8) (d : Word) (s : State) : (raise c u d s).ser = s.ser := by
  unfold raise; dsimp only; (repeat' split) <;> simp
@[simp] theorem raise_can (c : Code) (u : BitVec 8) (d : Word) (s : State) : (raise c u d s).can = s.can := by
  unfold raise; dsimp only; (repeat' split) <;> simp
@[simp] theorem raise_flash (c : Code) (u : BitVec 8) (d : Word) (s : State) : (raise c u d s).flash = s.flash := by
  unfold raise; dsimp only; (repeat' split) <;> simp

end Sys2Proof.Machine
end

