-- ==== Sys2Proof/Laws/Ops.lean ====
section
/-! SUPPORT. Laws/Ops.lean: what each shared operation can do, once: the queue, recorded causes, the entry to LOCKOUT, and raising a code. -/
namespace Sys2Proof.Machine
open Sys2Proof

/-! ### The queue -/

theorem step_cons (s : State) (c : Instr) (rest : List Instr) (h : s.pending = c :: rest) : step s = exec c { s with pending := rest } := by
  simp [step, h]

theorem step_nil (s : State) (h : s.pending = []) : step s = .next (idleTick s) := by
  simp [step, h]

/-! ### Causes -/

/-- A recorded cause is among the causes, and recording writes the safety monitor's record only. -/
theorem recordCause_causes (c : Code) (u : BitVec 8) (d : Word) (s : State) : ∃ x ∈ (recordCause c u d s).saf.causes, x.code = c := by
  unfold recordCause
  split
  · rename_i h
    simp only [List.any_eq_true, Bool.and_eq_true, decide_eq_true_eq] at h
    obtain ⟨x, hx, hc, _⟩ := h
    exact ⟨x, hx, hc⟩
  · exact ⟨{ code := c, unit := u, detail := d }, by simp, rfl⟩

/-! ### LOCKOUT -/

theorem lockoutOutputs_off (own : Bool) (s : State) : DriveOff (lockoutOutputs own s) := by
  refine ⟨by cases own <;> rfl, by cases own <;> rfl, fun n => ?_⟩
  simp only [lockoutOutputs, Fin.getElem_fin, Vector.getElem_map]
  generalize (if own = true then s else applyBrakes 0xF s).saf.ax[n.val] = a
  by_cases h : a.st = .unused <;> simp [h]

theorem lockoutOutputs_causes (own : Bool) (s : State) : (lockoutOutputs own s).saf.causes = s.saf.causes := by
  cases own <;> rfl

/-- Entering LOCKOUT: the mode and ENTRY, the drive outputs off, the causes kept. -/
theorem lockoutEnter_spec (entry : Nat) (own : Bool) (s : State) :
    (lockoutEnter entry own s).sys.mode = .lockoutFault ∧ (lockoutEnter entry own s).sys.entry = entry ∧
      DriveOff (lockoutEnter entry own s) ∧ (lockoutEnter entry own s).saf.causes = s.saf.causes := by
  refine ⟨by simp [lockoutEnter], by simp [lockoutEnter], ?_, ?_⟩
  · have h := lockoutOutputs_off own (if (watchAbandon s).sys.mode.isBoot then tablesLock (watchAbandon s) else watchAbandon s)
    simpa [lockoutEnter, DriveOff, lockHolds] using h
  · simp only [lockoutEnter, fieldsRefresh_saf, lockHolds]
    rw [lockoutOutputs_causes]
    split <;> simp

/-- A lockout-class code from BOOT or OPERATE enters LOCKOUT for that code. -/
theorem raise_enters (c : Code) (u : BitVec 8) (d : Word) (s : State) (hc : lockoutClass c = true) (hs : FaultEnters s) :
    LockedFor c (raise c u d s) := by
  have h : raise c u d s = lockoutEnter enFault (smFault c) (recordCause c u d s) := by
    unfold raise
    rw [if_pos hc]
    have h1 : s.sys.mode ≠ .lockoutFault := by rintro e; simp [FaultEnters, e, Mode.isBoot, Mode.code] at hs
    have h2 : s.sys.mode ≠ .lockoutMaint := by rintro e; simp [FaultEnters, e, Mode.isBoot, Mode.code] at hs
    have h3 : s.sys.mode ≠ .watch := by rintro e; simp [FaultEnters, e, Mode.isBoot, Mode.code] at hs
    dsimp only
    split
    · exact absurd ‹_› h1
    · exact absurd ‹_› h2
    · exact absurd ‹_› h3
    · rfl
  obtain ⟨h1, _, h3, h4⟩ := lockoutEnter_spec enFault (smFault c) (recordCause c u d s)
  rw [h]
  refine ⟨h1, h3, ?_⟩
  rw [h4]
  exact recordCause_causes c u d s

/-- Raising any code writes nothing outside what LOCKOUT writes. -/
theorem raise_frame (c : Code) (u : BitVec 8) (d : Word) (s : State) : LockoutFrame s (raise c u d s) := by
  simp [LockoutFrame]

/-- A lockout-class code of another unit than the safety monitor, in LOCKOUT: recorded as a further cause, nothing else. -/
theorem raise_inLockout (c : Code) (u : BitVec 8) (d : Word) (s : State) (hc : lockoutClass c = true) (hn : smFault c = false)
    (hs : s.sys.mode.isLockout = true) : raise c u d s = recordCause c u d s := by
  unfold raise
  rw [if_pos hc]
  dsimp only
  split
  · simp [hn]
  · simp [hn]
  · rename_i h; simp [h, Mode.isLockout, Mode.code] at hs
  · rename_i h1 h2 h3
    cases hm : s.sys.mode <;> simp_all [Mode.isLockout, Mode.code]

end Sys2Proof.Machine
end

