-- ==== Sys2Proof/Laws/Calls.lean ====
section
/-! SUPPORT. Laws/Calls.lean: what the shared operations of requests can do, once: a command on a channel port, the checks of R152, the
violation record and the mode requests. -/
namespace Sys2Proof.Machine
open Sys2Proof

/-! ### Channel ports -/

/-- A command on a port whose command is pending sets COLLIDE and nothing else (R142). -/
theorem serve_collide (op : Nat) (c : ChnCall) (s : State) (hd : domDown s 1 = false) (h : s.chn.ports[c.port].pend = true) :
    serve op c s = portCollide c.port s := by
  simp only [serve, hd, h, Bool.false_eq_true, if_true, if_false]

/-- With no command waiting on a port nothing is served ahead of one that comes in (R142). -/
theorem serveAhead_idle (p : Fin 4) (s : State) (h : PortsIdle s) : serveAhead p s = s := by
  have e : portsAhead p s = [] := by
    unfold portsAhead
    exact List.filter_eq_nil_iff.mpr fun q _ => by have := h.2 q; simp_all
  simp [serveAhead, e]

/-- A command that comes in while the ports are idle is served at once, under the mode in force (R142, R158). -/
theorem serve_idle (op : Nat) (c : ChnCall) (s : State) (h : PortsIdle s) :
    serve op c s = portAnswer c.port (callWords op c) (runCall op c s.sys.mode s) := by
  simp only [serve, h.1, h.2 c.port, Bool.false_eq_true, if_false, serveAhead_idle c.port s h]

/-- A served port: the answer stands in its response, DONE is set and PEND is 0; every other port and every other part of the state is what
the command's own body left (R142). -/
theorem portAnswer_spec (p : Fin 4) (w : Vector Word 8) (r : Ans × State) :
    ∃ q, portAnswer p w r = { r.2 with chn := { r.2.chn with ports := vmod r.2.chn.ports p fun _ => q, last := p } } ∧
      q.rsp = r.1.words ∧ q.cmd = w ∧ q.done = true ∧ q.pend = false :=
  ⟨{ r.2.chn.ports[p] with cmd := w, rsp := r.1.words, pend := false, done := true }, by simp [portAnswer, State.modPort, vmod], rfl, rfl, rfl, rfl⟩

/-- A check in a row of checks passes exactly where its refusal does not apply and the checks after it pass. -/
theorem check_passes (refused : Prop) [Decidable refused] (ans : Ans) (later : Except Ans (Fin 256)) (i : Fin 256) :
    (if refused then Except.error ans else later) = .ok i ↔ ¬refused ∧ later = .ok i := by
  by_cases hr : refused <;> simp [hr]

/-- What the checks before a command's own guarantee when they pass (R152). -/
theorem handleCheck_ok (m : Mode) (s : State) (op : Nat) (c : ChnCall) (states : Slot → Bool) (i : Fin 256)
    (h : handleCheck m s op c states = .ok i) :
    modeAllows m op c.port = true ∧ current s c.handle = some i ∧ ¬(callWorld c = .NS ∧ s.chn.slots[i].world = .S) ∧
      (s.sys.switching && ofRecipe s.chn.slots[i] && op != opQuery && op != opHold) = false ∧ states s.chn.slots[i] = true := by
  obtain ⟨mode, h⟩ := (check_passes _ _ _ _).mp h
  cases hc : current s c.handle with
  | none => simp [hc] at h
  | some j =>
    simp only [hc, check_passes, Except.ok.injEq] at h
    obtain ⟨world, change, state, rfl⟩ := h
    exact ⟨by simpa using mode, rfl, world, by simpa using change, by simpa using state⟩

/-- A handle names a slot that is not FREE and whose GEN it carries (R138, R140). -/
theorem current_some (s : State) (x : BitVec 16) (i : Fin 256) (h : current s x = some i) :
    s.chn.slots[i].st ≠ .free ∧ s.chn.slots[i].gen = x.toNat / 256 := by
  simp only [current, Option.ite_none_right_eq_some, Option.some.injEq] at h
  obtain ⟨live, rfl⟩ := h
  exact live

/-! ### Violations -/

/-- A refused access writes the violation record, and beyond it at most what the entry to LOCKOUT writes (R123, R127). -/
theorem violation_frame (i : BitVec 4) (k : Access) (cause a : Nat) (s : State) :
    ∃ v, LockoutFrame { s with sec := v } (violation i k cause a s) := by
  unfold violation
  dsimp only
  split
  · exact ⟨_, raise_frame _ _ _ _⟩
  · exact ⟨s.sec, by simp [LockoutFrame]⟩

/-- Outside the LOCKOUT registers a refused access writes the violation record only. -/
theorem violation_plain (i : BitVec 4) (k : Access) (cause a : Nat) (s : State) (h : k ≠ .write ∨ lockoutBlock a = false) :
    ∃ v, violation i k cause a s = { s with sec := v } ∧ v.violCount = incSat 65535 s.sec.violCount ∧ v.violCause = cause := by
  have e : (decide (k = .write) && lockoutBlock a) = false := by
    rcases h with h | h <;> simp [h]
  unfold violation
  dsimp only
  rw [e]
  exact ⟨_, rfl, rfl, rfl⟩

/-! ### Mode requests -/

/-- A mode request of a world that may make it: COLLIDE while another is pending, else the request is taken and its own checks run (R47). -/
theorem modeAsk_admitted (b : Requester) (action rcp : Nat) (body : State → State) (s : State)
    (h : reqWorld b = .S ∨ blockWritable s .NS 0 = true) :
    modeAsk b action rcp body s =
      if s.sys.resPend then { s with sys := { s.sys with resCollide := true } } else body (modeTake action rcp s) := by
  have e : modeBarred b action s = false := by
    rcases h with h | h <;> simp [modeBarred, h]
  simp only [modeAsk, e, Bool.false_eq_true, if_false]

end Sys2Proof.Machine
end

