-- ==== Sys2Proof/Laws/Hsp.lean ====
section
/-! SUPPORT. Laws/Hsp.lean: lengths of digests, slices of a list with more behind it, and when a datagram passes the layout and HMAC checks of
R456 without its digest being computed. -/
namespace Sys2Proof.Machine
open Sys2Proof

@[simp] theorem leBytes_length (k n : Nat) : (leBytes k n).length = k := by
  induction k generalizing n with
  | zero => rfl
  | succ k ih => simp [leBytes, ih]

@[simp] theorem beBytes_length (k n : Nat) : (beBytes k n).length = k := by simp [beBytes]

/-- SHA-256 gives 32 bytes. -/
@[simp] theorem sha256_length (bs : List Byte) : (sha256 bs).length = 32 := by
  have h : ∀ l : List (BitVec 32), (l.flatMap fun x => beBytes (32 / 8) x.toNat).length = 4 * l.length := by
    intro l
    induction l with
    | nil => rfl
    | cons a l ih => simp only [List.flatMap_cons, List.length_append, beBytes_length, List.length_cons, ih]; omega
  unfold sha256 sha2
  simp only [h, Vector.length_toList]

/-- HMAC-SHA-256 gives 32 bytes. -/
@[simp] theorem hmac256_length (key m : List Byte) : (hmac256 key m).length = 32 := by simp [hmac256]

/-- A slice inside the first part of a list. -/
theorem slice_append_left (m x : List Byte) (o n : Nat) (h : o + n ≤ m.length) : slice (m ++ x) o n = slice m o n := by
  have e : ((m ++ x).drop o).take n = (m.drop o).take n := by
    rw [List.drop_append_of_le_length (by omega), List.take_append_of_le_length (by simp; omega)]
  simp only [slice, e]

/-- A number inside the first part of a list. -/
theorem leAt_append_left (m x : List Byte) (o n : Nat) (h : o + n ≤ m.length) : leAt (m ++ x) o n = leAt m o n := by
  simp only [leAt, slice_append_left m x o n h]

/-- A slice of the last part of a list. -/
theorem slice_append_right (m x : List Byte) (n : Nat) (h : x.length = n) : slice (m ++ x) m.length n = x := by
  simp [slice, ← h]

/-- The four bytes of a number are read back. -/
theorem leNat_leBytes (k n : Nat) : leNat (leBytes k n) = n % 2 ^ (8 * k) := by
  induction k generalizing n with
  | zero => simp [leBytes, leNat, Nat.mod_one]
  | succ k ih =>
    simp only [leBytes, leNat, ih, BitVec.toNat_ofNat]
    have e : 2 ^ (8 * (k + 1)) = 256 * 2 ^ (8 * k) := by rw [Nat.mul_add, Nat.pow_add]; omega
    rw [e, Nat.mod_mul]

/-- The CRC-32C word behind a list reads as its CRC. -/
theorem leAt_sealed (r : List Byte) : leAt (r ++ leBytes 4 (crc32c r).toNat) r.length 4 = (crc32c r).toNat := by
  rw [leAt, slice_append_right r _ 4 (by simp), leNat_leBytes]
  exact Nat.mod_eq_of_lt (by have := (crc32c r).isLt; omega)

/-- A datagram whose digest is the HMAC of what stands before it passes the HMAC check. -/
theorem hspAuth_of (key m : List Byte) (h : m.length = 0x20 + hspLen m) : hspAuth key (m ++ hmac256 key m) = true := by
  have e : hspLen (m ++ hmac256 key m) = hspLen m := leAt_append_left m _ 0xE 2 (by omega)
  simp only [hspAuth, e, ← h, List.take_left', List.drop_left', decide_true]

/-- The layout of a request depends on what stands before its digest only. -/
theorem hspForm_of (key m : List Byte) (h : m.length = 0x20 + hspLen m) (hl : hspLen m ≤ 1024)
    (h0 : slice m 0 3 = [0x48, 0x53, 0x01]) (h1 : leAt m 3 1 = 0 ∨ leAt m 3 1 = 2) (h2 : leAt m 0xD 1 = 0)
    (h3 : slice m 0x14 12 = List.replicate 12 0) : hspForm (m ++ hmac256 key m) = true := by
  have e : hspLen (m ++ hmac256 key m) = hspLen m := leAt_append_left m _ 0xE 2 (by omega)
  have hn : m.length + 32 = 64 + hspLen m := by omega
  simp only [hspForm, e, slice_append_left m _ 0 3 (by omega), leAt_append_left m _ 3 1 (by omega), leAt_append_left m _ 0xD 1 (by omega),
    slice_append_left m _ 0x14 12 (by omega), List.length_append, hmac256_length, h0, h2, h3, hl, hn]
  simpa using h1

end Sys2Proof.Machine
end

