-- ==== Sys2Proof/Laws/Memory.lean ====
section
/-! SUPPORT. Laws/Memory.lean: the laws of the memory: reads after writes, and that every operation keeps the canonical form. -/
namespace Sys2Proof.Machine
open Sys2Proof

theorem memWfFrom_cons (lo : Option Nat) (k : Nat) (b : Byte) (t : List Host.Cell) :
    memWfFrom lo ((k, b) :: t) = true ↔ (∀ l, lo = some l → l < k) ∧ b ≠ memDefault k ∧ memWfFrom (some k) t = true := by
  cases lo <;> simp [memWfFrom, and_assoc]

theorem memWfFrom_weaken (m : List Host.Cell) (l : Nat) (lo : Option Nat) (h : ∀ x, lo = some x → x ≤ l)
    (hm : memWfFrom (some l) m = true) : memWfFrom lo m = true := by
  cases m with
  | nil => simp [memWfFrom]
  | cons c t =>
    obtain ⟨k, b⟩ := c
    rw [memWfFrom_cons] at hm ⊢
    exact ⟨fun x hx => Nat.lt_of_le_of_lt (h x hx) (hm.1 l rfl), hm.2⟩

/-- Below the first cell every address reads as unlisted. -/
theorem memByte_below (m : List Host.Cell) (l a : Nat) (hm : memWfFrom (some l) m = true) (h : a ≤ l) :
    memByte m a = memDefault a := by
  cases m with
  | nil => rfl
  | cons c t =>
    obtain ⟨k, b⟩ := c
    rw [memWfFrom_cons] at hm
    have := hm.1 l rfl
    simp [memByte, show a ≠ k by omega, show a < k by omega]

theorem memCons_wf (lo : Option Nat) (a : Nat) (b : Byte) (t : List Host.Cell) (h : ∀ l, lo = some l → l < a)
    (ht : memWfFrom (some a) t = true) : memWfFrom lo (memCons a b t) = true := by
  unfold memCons
  split
  · exact memWfFrom_weaken t a lo (fun x hx => Nat.le_of_lt (h x hx)) ht
  · rw [memWfFrom_cons]; exact ⟨h, ‹_›, ht⟩

theorem memSet_wfFrom (m : List Host.Cell) (lo : Option Nat) (a : Nat) (b : Byte) (h : ∀ l, lo = some l → l < a)
    (hm : memWfFrom lo m = true) : memWfFrom lo (memSet m a b) = true := by
  induction m generalizing lo with
  | nil => exact memCons_wf lo a b [] h (by simp [memWfFrom])
  | cons c t ih =>
    obtain ⟨k, x⟩ := c
    have hm' := (memWfFrom_cons lo k x t).1 hm
    simp only [memSet]
    split
    · exact memCons_wf lo a b _ h ((memWfFrom_cons _ k x t).2 ⟨fun l hl => by cases hl; assumption, hm'.2⟩)
    · split
      · subst ‹a = k›; exact memCons_wf lo a b t h hm'.2.2
      · exact (memWfFrom_cons lo k x _).2 ⟨hm'.1, hm'.2.1, ih (some k) (fun l hl => by cases hl; omega) hm'.2.2⟩

/-- A write of a byte keeps the canonical form. -/
theorem memSet_wf (m : List Host.Cell) (a : Nat) (b : Byte) (hm : Memory.wf m = true) : Memory.wf (memSet m a b) = true :=
  memSet_wfFrom m none a b (by simp) hm

/-- A write of bytes keeps the canonical form. -/
theorem memSetBytes_wf (bs : List Byte) (m : List Host.Cell) (a : Nat) (hm : Memory.wf m = true) : Memory.wf (memSetBytes m a bs) = true := by
  induction bs generalizing m a with
  | nil => exact hm
  | cons b t ih => exact ih _ _ (memSet_wf m a b hm)

/-- A write of a word keeps the canonical form. -/
theorem memSetWord_wf (m : List Host.Cell) (a : Nat) (w : Word) (hm : Memory.wf m = true) : Memory.wf (memSetWord m a w) = true :=
  memSetBytes_wf _ m a hm

theorem memFilter_wfFrom (p : Host.Cell → Bool) (m : List Host.Cell) (lo : Option Nat) (hm : memWfFrom lo m = true) :
    memWfFrom lo (m.filter p) = true := by
  induction m generalizing lo with
  | nil => simp [memWfFrom]
  | cons c t ih =>
    obtain ⟨k, x⟩ := c
    have hm' := (memWfFrom_cons lo k x t).1 hm
    simp only [List.filter_cons]
    split
    · exact (memWfFrom_cons lo k x _).2 ⟨hm'.1, hm'.2.1, ih _ hm'.2.2⟩
    · exact ih lo (memWfFrom_weaken t k lo (fun l hl => Nat.le_of_lt (hm'.1 l hl)) hm'.2.2)

/-- Clearing a range keeps the canonical form. -/
theorem memClear_wf (m : List Host.Cell) (lo hi : Nat) (hm : Memory.wf m = true) : Memory.wf (memClear m lo hi) = true :=
  memFilter_wfFrom _ m none hm

theorem memByte_memCons (a : Nat) (b : Byte) (t : List Host.Cell) (x : Nat) (ht : memWfFrom (some a) t = true) :
    memByte (memCons a b t) x = if x = a then b else memByte t x := by
  unfold memCons
  split
  · split
    · subst ‹x = a›; subst ‹b = memDefault x›; exact memByte_below t x x ht (le_refl x)
    · rfl
  · simp only [memByte]
    split
    · rfl
    · split
      · exact (memByte_below t a x ht (by omega)).symm
      · rfl

theorem memByte_memSetFrom (m : List Host.Cell) (lo : Option Nat) (a : Nat) (b : Byte) (x : Nat) (hm : memWfFrom lo m = true) :
    memByte (memSet m a b) x = if x = a then b else memByte m x := by
  induction m generalizing lo with
  | nil => exact memByte_memCons a b [] x (by simp [memWfFrom])
  | cons c t ih =>
    obtain ⟨k, y⟩ := c
    have hm' := (memWfFrom_cons lo k y t).1 hm
    simp only [memSet]
    split
    · exact memByte_memCons a b _ x ((memWfFrom_cons _ k y t).2 ⟨fun l hl => by cases hl; assumption, hm'.2⟩)
    · split
      · subst ‹a = k›
        rw [memByte_memCons a b t x hm'.2.2]
        split
        · rfl
        · simp only [memByte, if_neg ‹¬x = a›]
          split
          · exact memByte_below t a x hm'.2.2 (by omega)
          · rfl
      · simp only [memByte]
        split
        · rw [if_neg (by omega)]
        · split
          · rw [if_neg (by omega)]
          · exact ih (some k) hm'.2.2

/-- A read after a write of a byte. -/
theorem memByte_memSet (m : List Host.Cell) (a : Nat) (b : Byte) (x : Nat) (hm : Memory.wf m = true) :
    memByte (memSet m a b) x = if x = a then b else memByte m x := memByte_memSetFrom m none a b x hm

/-- A read after a write of bytes. -/
theorem memByte_memSetBytes (bs : List Byte) (m : List Host.Cell) (a x : Nat) (hm : Memory.wf m = true) :
    memByte (memSetBytes m a bs) x = if h : a ≤ x ∧ x < a + bs.length then bs[x - a]'(by omega) else memByte m x := by
  induction bs generalizing m a with
  | nil => simp [memSetBytes]
  | cons b t ih =>
    simp only [memSetBytes]
    rw [ih _ (a + 1) (memSet_wf m a b hm)]
    by_cases hx : a + 1 ≤ x ∧ x < a + 1 + t.length
    · rw [dif_pos hx, dif_pos (by simp; omega)]
      obtain ⟨i, hi⟩ : ∃ i, x - a = i + 1 := ⟨x - a - 1, by omega⟩
      simp only [hi, List.getElem_cons_succ, show x - (a + 1) = i by omega]
    · rw [dif_neg hx, memByte_memSet m a b x hm]
      by_cases hxa : x = a
      · subst hxa; simp
      · rw [if_neg hxa, dif_neg (by simp; omega)]

/-- Bytes outside a write read as before. -/
theorem memByte_memSetBytes_out (bs : List Byte) (m : List Host.Cell) (a x : Nat) (hm : Memory.wf m = true)
    (h : x < a ∨ a + bs.length ≤ x) : memByte (memSetBytes m a bs) x = memByte m x := by
  rw [memByte_memSetBytes bs m a x hm, dif_neg (by omega)]

/-- Bytes written are read back whole. -/
theorem memBytes_memSetBytes (bs : List Byte) (m : List Host.Cell) (a : Nat) (hm : Memory.wf m = true) :
    memBytes (memSetBytes m a bs) a bs.length = bs := by
  apply List.ext_getElem
  · simp [memBytes]
  · intro i h1 h2
    simp only [memBytes, List.getElem_map, List.getElem_range]
    rw [memByte_memSetBytes bs m a _ hm, dif_pos ⟨by omega, by omega⟩]
    simp

/-- Memory lists nothing after reset. -/
theorem reset_mem_wf : Memory.wf [] = true := rfl

end Sys2Proof.Machine
end

