-- ==== Sys2Proof/Machine/Balls.lean ====
section
/-! DEFINITION. Machine/Balls.lean: the states of the output balls as the state gives them (22_package_and_balls.md R593, R594,
R600-R603, Table 22.9). A ball that is Z is held by its board resistor. -/
namespace Sys2Proof.Machine
open Sys2Proof

/-- What a ball shows. -/
inductive Ball where
  /-- High-impedance. -/
  | z
  /-- Driven high, or a power switch closed. -/
  | high
  /-- Driven low, or a power switch open. -/
  | low
  /-- Driven with a duty code of 0 to 1024. -/
  | pwm (duty : Nat)
  /-- Driven by its interface: a carrier, a clock, frames, a toggle. -/
  | active
deriving DecidableEq, Repr, Inhabited

/-- The columns of Table 22.9, and the states before reset is released and after core off. -/
inductive BallColumn where
  | unpowered | porst | boot | operate | watch | lockout | sag | coreOff
deriving DecidableEq, Repr, Inhabited

/-- The column in force. A sag in WATCH keeps the WATCH states; a sag in BOOT takes the Sag states (R602); LOCKOUT.MAINT is as LOCKOUT. -/
def ballColumn (s : State) : BallColumn :=
  if s.sys.mode = .watch then .watch
  else if s.save.coreOff then .coreOff
  else if s.save.active || s.boot.halted then .sag
  else if s.pmu.rails ≠ .up then .unpowered
  else if !s.pmu.released then .porst
  else match outMode s with
    | .operate => .operate
    | .watch => .watch
    | .lockoutFault | .lockoutMaint => .lockout
    | _ => .boot

/-- The island's interfaces are as configured: OPERATE, LOCKOUT, and a sag there until the core domains are off (Table 22.9). -/
def ioAlive (s : State) : Bool :=
  match ballColumn s with
  | .operate | .lockout => true
  | .sag => !s.boot.halted && !(outMode s).isBoot
  | _ => false

/-- A driven level. -/
def ballOf (b : Bool) : Ball := if b then .high else .low

/-! ### Deck field (R593) -/

/-- The deck drives its outputs: VDK good, CLK_DK running, the record acknowledged, HBD toggling, no sleep command (R486, R593). -/
def deckDrives (s : State) : Bool := s.dk.powered && s.dk.clk && s.dk.acked && s.dk.hbd && !s.dk.asleep

/-- DK_GC_BnXY: the gate commands UH, UL, VH, VL, WH, WL; the chopper switch takes DK_GC_B3WL when B3 is the store, and DK_GC_B3WH
is held off (R269, R270). -/
def ballGate (s : State) (b : Fin 4) (k : Fin 6) : Ball :=
  if !deckDrives s then .z
  else if b = 3 ∧ k = 5 ∧ s.dk.cfg.b3store then ballOf s.dk.chop
  else if b = 3 ∧ k = 4 ∧ s.dk.cfg.b3store then .low
  else ballOf (s.dk.br[b].released && s.dk.br[b].sw[k].on)

/-- STOEn. -/
def ballStoe (s : State) (b : Fin 4) : Ball := if deckDrives s then ballOf s.dk.br[b].stoe else .z

/-! ### Safety outputs -/

/-- An output with its test: off during its off-pulse, on during its on-pulse (R318, R319). -/
def testedOut (s : State) (o : OutTest) (on : Bool) : Ball := ballOf ((on && decide (s.saf.offPulse ≠ some o)) || decide (s.saf.onPulse = some o))

/-- BKnH and BKnL: power switches; only a test turns one on outside OPERATE (R314, R319). -/
def ballBrake (s : State) (n : Fin 4) (lowSide : Bool) : Ball :=
  match ballColumn s with
  | .operate => testedOut s (.bk n lowSide) ((if lowSide then s.saf.bkL else s.saf.bkH).getLsbD n)
  | .boot | .lockout => testedOut s (.bk n lowSide) false
  | _ => .low

/-- SO0-SO3. -/
def ballSo (s : State) (n : Fin 4) : Ball :=
  match ballColumn s with
  | .operate => testedOut s (.so n) (s.saf.so.getLsbD n)
  | .boot | .lockout => testedOut s (.so n) false
  | _ => .low

/-- TO0-TO3: high, low in a test pulse; not pulsing in WATCH. -/
def ballTo (s : State) (n : Fin 4) : Ball :=
  match ballColumn s with
  | .operate | .lockout => ballOf (s.saf.toOut.getLsbD n)
  | .watch | .sag => .high
  | .boot => if s.sys.mode = .bootSelftest ∨ s.sys.mode = .bootCharge then ballOf (s.saf.toOut.getLsbD n) else .z
  | .unpowered | .porst | .coreOff => .z

/-! ### Field outputs -/

/-- FO0-FO31: power switches; a stretched pulse is on to its end (R446). -/
def ballFo (s : State) (n : Fin 32) : Ball :=
  match ballColumn s with
  | .operate | .watch | .lockout => match s.fio.out[n].st with
    | 1 => .high
    | 2 => if s.fio.out[n].stretching s.now then .high else .pwm s.fio.out[n].duty
    | _ => .low
  | _ => .low

/-- FNn_PWM: Z is full speed. -/
def ballFan (s : State) (n : Fin 8) : Ball :=
  match ballColumn s with
  | .operate | .watch | .lockout | .sag => .pwm s.fan[n].duty
  | _ => .z

/-- ENn_CLK: frames on ABS ports. -/
def ballEncClk (s : State) (n : Fin 4) : Ball :=
  if ioAlive s && s.img.enc[n].abs then .active else .z

/-! ### Interfaces -/

/-- The chip select that commands go to: that of the attempt under way in BOOT.IMAGE, or of the flash command that runs (R77, R89, R95). -/
def qspiBusy (s : State) : Option Bool :=
  match s.flash.run with
  | some c => some c.cs
  | none => if inPhase .discovery s || inPhase .header s || inPhase .body s then some s.boot.cs else none

/-- QSPI_CSn_N: driven from BOOT.IMAGE; the selected one goes low for each command, the other stays high. -/
def ballQspiCs (s : State) (n : Fin 2) : Ball :=
  match ballColumn s with
  | .boot | .operate | .lockout | .sag =>
    if !s.boot.csDriven then .z else if qspiBusy s = some (decide (n = 1)) then .active else .high
  | _ => .z

/-- QSPI_CLK: low between commands in BOOT.IMAGE. -/
def ballQspiClk (s : State) : Ball :=
  match ballColumn s with
  | .boot => if !s.boot.qspiDriven then .z else if (qspiBusy s).isSome then .active else .low
  | .lockout => if s.flash.run.isSome then .active else .z
  | _ => .z

/-- QSPI_IO0-QSPI_IO3: driven in BOOT.IMAGE and during flash commands. -/
def ballQspi (s : State) : Ball :=
  match ballColumn s with
  | .boot => if s.boot.qspiDriven then .active else .z
  | .lockout => if s.flash.run.isSome then .active else .z
  | _ => .z

/-- ETHn_TXEN, TXD and MDC. -/
def ballEth (s : State) (p : Fin 2) : Ball :=
  match ballColumn s with
  | .operate | .lockout => if (portIp s p).isSome then .active else .z
  | _ => .z

/-- ETHn_REFCLK as an output. -/
def ballRefclk (s : State) (p : Fin 2) : Ball :=
  match ballColumn s with
  | .operate | .lockout => if s.clk.refo.getLsbD p then .active else .z
  | _ => .z

/-- CANn_TX: recessive (high) after XSYS loss (R484). -/
def ballCan (s : State) (n : Fin 2) : Ball :=
  match ballColumn s, canCfg s with
  | .operate, some c | .lockout, some c => if !c.canEn.getLsbD n then .z else if canOn s n c then .active else .high
  | _, _ => .z

/-- What a HarovLink transmitter carries: frames forward on HL0, idle symbols on HL1 until a fold turns frames back (R366, R378). -/
inductive HlLine where
  | off | idle | frames
deriving DecidableEq, Repr

/-- The line of a port, by the last frame sent. -/
def hlLine (s : State) (n : Fin 2) : HlLine :=
  if !s.hl.on then .off else if s.hl.out.isSome ∧ s.hl.outPort = n then .frames else .idle

/-- HLn_TXP and HLn_TXN: frames and idle symbols alike toggle. -/
def ballHl (s : State) : Ball :=
  match ballColumn s with
  | .operate | .lockout => if s.hl.on then .active else .z
  | _ => .z

/-- STAT_OK. -/
def ballStatOk (s : State) : Ball :=
  if s.save.active || s.save.coreOff || s.boot.halted then .low
  else match ballColumn s with
    | .operate | .watch => .high
    | .lockout | .sag | .coreOff => .low
    | .boot | .porst | .unpowered => .z

/-- ALIVE: toggles at 1 kHz while the safety monitor runs. -/
def ballAlive (s : State) : Ball :=
  if ioAlive s then (if s.saf.alive then .active else .low)
  else if s.sys.mode = .bootCharge ∧ s.saf.alive ∧ (ballColumn s = .boot ∨ ballColumn s = .sag) then .active
  else .z

/-- SAVE_ACT: driven high from confirmation to core off. -/
def ballSaveAct (s : State) : Ball := if s.save.act then .high else .z

/-- RSTOUT_N. -/
def ballRstout (s : State) : Ball :=
  match ballColumn s with
  | .boot => if s.sys.mode = .bootPowerup then .low else .high
  | .operate | .lockout | .sag => .high
  | _ => .z

/-- GPIO balls: outputs follow GPIO_OUT. -/
def ballGpio (s : State) (n : Fin 24) : Ball :=
  if ioAlive s && s.gpio.dir.getLsbD n then ballOf (s.gpio.out.getLsbD n) else .z

/-- SPI_SCK, SPI_MOSI, SPI_CS_N, UART_TX, I2C_SCL and I2C_SDA: as configured (R441). -/
def ballSerial (s : State) : Ball := if ioAlive s then .active else .z

/-- LEGAL_TX: driven by the metrology island while VCAB is in range (R422). -/
def ballLegalTx (s : State) : Ball := if s.cab.run then .active else .z

end Sys2Proof.Machine
end

