-- ==== Sys2Proof/WellFormed.lean ====
section
/-! DEFINITION. WellFormed.lean: the operands that a command can carry on this hardware. A command outside them names no event of it. -/
namespace Sys2Proof

/-- Part of a command group: of at least one frame (R23), and of at most 10 for the deck record (R248). -/
def partWf (p : Option DownPart) : Bool :=
  match p with
  | some x => decide (0 < x.frames) && (match x.cmd with | .record _ _ => decide (x.frames ≤ 10) | _ => true)
  | none => true

/-- A fabric request has 1, 2 or 4 bytes, or whole words in a burst, and one word to write for each beat; only the DMA
transfers frames (R195, R462, R626). -/
def busWf (r : BusReq) : Bool :=
  (r.size == 1 || r.size == 2 || (decide (0 < r.size) && r.size % 4 == 0)) &&
    (decide (r.kind ≠ .write) || r.data.length == (r.size + 3) / 4) && (r.dma.isNone || decide (r.init = .dma))

/-- Only the application core reaches the CSRs of its interrupt router (R628). -/
def targetWf (i : Initiator) (t : RegTarget) : Bool := match t with | .addr _ => true | .csr _ => decide (i = .appCore)

/-- A core write to LMEM names LMEM and has 1, 2 or 4 bytes (Table 24.1). -/
def lmemWf (a : Word) (n : Nat) : Bool :=
  (n == 1 || n == 2 || n == 4) && decide (0x20000000 ≤ a.toNat) && decide (a.toNat < 0x20040000)

/-- WORLD of CMD0 exists on port 1 only (Tables 5.1, 5.4). -/
def callWf (c : ChnCall) : Bool := !c.ns || decide (c.port = 1)

/-- An HSP datagram of a command: header and HMAC, at most 1 024 bytes of payload, and the command's OP (Tables 16.2, 16.3). -/
def hspWf (op : Nat) (d : List Byte) : Bool :=
  decide (0x40 ≤ d.length) && decide (d.length ≤ 0x440) && decide ((d.getD 0xC 0).toNat = op)

/-- The operands of a command are ones it can carry. -/
def Instr.wf (i : Instr) : Bool :=
  match i with
  | .create c | .arm c | .start c | .hold c | .release c | .swap c | .inject c | .injectStop c | .capture c | .destroy c
  | .query c => callWf c
  | .downFrame _ _ part => partWf part
  | .imageHeaderCheck h => h.length == 256
  | .transactionIssue r => busWf r
  | .registerWrite i _ t _ => targetWf i t
  | .lmemCoreWrite _ a n _ => lmemWf a n
  | .liftStart c => callWf c && c.w[0].getLsbD 0
  | .captureStop c => callWf c && decide (c.w[0].extractLsb' 8 4 = 0xF)
  | .hlFramePass _ f => f.length == 224
  | .hlPassEnd _ f => f.length == 224
  | .ethFrameReceive _ f => decide (14 ≤ f.length) && decide (f.length ≤ 1514)
  | .hello _ d => hspWf 0x01 d
  | .close _ d => hspWf 0x02 d
  | .read _ d => hspWf 0x10 d
  | .write _ d => hspWf 0x11 d
  | .chn _ d => hspWf 0x20 d
  | .recipe _ d => hspWf 0x21 d
  | .watch _ d => hspWf 0x22 d
  | .maint _ d => hspWf 0x40 d
  | .status _ d => hspWf 0x30 d
  | .capread _ d => hspWf 0x31 d
  | .tagread _ d => hspWf 0x32 d
  | .tagwrite _ d => hspWf 0x33 d
  | .flashSel _ d => hspWf 0x41 d
  | .flashErase _ d => hspWf 0x42 d
  | .flashProg _ d => hspWf 0x43 d
  | .flashRead _ d => hspWf 0x44 d
  | .flashCommandComplete _ _ d => decide (d.length ≤ 1024)
  | .keyWrite _ d => hspWf 0x45 d
  | .otpSlot _ d => hspWf 0x46 d
  | .secureLock _ d => hspWf 0x47 d
  | .tagUnlock _ d => hspWf 0x48 d
  | .reset _ d => hspWf 0x4F d
  | .writeMultipleRegisters _ _ _ _ d => decide (d.length ≤ 246)
  | .modbusOtherFunction _ _ f => !(f == 3 || f == 4 || f == 6 || f == 16)
  | .upFrame .. | .deckRecordResend | .deckRecordAck | .hbdTimeout .. | .deckLost | .frameRateWindow .. | .deckSleep | .deckWake
  | .deckPowerUp | .vdkFail | .carrierLoss .. | .clkDkLoss | .clkDkReturn | .selectRecipe .. | .enterWatch .. | .enterMaint ..
  | .recipeCreateChannels | .lkrstPress .. | .maintEnHigh | .resetRelease .. | .flashDiscovery .. | .bodyRead .. | .imageCommit
  | .selftestDone | .saveReadySet .. | .saveReadyClear .. | .vsaveFull .. | .capacitanceCheckDone .. | .chargeTimeout
  | .transactionResponse .. | .tagReturn .. | .statusWordWrite .. | .boardWordWrite .. | .fabSnapTake .. | .domainPowerDown ..
  | .quiesceTimeout .. | .domainIsolate .. | .frameTick | .stageEvaluate .. | .sampleDeadline .. | .sampleComplete .. | .captureGap ..
  | .comparatorCrossing .. | .deadTimeElapsed .. | .tminElapsed .. | .bandWindowEnd .. | .ntcRead .. | .blankingEnd .. | .desat ..
  | .overcurrent .. | .dcLinkSample .. | .bridgeTripReport .. | .stoeRaise .. | .gateEnable .. | .stoInhibitTest .. | .stoPathTest ..
  | .safetyCycle .. | .carrierGapReport .. | .safeInputAccept .. | .sbc .. | .brakeApplyElapsed .. | .brakeReleaseElapsed ..
  | .brakeFeedback .. | .axisReset .. | .safAxcmdReset .. | .encCrosscheck .. | .testPulseStart .. | .testPulseEnd .. | .offPulseStart ..
  | .offPulseEnd .. | .onPulseStart .. | .onPulseEnd .. | .smLockstep | .smRamEcc .. | .smRamScrub .. | .smRomCheck .. | .historyWrite
  | .spmAllocation | .powerCriticalClear | .loadRedAssert | .loadRedRelease | .reduceRampStep | .prefTrip | .hostbudTimeout
  | .spmHostbudWrite .. | .liftReevaluate | .liftHoldShort | .hlFrameOrigin | .hlLinkLost | .droopUpdate | .droopLeave | .hlPortDown ..
  | .hlTokenTimeout | .hlBackupOrigin | .cabStart .. | .cabSample .. | .zero .. | .tare .. | .tareClear .. | .record .. | .alibiRead ..
  | .cabStatus .. | .cabCommandComplete | .cabStabilityTimeout | .cabPowerDown .. | .calswChange .. | .hTelegram .. | .cTelegram ..
  | .sTelegram .. | .wTelegram | .displayTimeout | .notLegalClear .. | .xcabLoss | .cabwPop .. | .foMeasure .. | .foShort .. | .foRetry ..
  | .foRetryReset .. | .foClear .. | .openLoadObserve .. | .tachPulse .. | .fanSpinTimeout .. | .fanKickEnd .. | .fanTachTimeout ..
  | .fanRecover .. | .aiScan .. | .encCountEdge .. | .absFrame .. | .gpioEdge .. | .spiDataWrite .. | .spiFrameComplete ..
  | .uartDataWrite .. | .uartByteSent | .uartByteReceived .. | .i2cGo .. | .i2cComplete .. | .ethLinkChange .. | .dmaDescriptorComplete ..
  | .hspSessionTimeout .. | .modbusConnect .. | .modbusIdleTimeout .. | .readHoldingRegisters .. | .readInputRegisters ..
  | .writeSingleRegister .. | .canHeartbeat .. | .joystickFrame .. | .joystickTimeout | .tankFrame .. | .tankTimeout ..
  | .canBusoffRecovery .. | .xsysLoss | .xaonSwitch | .xaonStartTimeout | .xaonLoss | .refclkProbe .. | .vinQualified | .railStart
  | .bringUpFail .. | .bringUpRetry | .fullReset | .railFault .. | .vinOv .. | .vinLow .. | .vfoLow .. | .tempRead .. | .sagConfirm ..
  | .saveCapture | .saveRecordWrite .. | .saveComplete .. | .aonLoss .. | .holdupLow | .sagResume | .resumeHoldupTimeout | .saveHome ..
  | .positionVerifyTimeout .. | .watchCommit | .tokenReturnTimeout | .watchWindowEnd | .watchSample .. | .wakePin .. | .rtcAlarm
  | .wakeStart | .wakeReady .. | .rtcWrite .. | .tagWrite .. | .tagWriteComplete | .tagLock .. | .lifetimeWrite | .hbuPause | .maintEnLow
  | .lkrstPressBegin .. | .prefTripRelease | .vfoReturn .. | .encZEdge .. | .brakeDriverWatchdog | .canBusError .. | .vinBelow10v
  | .bootSagRestart => true

end Sys2Proof
end

