-- ==== Sys2Proof/Tests/Slice0.lean ====
section
/-! SUPPORT. Tests/Slice0.lean: witnesses that the premises of every statement can be met, ill-formed terms that the well-formedness check refuses, and worked examples of the spec. -/
namespace Sys2Proof.Tests
open Sys2Proof Sys2Proof.Machine
set_option Elab.async false

/-- A state in a mode. -/
def atMode (m : Mode) : State := { sys := { mode := m } }

/-- A powered, adopted deck whose four bridges are b, in OPERATE. -/
def withBridge (b : DkBridge) : State :=
  { sys := { mode := .operate }, trst := { adopted := true, linkUp := true }
    dk := { powered := true, clk := true, hbu := true, hbd := true, acked := true, br := .replicate 4 b } }

/-- A released, running bridge. -/
def runBr : DkBridge := { ka := true, stoe := true, released := true, run := true, h := 100 }

/-- Slot 0 holds c, on template 0, in OPERATE. -/
def withSlot (c : Slot) (t : Template) : State :=
  { sys := { mode := .operate }, img := { templates := [t] }, chn := { slots := (Vector.replicate 256 {}).set 0 c } }

/-- A call on port 0 that names slot 0 with GEN 1. -/
def onSlot0 (w0 : Word) : ChnCall := { handle := 0x0100, w := #v[w0, 0, 0, 0, 0, 0, 0] }

/-- Axis 0 is a, with the configuration c, in OPERATE. -/
def withAxis (a : Axis) (c : AxisCfg) : State :=
  { sys := { mode := .operate }, img := { axes := [c] }, saf := { ax := (Vector.replicate 4 {}).set 0 { a with cfgIdx := some 0 } } }

/-- An up-frame of a sequence number and a type, with its CRC. -/
def upWord (seq type : Nat) : BitVec 160 :=
  let m := (16 * seq + type) * 2 ^ 128
  BitVec.ofNat 160 (0xA7 * 2 ^ 152 + m * 2 ^ 16 + (crc16 (bitsMsb m 136)).toNat)

/-- A down-frame of a sequence number and a type, with its CRC. -/
def downWord (seq type : Nat) : BitVec 80 :=
  let m := (16 * seq + type) * 2 ^ 48
  BitVec.ofNat 80 (0xA7 * 2 ^ 72 + m * 2 ^ 16 + (crc16 (bitsMsb m 56)).toNat)

/-- A HarovLink frame of 220 bytes with its CRC. -/
def sealed (b : List Byte) : List Byte := b ++ leBytes 4 (crc32c b).toNat

/-- A session key, and a request of session 7 with counter 5 under it. -/
def key0 : List Byte := List.replicate 32 0x11#8
def reqHead (ns : Bool) (sid ctr op : Nat) (payload : List Byte) : List Byte :=
  [0x48#8, 0x53#8, 0x01#8, if ns then 2#8 else 0#8] ++ leBytes 4 sid ++ leBytes 4 ctr ++ [BitVec.ofNat 8 op, 0#8] ++
    leBytes 2 payload.length ++ leBytes 4 1 ++ List.replicate 12 0#8 ++ payload
def request (ns : Bool) (sid ctr op : Nat) (payload : List Byte) : List Byte :=
  reqHead ns sid ctr op payload ++ hmac256 key0 (reqHead ns sid ctr op payload)

/-- What a request says before its digest is in order. -/
def headOk (m : List Byte) : Bool :=
  decide (m.length = 0x20 + hspLen m) && decide (hspLen m ≤ 1024) && decide (slice m 0 3 = [0x48, 0x53, 0x01]) &&
    (decide (leAt m 3 1 = 0) || decide (leAt m 3 1 = 2)) && decide (leAt m 0xD 1 = 0) && decide (slice m 0x14 12 = List.replicate 12 0)

theorem request_ok {ns : Bool} {sid ctr op : Nat} {pl : List Byte} (h : headOk (reqHead ns sid ctr op pl) = true) :
    hspForm (request ns sid ctr op pl) = true ∧ hspAuth key0 (request ns sid ctr op pl) = true := by
  simp only [headOk, Bool.and_eq_true, Bool.or_eq_true, decide_eq_true_eq] at h
  obtain ⟨⟨⟨⟨⟨h1, h2⟩, h3⟩, h4⟩, h5⟩, h6⟩ := h
  exact ⟨hspForm_of key0 _ h1 h2 h3 h4 h5 h6, hspAuth_of key0 _ h1⟩

def sess7 (ns : Bool) : Session := { sid := 7, ns := ns, port := 0, key := key0 }

/-- A request of session 7 with counter 5 that ETH0 takes from session x. -/
def opens (s : State) (x : Session) (ns : Bool) (op : Nat) (pl : List Byte) : Bool :=
  headOk (reqHead ns 7 5 op pl) && ethUp s 0 && decide (sessOf s (hspSid (request ns 7 5 op pl)) = some x) && decide (x.key = key0) &&
    decide (x.ns = hspNs (request ns 7 5 op pl)) && decide (x.ctr < hspCtr (request ns 7 5 op pl)) && decide (x.rctr < 4294967295)

theorem taken {s : State} {x : Session} {ns : Bool} {op : Nat} {pl : List Byte} (h : opens s x ns op pl = true) :
    HspTaken s 0 (request ns 7 5 op pl) x := by
  simp only [opens, Bool.and_eq_true, decide_eq_true_eq] at h
  obtain ⟨⟨⟨⟨⟨⟨form, up⟩, known⟩, key⟩, world⟩, fresh⟩, room⟩ := h
  exact ⟨up, (request_ok form).1, known, world, key ▸ (request_ok form).2, fresh, room⟩

/-- ETH0 up with the address 10.0.0.1 and one session, in a mode. -/
def withNet (m : Mode) (l : List Session) : State :=
  { sys := { mode := m, maintLowAt := some 0 }, now := 200000, boot := { loaded := true, psk := .replicate 2 (some key0) }
    img := { net := some { ethEn := 1, mbEn := 1, canEn := 3, ip := #v[0x0A000001, 0], hostWords := 0xFFFFFFFF, joyId := some 5, tankN := 2, tankWord := 40 } }
    net := { eth := #v[{ link := true }, {}], sess := l } }

/-- Axis 1, without a configuration, is being released on bridge 2. -/
def releasing (step : Nat) (flt : BitVec 6) : State :=
  { sys := { mode := .operate }, trst := { px := .replicate 4 { flt := flt } }
    saf := { ax := #v[{}, { st := .releasing, relStep := step, relBridges := 4 }, {}, {}] } }

theorem releasing_quiet (step : Nat) (flt : BitVec 6) (m : SmSample) : QuietCycle (releasing step flt) m := by
  refine ⟨⟨rfl, rfl⟩, rfl, fun n c h => ?_⟩
  have e : axisCfg (releasing step flt) n = none := by
    match n with
    | 0 => rfl
    | 1 => rfl
    | 2 => rfl
    | 3 => rfl
  rw [e] at h
  cases h

/-- An IPv4 packet to 10.0.0.1 in a frame to the address 0 of an uncalibrated unit, with its header checksum. -/
def ipFrame (proto : Nat) (m : List Byte) : List Byte :=
  let h (c : Nat) : List Byte := [0x45#8, 0#8] ++ beBytes 2 (20 + m.length) ++ [0#8, 0#8, 0#8, 0#8, 64#8, BitVec.ofNat 8 proto] ++ beBytes 2 c ++ [10#8, 0#8, 0#8, 2#8, 10#8, 0#8, 0#8, 1#8]
  List.replicate 12 0#8 ++ [0x08#8, 0x00#8] ++ h (inetSum (h 0)) ++ m

/-- An ARP request for 10.0.0.1. -/
def arpFrame : List Byte :=
  List.replicate 6 0xFF#8 ++ List.replicate 6 0#8 ++ [0x08#8, 0x06#8, 0#8, 1#8, 8#8, 0#8, 6#8, 4#8, 0#8, 1#8] ++ List.replicate 6 0#8 ++ [10#8, 0#8, 0#8, 2#8] ++
    List.replicate 6 0#8 ++ [10#8, 0#8, 0#8, 1#8]

/-- A TCP segment to a port, with its checksum. -/
def tcpSeg (port : Nat) : List Byte :=
  let h (c : Nat) : List Byte := [0x10#8, 0#8] ++ beBytes 2 port ++ List.replicate 8 0#8 ++ [0x50#8, 0x02#8, 0#8, 0#8] ++ beBytes 2 c ++ [0#8, 0#8]
  h (inetSum (pseudo 0x0A000002 0x0A000001 6 20 ++ h 0))

/-- The metrology island runs. -/
def cabRuns (c : Cab) : State := { cab := { c with run := true } }

/-- A HarovLink frame of ring 1 with given FLAGS, and node 1's slot FRESH. -/
def hlFrame (flags : Nat) (fresh : Bool) : List Byte :=
  sealed ([0#8, 0#8, 1#8, 0#8, 0#8, 2#8, 0#8, 0#8, BitVec.ofNat 8 flags] ++ List.replicate 46 0#8 ++ [if fresh then 0x80#8 else 0#8] ++ List.replicate 164 0#8)

/-- A node that has joined the ring. -/
def hlNode (h : Hl) (c : HlCfg) : State := { img := { hl := some c }, hl := { h with on := true, joined := true } }

/-- A save record with its CRC, and a Drawer. -/
def recHead : List Byte := [0x54#8, 0x57#8, 0x56#8, 0x53#8, 1#8, 0#8, 0#8, 7#8, 5#8] ++ List.replicate 1779 0#8
def goodRecord : List Byte := recHead ++ leBytes 4 (crc32c recHead).toNat
def drawerHead : List Byte := [0x54#8, 0x57#8, 0x56#8, 0x44#8, 1#8, 0#8] ++ List.replicate 8182 0#8
def goodDrawer : List Byte := drawerHead ++ leBytes 4 (crc32c drawerHead).toNat

theorem slice_whole (r : List Byte) : slice r 0 r.length = r := by simp [slice]

theorem goodRecord_valid : recordValid goodRecord = true := by
  have n : recHead.length = 0x6FC := by rw [recHead, List.length_append, List.length_replicate]; rfl
  have a : u32 goodRecord 0x6FC = (crc32c recHead).toNat := by rw [← n]; exact leAt_sealed recHead
  have b : slice goodRecord 0 0x6FC = recHead := by
    rw [goodRecord, slice_append_left _ _ _ _ (by omega), ← n, slice_whole]
  have c : u32 goodRecord 0 = 0x53565754 := by rw [goodRecord, u32, leAt_append_left _ _ _ _ (by omega)]; decide +kernel
  have d : u16 goodRecord 4 = 1 := by rw [goodRecord, u16, leAt_append_left _ _ _ _ (by omega)]; decide +kernel
  have e : u16 goodRecord 6 = 1792 := by rw [goodRecord, u16, leAt_append_left _ _ _ _ (by omega)]; decide +kernel
  simp [recordValid, a, b, c, d, e]

theorem goodDrawer_ok : drawerOk goodDrawer = true := by
  have n : drawerHead.length = 0x1FFC := by rw [drawerHead, List.length_append, List.length_replicate]; rfl
  have a : leAt goodDrawer 0x1FFC 4 = (crc32c drawerHead).toNat := by rw [← n]; exact leAt_sealed drawerHead
  have b : slice goodDrawer 0 0x1FFC = drawerHead := by
    rw [goodDrawer, slice_append_left _ _ _ _ (by omega), ← n, slice_whole]
  have c : leAt goodDrawer 0 4 = 0x44565754 := by rw [goodDrawer, leAt_append_left _ _ _ _ (by omega)]; decide +kernel
  have d : leAt goodDrawer 4 2 = 1 := by rw [goodDrawer, leAt_append_left _ _ _ _ (by omega)]; decide +kernel
  simp [drawerOk, a, b, c, d]

/-- Slot B holds that record; slot A is not valid. -/
def slotBMem : List Host.Cell := memSetBytes [] 0x30005000 goodRecord

theorem slotB_wf (s : State) (h : s.mem = slotBMem) : MemWf s := by
  unfold MemWf
  rw [h]
  exact memSetBytes_wf _ _ _ rfl

theorem slotB_newest (s : State) (h : s.mem = slotBMem) : newestSlot s = some true := by
  have n : goodRecord.length = 1792 := by rw [goodRecord, List.length_append, leBytes_length, recHead, List.length_append, List.length_replicate]; rfl
  have b : slotBytes s true = goodRecord := by
    have := memBytes_memSetBytes goodRecord [] 0x30005000 rfl
    rw [n] at this
    rw [slotBytes, chestBytes, h]
    exact this
  have m (i : Nat) (hi : i < 4) : memByte slotBMem (0x30004000 + i) = 0 := by
    rw [slotBMem, memByte_memSetBytes_out _ _ _ _ rfl (Or.inl (by omega))]
    match i, hi with
    | 0, _ => rfl
    | 1, _ => rfl
    | 2, _ => rfl
    | 3, _ => rfl
  have a : recordValid (slotBytes s false) = false := by
    have e : u32 (slotBytes s false) 0 = 0 := by
      have f : slice (slotBytes s false) 0 4 = [0, 0, 0, 0] := by
        rw [slotBytes, chestBytes, h]
        simp only [memBytes, show (1792 : Nat) = 4 + 1788 from rfl, List.range_add, List.map_append]
        rw [slice_append_left _ _ _ _ (by simp)]
        simpa [slice, List.range_succ] using ⟨m 0 (by omega), m 1 (by omega), m 2 (by omega), m 3 (by omega)⟩
      rw [u32, leAt, f]; rfl
    simp [recordValid, e]
  simp [newestSlot, a, b, goodRecord_valid]

/-- A key-store entry 0 with its flags and CRC. -/
def keyMem (k : List Byte) : List Host.Cell :=
  let e := k ++ [1#8, 0#8, 0#8, 0#8]
  memSetBytes [] 0x30001000 (e ++ leBytes 4 (crc32c e).toNat)

/-- With every slot as at reset nothing is a consumer. -/
theorem noConsumers_of {s : State} (h : s.chn = {}) : NoConsumers s := by
  intro i
  rw [h]
  simp

/-- The value of a check that passes. -/
def okVal {ε α : Type} [Inhabited α] (e : Except ε α) : α := match e with | .ok a => a | .error _ => default
theorem okVal_eq {ε α : Type} [Inhabited α] {e : Except ε α} (h : e.isOk = true) : e = .ok (okVal e) := by
  cases e with
  | ok a => rfl
  | error a => simp [Except.isOk, Except.toBool] at h

/-- A header of two section entries signed by the key whose Ed25519 seed is 32 bytes of 0x01 (RFC 8032). -/
def testPub : List Byte :=
  [138, 136, 227, 221, 116, 9, 241, 149, 253, 82, 219, 45, 60, 186, 93, 114, 202, 103, 9, 191, 29, 148, 18, 27, 243, 116, 136, 1, 180, 15, 111, 92]
def signedHeader : List Byte :=
  leBytes 4 0x49565754 ++ leBytes 2 2 ++ leBytes 2 256 ++ leBytes 4 0x120 ++ leBytes 2 2 ++ List.replicate 178 0#8 ++
  [2, 173, 80, 150, 140, 24, 207, 195, 28, 91, 43, 243, 137, 233, 118, 69, 81, 154, 13, 224, 15, 19, 104, 235, 25, 104, 24, 104, 229, 221, 8, 27] ++
  [90, 71, 117, 122, 199, 148, 1, 173, 15, 84, 136, 156, 27, 241, 130, 230, 16, 75, 120, 44, 228, 176, 213, 155, 211, 127, 82, 217, 43, 198, 167, 11]
/-- BOOT.IMAGE reads a header; key slot 0 holds the hash of that key. -/
def headerState : State :=
  { sys := { mode := .bootImage }, boot := { phase := .header, density := 0x1000000 }, mem := keyMem testPub
    otp := { hash := #v[23727096876957060562942109210375565632364241237442306309794035324146978900350, 0, 0, 0] } }

/-- The smallest image: sections 0x01, 0x02 and 0x30, with one axis record. -/
def tinySafety : List Byte :=
  let b := leBytes 4 0 ++ leBytes 4 0x104 ++ [1#8, 0#8, 1#8] ++ List.replicate 5 0#8 ++
    (List.replicate 4 0#8 ++ List.replicate 4 16#8 ++ (List.replicate 4 (leBytes 2 40)).flatten ++ (List.replicate 8 (leBytes 2 80)).flatten ++
      (List.replicate 8 (leBytes 2 1)).flatten ++ List.replicate 16 0#8 ++ leBytes 2 100 ++ leBytes 2 2000 ++ leBytes 2 100 ++ List.replicate 10 0#8) ++
    (List.replicate 4 0#8 ++ List.replicate 16 4#8 ++ List.replicate 12 0#8) ++
    (List.replicate 8 0xFF#8 ++ leBytes 2 200 ++ leBytes 2 1000 ++ leBytes 2 300 ++ leBytes 2 100 ++ List.replicate 16 0#8) ++
    ([0#8, 0xFF#8, 0xFF#8] ++ List.replicate 8 0#8 ++ [0xFF#8, 0xFE#8, 0xFE#8, 0xFE#8, 0xFE#8] ++ List.replicate 8 0#8 ++ leBytes 2 1 ++
      [0#8, 0#8, 0xFF#8, 0#8] ++ leBytes 2 1 ++ leBytes 4 1 ++ leBytes 2 0 ++ leBytes 2 1 ++ leBytes 2 0 ++ leBytes 2 1 ++ leBytes 4 0 ++
      leBytes 2 10 ++ leBytes 2 1 ++ leBytes 4 0 ++ leBytes 4 1 ++ leBytes 4 1 ++ List.replicate 20 0#8 ++ leBytes 4 1 ++ leBytes 2 10 ++ leBytes 2 1 ++
      leBytes 4 0)
  b ++ leBytes 4 (crc32c b).toNat
def entry (t ofs len : Nat) : List Byte := leBytes 4 t ++ leBytes 4 ofs ++ leBytes 4 len ++ leBytes 4 0
def tinyHeader : List Byte := List.replicate 8 0#8 ++ leBytes 4 0x270 ++ leBytes 2 4 ++ List.replicate 242 0#8
def tinyBody : List Byte :=
  entry 1 0x140 16 ++ entry 2 0x150 16 ++ entry 0x30 0x160 0x104 ++ entry 0x7F 0 0 ++ leBytes 2 3600 ++ List.replicate 30 0#8 ++ tinySafety ++ List.replicate 12 0#8
def commitState : State := { sys := { mode := .bootImage }, boot := { phase := .commit, header := tinyHeader, body := tinyBody } }

theorem withSlot_other (c : Slot) (t : Template) (j : Fin 256) (h : j ≠ 0) : (withSlot c t).chn.slots[j] = {} := by
  have n : j.val ≠ 0 := fun e => h (Fin.ext e)
  simp [withSlot, Fin.getElem_fin, n.symm]
theorem withSlot_idle (c : Slot) (t : Template) (h : c.startPend = false ∧ c.st ≠ .running) : NoConsumers (withSlot c t) := by
  intro j
  by_cases e : j = 0
  · subst e; exact h
  · rw [withSlot_other c t j e]; exact ⟨rfl, by decide⟩

/-- Witness: the premises of each clause of Obligations.StepRunsQueuedCommand are met. -/
theorem witness_StepRunsQueuedCommand :
    (∃ (s : State) (c : Instr) (rest : List Instr), s.pending = c :: rest) ∧
    (∃ (s : State), s.pending = [] ∧ (∀ p : Fin 4, s.chn.ports[p].pend = false) ∧ (∀ n : Fin 32, s.fio.out[n].late = false) ∧ (s.now + 1) % 1000 ≠ 0) ∧
    (∃ (s : State) (p : Fin 4), s.pending = [] ∧ domDown s 1 = false ∧ s.chn.ports[p].pend = true ∧ (∀ q : Fin 4, q ≠ p → s.chn.ports[q].pend = false)) :=
  ⟨⟨{ State.reset with pending := [.maintEnHigh] }, .maintEnHigh, [], by decide +kernel⟩,
   ⟨State.reset, by decide +kernel⟩,
   ⟨{ chn := { ports := #v[{}, {}, {}, { pend := true }] } }, 3, by decide +kernel⟩⟩

/-- Witness: the premises of each clause of Obligations.UpFrames are met. -/
theorem witness_UpFrames :
    (∃ (s : State) (lane : Fin 4) (f : BitVec 160) (l : BitVec 4) (k : BitVec 4), countsErrors s = true ∧ frameOk 160 f = true ∧ frameType 160 f = 1 ∧ s.trst.up[lane].last = some l ∧ frameSeq 160 f = l + 1 + k ∧ k ≠ 15 ∧ popcount16 (histBad (k.toNat - s.trst.up[lane].disc) s.trst.up[lane].hist <<< 1) < 3 ∧ (∀ d : Fin 2, popcount16 s.trst.dnHist[d] < 3)) ∧
    (∃ (s : State) (lane : Fin 4) (f : BitVec 160), countsErrors s = true ∧ (frameOk 160 f = false ∨ s.trst.up[lane].last = some (frameSeq 160 f)) ∧ popcount16 (s.trst.up[lane].hist <<< 1 ||| 1) < 3 ∧ (∀ d : Fin 2, popcount16 s.trst.dnHist[d] < 3)) ∧
    (∃ (s : State) (lane : Fin 4) (f : BitVec 160) (l : BitVec 4), countsErrors s = true ∧ frameOk 160 f = true ∧ frameType 160 f = 0 ∧ s.trst.up[lane].last = some l ∧ frameSeq 160 f = l + 1 ∧ popcount16 (s.trst.up[lane].hist <<< 1) < 3 ∧ (∀ d : Fin 2, popcount16 s.dk.dnHist[d] < 3)) ∧
    (∃ (s : State) (lane : Fin 4) (f : BitVec 160), countsErrors s = true ∧ frameOk 160 f = false ∧ 3 ≤ popcount16 (s.trst.up[lane].hist <<< 1 ||| 1) ∧ FaultEnters s) ∧
    (∃ (s : State) (lane : Fin 4) (f : BitVec 160), countsErrors s = true ∧ frameOk 160 f = false ∧ 3 ≤ popcount16 (s.trst.up[lane].hist <<< 1 ||| 1) ∧ s.sys.mode.isLockout = true) :=
  ⟨⟨{ withBridge {} with trst := { adopted := true, linkUp := true, up := .replicate 4 { last := some 3, hist := 0 } } }, 0, upWord 5 1, 3, 1, by decide +kernel⟩,
   ⟨{ withBridge {} with trst := { adopted := true, linkUp := true, up := .replicate 4 { last := some 3, hist := 0 } } }, 0, 0, by decide +kernel⟩,
   ⟨{ withBridge {} with trst := { adopted := true, linkUp := true, up := .replicate 4 { last := some 3, hist := 0 } } }, 0, upWord 4 0, 3, by decide +kernel⟩,
   ⟨{ withBridge {} with trst := { adopted := true, linkUp := true, up := .replicate 4 { last := some 3, hist := 3 } } }, 0, 0, by decide +kernel, by decide +kernel, by decide +kernel, by unfold FaultEnters; decide +kernel⟩,
   ⟨{ { withBridge {} with trst := { adopted := true, linkUp := true, up := .replicate 4 { last := some 3, hist := 3 } } } with sys := { mode := .lockoutFault } }, 0, 0, by decide +kernel⟩⟩

/-- Witness: the premises of each clause of Obligations.DeckLinkUp are met. -/
theorem witness_DeckLinkUp :
    (∃ (s : State) (lane : Fin 2) (f : BitVec 80) (g : Nat) (u : HyscUpdate), s.dk.clk = true ∧ s.dk.powered = true ∧ frameOk 80 f = true ∧ frameType 80 f = 0 ∧ s.dk.dnLast[lane] ≠ some (frameSeq 80 f) ∧ s.trst.hysc[u.bridge] = some u ∧ kvGet g s.dk.groups = none) ∧
    (∃ (s : State) (lane : Fin 2) (f : BitVec 80) (g : Nat) (n : Nat) (c : DeckCmd), s.dk.clk = true ∧ s.dk.powered = true ∧ frameOk 80 f = true ∧ frameType 80 f = 0 ∧ s.dk.dnLast[lane] ≠ some (frameSeq 80 f) ∧ s.dk.groups = [] ∧ downSent s { group := g, frames := n + 2, cmd := c } = true) ∧
    (∃ (s : State) (lane : Fin 2) (f : BitVec 80) (g : Nat) (m : DownGroup), s.dk.clk = true ∧ s.dk.powered = true ∧ (frameOk 80 f = false ∨ s.dk.dnLast[lane] = some (frameSeq 80 f)) ∧ s.dk.groups = [(g, m)]) ∧
    (∃ (s : State) (lane : Fin 2) (f : BitVec 80) (p : DownPart), s.dk.clk = true ∧ s.dk.powered = true ∧ frameOk 80 f = true ∧ s.dk.dnLast[lane] ≠ some (frameSeq 80 f) ∧ kvGet p.group s.dk.groups = none ∧ downSent s p = false) ∧
    (∃ (s : State), s.trst.recSent = true ∧ s.trst.linkUp = true ∧ mayAdopt s = true) ∧
    (∃ (s : State) (r : DeckRecord) (x : Vector (Option Snap) 4), s.dk.got = some (r, x) ∧ s.trst.recSent = true ∧ s.trst.linkUp = true ∧ mayAdopt s = true) ∧
    (∃ (s : State) (r : DeckRecord) (x : Vector (Option Snap) 4), s.dk.got = some (r, x) ∧ mayAdopt s = false) ∧
    (∃ (s : State), s.trst.adopted = false) ∧
    (∃ (s : State), s.dk.powered = false) ∧
    (∃ (s : State), s.dk.powered = true ∧ s.dk.clk = false) :=
  ⟨⟨{ withBridge {} with trst := { hysc := .replicate 4 (some { (default : HyscUpdate) with bridge := 2 }) } }, 0, downWord 1 0, 0, { (default : HyscUpdate) with bridge := 2 }, by decide +kernel⟩,
   ⟨{ withBridge {} with trst := { hysc := .replicate 4 (some { (default : HyscUpdate) with bridge := 2 }) } }, 1, downWord 1 0, 1, 0, .hysc { (default : HyscUpdate) with bridge := 2 }, by decide +kernel⟩,
   ⟨{ withBridge {} with dk := { powered := true, clk := true, groups := [(1, { got := 1, cmd := .chop false 0 })] } }, 0, 0, 1, { got := 1, cmd := .chop false 0 }, by decide +kernel⟩,
   ⟨withBridge {}, 0, downWord 1 0, ⟨1, 1, .chop false 0⟩, by decide +kernel⟩,
   ⟨{ sys := { mode := .bootSelftest, dkpresent := true }, trst := { linkUp := true, recSent := true } }, by decide +kernel⟩,
   ⟨{ sys := { mode := .bootSelftest, dkpresent := true }, trst := { linkUp := true, recSent := true }, dk := { got := some ({}, .replicate 4 none) } }, {}, .replicate 4 none, by decide +kernel⟩,
   ⟨{ dk := { got := some ({}, .replicate 4 none) } }, {}, .replicate 4 none, by decide +kernel⟩,
   ⟨State.reset, by decide +kernel⟩,
   ⟨State.reset, by decide +kernel⟩,
   ⟨{ dk := { powered := true } }, by decide +kernel⟩⟩

/-- Witness: the premises of each clause of Obligations.DeckSleepAndLoss are met. -/
theorem witness_DeckSleepAndLoss :
    (∃ (s : State), s.dk.powered = true) ∧
    (∃ (s : State), s.dk.powered = true ∧ s.dk.asleep = false) ∧
    (∃ (s : State), s.trst.adopted = true ∧ s.trst.sleep = false ∧ FaultEnters s) ∧
    (∃ (s : State), s.trst.adopted = true ∧ s.trst.sleep = false ∧ s.sys.mode.isLockout = true) ∧
    (∃ (s : State) (n : Nat), s.trst.adopted = true ∧ s.trst.sleep = false ∧ FaultEnters s ∧ (n < 980 ∨ 1020 < n)) ∧
    (∃ (n : Nat), 980 ≤ n ∧ n ≤ 1020) ∧
    (∃ (s : State), s.trst.sleepSent = true ∧ s.dk.powered = true ∧ s.dk.clk = true ∧ s.aon.step = .none) ∧
    (∃ (s : State), s.trst.wakeSent = true ∧ s.dk.powered = true ∧ s.dk.clk = true) :=
  ⟨⟨withBridge runBr, by decide +kernel⟩,
   ⟨withBridge runBr, by decide +kernel⟩,
   ⟨withBridge runBr, by decide +kernel, by decide +kernel, by unfold FaultEnters; decide +kernel⟩,
   ⟨{ withBridge runBr with sys := { mode := .lockoutFault } }, by decide +kernel⟩,
   ⟨withBridge runBr, 979, by decide +kernel, by decide +kernel, by unfold FaultEnters; decide +kernel, by decide +kernel⟩,
   ⟨980, by decide +kernel⟩,
   ⟨{ withBridge runBr with trst := { adopted := true, sleepSent := true } }, by decide +kernel⟩,
   ⟨{ withBridge runBr with trst := { adopted := true, wakeSent := true, sleep := true } }, by decide +kernel⟩⟩

/-- Witness: the premises of each clause of Obligations.LegDecisions are met. -/
theorem witness_LegDecisions :
    (∃ (s : State) (b : Fin 4) (p : Fin 3) (code : Int), s.dk.clk = true ∧ s.dk.br[b].run = true ∧ s.dk.br[b].released = true ∧ s.dk.br[b].vsel = false ∧ s.dk.br[b].active.contains p = true ∧ s.dk.br[b].upper p < code ∧ s.dk.br[b].want[p] = true ∧ s.dk.br[b].sw[hiSw p].tmin = false ∧ s.dk.br[b].pend[p] = none) ∧
    (∃ (s : State) (b : Fin 4) (p : Fin 3) (code : Int), s.dk.clk = true ∧ s.dk.br[b].run = true ∧ s.dk.br[b].released = true ∧ s.dk.br[b].vsel = false ∧ s.dk.br[b].active.contains p = true ∧ code < s.dk.br[b].lower p ∧ s.dk.br[b].want[p] = false ∧ s.dk.br[b].sw[loSw p].tmin = false ∧ s.dk.br[b].pend[p] = none ∧ s.dk.br[b].lower p ≤ s.dk.br[b].upper p) ∧
    (∃ (s : State) (b : Fin 4) (p : Fin 3) (code : Int), s.dk.br[b].lower p ≤ code ∧ code ≤ s.dk.br[b].upper p) ∧
    (∃ (s : State) (b : Fin 4) (p : Fin 3), s.dk.clk = true ∧ s.dk.br[b].pend[p] = some true ∧ s.dk.br[b].sw[hiSw p].tmin = false) ∧
    (∃ (s : State) (b : Fin 4) (p : Fin 3), s.dk.clk = true ∧ s.dk.br[b].pend[p] = some false ∧ s.dk.br[b].sw[loSw p].tmin = false) ∧
    (∃ (s : State) (b : Fin 4) (k : Fin 6), s.dk.cfg.b3store = false ∧ s.dk.br[b].deadDone[swLeg k] = false ∧ s.dk.br[b].vsel = false ∧ s.dk.br[b].defer[swLeg k] = some true ∧ s.dk.br[b].dem[swLeg k] ≠ .rise) :=
  ⟨⟨withBridge { runBr with want := .replicate 3 true }, 0, 0, 4000, by decide +kernel⟩,
   ⟨withBridge runBr, 0, 0, 0, by decide +kernel⟩,
   ⟨withBridge runBr, 0, 0, 2148, by decide +kernel⟩,
   ⟨withBridge { runBr with pend := .replicate 3 (some true) }, 0, 0, by decide +kernel⟩,
   ⟨withBridge { runBr with pend := .replicate 3 (some false) }, 0, 2, by decide +kernel⟩,
   ⟨withBridge { runBr with defer := .replicate 3 (some true) }, 0, 5, by decide +kernel⟩⟩

/-- Witness: the premises of each clause of Obligations.BandAndChopper are met. -/
theorem witness_BandAndChopper :
    (∃ (s : State) (b : Fin 4), s.dk.clk = true ∧ s.dk.br[b].winOn = true) ∧
    (∃ (s : State) (b : Fin 4), s.dk.br[b].winOn = false) ∧
    (∃ (s : State) (v : BitVec 31) (on : Word) (off : Word), s.dk.clk = true ∧ s.dk.powered = true ∧ s.dk.acked = true ∧ s.dk.cfg.b3store = true ∧ s.dk.chopPair = some (on, off) ∧ s.dk.chopTmin = false ∧ v.toNat ≤ dcCode s.dk.cfg.dcOv[3] ∧ s.dk.cfg.dcUv[3] = 0) :=
  ⟨⟨withBridge { runBr with winOn := true }, 0, by decide +kernel⟩,
   ⟨withBridge runBr, 3, by decide +kernel⟩,
   ⟨{ withBridge runBr with dk := { powered := true, clk := true, acked := true, cfg := { b3store := true, dcOv := .replicate 4 4000 }, chopPair := some (2000000000, 1900000000) } }, 2000000000, 2000000000, 1900000000, by decide +kernel⟩⟩

/-- Witness: the premises of each clause of Obligations.BridgeTrips are met. -/
theorem witness_BridgeTrips :
    (∃ (s : State) (b : Fin 4) (k : Fin 6) (lv : BitVec 6), s.dk.clk = true ∧ s.dk.br[b].released = true ∧ s.dk.br[b].fault = false ∧ s.dk.br[b].flt = 0 ∧ lv = BitVec.ofNat 6 (2 ^ k.val) ∧ s.dk.br[b].sw[k].blank = false) ∧
    (∃ (s : State) (b : Fin 4), s.dk.br[b].released = false ∧ s.dk.br[b].fault = false) ∧
    (∃ (s : State) (b : Fin 4) (k : Fin 6) (lv : BitVec 6), s.dk.clk = true ∧ s.dk.br[b].released = true ∧ s.dk.br[b].fault = false ∧ lv.getLsbD k = true) ∧
    (∃ (s : State) (b : Fin 4) (code : BitVec 12), s.dk.clk = true ∧ s.dk.powered = true ∧ s.dk.acked = true ∧ s.dk.br[b].fault = false ∧ (2048 + s.dk.cfg.oc[b] < code.toNat ∨ code.toNat + s.dk.cfg.oc[b] < 2048)) ∧
    (∃ (s : State) (b : Fin 4) (p : Fin 3) (code : BitVec 12) (tm : Word), s.dk.clk = true ∧ s.dk.powered = true ∧ s.dk.acked = true ∧ s.dk.br[b].fault = true ∧ s.dk.br[b].snap.valid2 = false ∧ s.dk.br[b].snap.src1 ≠ snapSrc 2 (2 * p.val) ∧ tm ≠ s.dk.br[b].snap.t1 ∧ (tm - s.dk.br[b].snap.t1).toNat ≤ 400 ∧ b ≠ 3 ∧ 2048 + s.dk.cfg.oc[b] < code.toNat) ∧
    (∃ (s : State) (b : Fin 4) (v : BitVec 31), s.dk.clk = true ∧ s.dk.powered = true ∧ s.dk.acked = true ∧ b ≠ 3 ∧ s.dk.br[b].fault = false ∧ dcCode s.dk.cfg.dcOv[b] < v.toNat ∧ s.dk.br[b].ovCnt = 1 ∧ s.dk.cfg.dcUv[b] = 0) ∧
    (∃ (s : State) (b : Fin 4), s.dk.clk = true ∧ s.dk.powered = true ∧ s.dk.acked = true ∧ s.dk.br[b].released = true ∧ s.dk.br[b].fault = false ∧ s.dk.cfg.ntcTrip[b] ≠ 0 ∧ s.dk.br[b].ntcCnt = 2) :=
  ⟨⟨withBridge runBr, 0, 5, 32, by decide +kernel⟩,
   ⟨withBridge {}, 0, by decide +kernel⟩,
   ⟨withBridge runBr, 0, 0, 1, by decide +kernel⟩,
   ⟨withBridge runBr, 3, 2050, by decide +kernel⟩,
   ⟨withBridge { runBr with fault := true, snap := { valid1 := true, src1 := 1 } }, 0, 0, 4095, 400, by decide +kernel⟩,
   ⟨withBridge { runBr with ovCnt := 1 }, 0, 524289, by decide +kernel⟩,
   ⟨{ withBridge runBr with dk := { powered := true, clk := true, acked := true, br := .replicate 4 { runBr with ntcCnt := 2 }, cfg := { ntcTrip := .replicate 4 100 } } }, 0, by decide +kernel⟩⟩

/-- Witness: the premises of each clause of Obligations.BridgeReleaseAndReports are met. -/
theorem witness_BridgeReleaseAndReports :
    (∃ (s : State) (b : Fin 4), relCond s b = true ∧ s.saf.ka.getLsbD b = true ∧ s.dk.br[b].testHold = false) ∧
    (∃ (s : State) (b : Fin 4), (s.dk.hbd = true ∨ hbdToggles s = false) ∧ (s.dk.br[b].ka = false ∨ s.dk.hbd = false ∨ s.dk.br[b].fault = true ∨ s.dk.acked = false ∨ s.dk.powered = false)) ∧
    (∃ (s : State), s.dk.hbd = false ∧ hbdToggles s = true ∧ s.dk.powered = true) ∧
    (∃ (s : State) (b : Fin 4), relCond s b = true ∧ s.dk.br[b].stoe = true ∧ s.dk.br[b].released = false ∧ s.dk.br[b].run = true ∧ s.dk.br[b].flt = 0) ∧
    (∃ (s : State) (b : Fin 4), relCond s b = true ∧ s.dk.br[b].stoe = true ∧ s.dk.br[b].released = false ∧ s.dk.br[b].run = false ∧ s.dk.br[b].flt = 0) ∧
    (∃ (s : State) (b : Fin 4) (k : Fin 6), relCond s b = true ∧ s.dk.br[b].stoe = true ∧ s.dk.br[b].released = false ∧ s.dk.br[b].flt = BitVec.ofNat 6 (2 ^ k.val) ∧ s.dk.br[b].sw[k].blank = false) ∧
    (∃ (s : State) (b : Fin 4), s.dk.trip[b] = true ∧ s.trst.adopted = true ∧ FaultEnters s) ∧
    (∃ (s : State) (b : Fin 4) (k : Fin 6), inhibitTestable s b k = true ∧ FaultEnters s) ∧
    (∃ (s : State) (b : Fin 4), s.dk.br[b].released = true ∧ FaultEnters s) :=
  ⟨⟨{ withBridge { ka := true } with saf := { ka := 0xF } }, 3, by decide +kernel⟩,
   ⟨withBridge {}, 0, by decide +kernel⟩,
   ⟨{ dk := { powered := true }, pmu := { released := true } }, by decide +kernel⟩,
   ⟨withBridge { ka := true, stoe := true, run := true }, 0, by decide +kernel⟩,
   ⟨withBridge { ka := true, stoe := true }, 0, by decide +kernel⟩,
   ⟨withBridge { ka := true, stoe := true, flt := 32 }, 3, 5, by decide +kernel⟩,
   ⟨{ withBridge { fault := true } with dk := { trip := .replicate 4 true } }, 0, by decide +kernel, by decide +kernel, by unfold FaultEnters; decide +kernel⟩,
   ⟨withBridge { runBr with sw := #v[{ on := true }, {}, {}, {}, {}, {}] }, 0, 1, by decide +kernel, by unfold FaultEnters; decide +kernel⟩,
   ⟨withBridge runBr, 0, by decide +kernel, by unfold FaultEnters; decide +kernel⟩⟩

/-- Witness: the premises of each clause of Obligations.RecipeChange are met. -/
theorem witness_RecipeChange :
    (∃ (s : State), s.sys.resPend = true) ∧
    (∃ (s : State) (r : BitVec 4) (m : ModeTable), s.sys.resPend = false ∧ s.img.mode = some m ∧ m.recipes.length ≤ r.toNat) ∧
    (∃ (s : State) (r : BitVec 4) (x : Recipe), s.sys.resPend = false ∧ blockWritable s .NS 0 = true ∧ recipeAt s r.toNat = some x ∧ x.nsSelect = false) ∧
    (∃ (s : State) (r : BitVec 4) (x : Recipe), s.sys.resPend = false ∧ recipeAt s r.toNat = some x ∧ s.sys.mode ≠ .operate) ∧
    (∃ (s : State) (r : BitVec 4) (x : Recipe), s.sys.resPend = false ∧ recipeAt s r.toNat = some x ∧ recipeRefusal (modeTake actSelect r.toNat s) .S r.toNat true = none ∧ goingSlots (modeTake actSelect r.toNat s) x = []) ∧
    (∃ (s : State) (c : RcpChange), s.sys.change = some c ∧ changeFreed s c = false) ∧
    (∃ (s : State) (c : RcpChange) (r : Recipe), s.sys.change = some c ∧ c.step = 1 ∧ c.asked = true ∧ changeFreed s c = true ∧ recipeAt s c.rcp = some r ∧ r.chans = [] ∧ s.sys.resPend = true) :=
  ⟨⟨{ sys := { resPend := true } }, by decide +kernel⟩,
   ⟨{ ({} : State) with sys := { mode := .operate }, img := { mode := some { recipes := [{}] } } }, 1, { recipes := [{}] }, by decide +kernel⟩,
   ⟨{ ({ ({} : State) with sys := { mode := .operate }, img := { mode := some { recipes := [{}] } } } : State) with sec := { bwt := 1 } }, 0, {}, by decide +kernel⟩,
   ⟨{ ({ ({} : State) with sys := { mode := .operate }, img := { mode := some { recipes := [{}] } } } : State) with sys := {} }, 0, {}, by decide +kernel⟩,
   ⟨{ ({} : State) with sys := { mode := .operate }, img := { mode := some { recipes := [{}] } } }, 0, {}, by decide +kernel⟩,
   ⟨{ withSlot { st := .draining } {} with sys := { change := some { rcp := 0, destroyed := [0] } } }, { rcp := 0, destroyed := [0] }, by decide +kernel⟩,
   ⟨{ ({ ({} : State) with sys := { mode := .operate }, img := { mode := some { recipes := [{}] } } } : State) with sys := { resPend := true, change := some { rcp := 0 } } }, { rcp := 0 }, {}, by decide +kernel⟩⟩

/-- Witness: the premises of each clause of Obligations.MaintenanceMode are met. -/
theorem witness_MaintenanceMode :
    (∃ (s : State), s.sys.resPend = false ∧ s.sys.mode = .lockoutFault ∧ maintLow s = true) ∧
    (∃ (s : State), s.sys.resPend = false) ∧
    (∃ (s : State), s.sys.resPend = false ∧ maintLow s = false) ∧
    (∃ (s : State), s.sys.resPend = false) ∧
    (∃ (s : State), s.sys.resPend = false ∧ s.sys.mode ≠ .lockoutFault ∧ maintLow s = true) ∧
    (∃ (s : State), s.sys.maintLowAt = none) ∧
    (∃ (s : State), s.sys.mode ≠ .lockoutMaint) ∧
    (∃ (s : State), s.sys.mode = .lockoutMaint) :=
  ⟨⟨{ sys := { mode := .lockoutFault, maintLowAt := some 0 }, now := 100000 }, by decide +kernel⟩,
   ⟨State.reset, by decide +kernel⟩,
   ⟨{ sys := { mode := .lockoutFault, maintLowAt := some 0 }, now := 99999 }, by decide +kernel⟩,
   ⟨State.reset, by decide +kernel⟩,
   ⟨{ sys := { mode := .operate, maintLowAt := some 0 }, now := 100000 }, by decide +kernel⟩,
   ⟨State.reset, by decide +kernel⟩,
   ⟨State.reset, by decide +kernel⟩,
   ⟨atMode .lockoutMaint, by decide +kernel⟩⟩

/-- Witness: the premises of each clause of Obligations.DeliberateReset are met. -/
theorem witness_DeliberateReset :
    (∃ (s : State) (t0 : Nat), s.saf.pressAt = some t0 ∧ 500000 ≤ s.now - t0 ∧ s.now - t0 ≤ 3000000 ∧ s.sys.mode = .lockoutFault ∧ s.sys.entry = enFault ∧ (∀ c ∈ s.saf.causes, codeClass c.code = 2 ∧ c.code ≠ cDeckLost) ∧ (∀ i : Fin 256, s.chn.slots[i].autoPend = false) ∧ s.sys.lkFrom = .operate) ∧
    (∃ (s : State) (t0 : Nat), s.saf.pressAt = some t0 ∧ 500000 ≤ s.now - t0 ∧ s.now - t0 ≤ 3000000 ∧ s.sys.mode = .lockoutFault ∧ s.sys.entry = enFault ∧ (∀ c ∈ s.saf.causes, codeClass c.code = 2 ∧ c.code ≠ cDeckLost) ∧ (s.sys.lkFrom = .bootSelftest ∨ s.sys.lkFrom = .bootCharge)) ∧
    (∃ (s : State) (t0 : Nat), s.saf.pressAt = some t0 ∧ 500000 ≤ s.now - t0 ∧ s.now - t0 ≤ 3000000 ∧ s.sys.mode = .lockoutFault ∧ s.sys.entry = enFault ∧ (∀ c ∈ s.saf.causes, codeClass c.code = 2 ∧ c.code ≠ cDeckLost ∧ c.code ≠ cClockFail) ∧ (s.sys.lkFrom = .bootPowerup ∨ s.sys.lkFrom = .bootImage)) ∧
    (∃ (s : State) (t0 : Nat), s.saf.pressAt = some t0 ∧ s.now - t0 < 500000) ∧
    (∃ (s : State) (t0 : Nat), s.saf.pressAt = some t0 ∧ 3000000 < s.now - t0) ∧
    (∃ (s : State) (t0 : Nat), s.saf.pressAt = some t0 ∧ 500000 ≤ s.now - t0 ∧ s.now - t0 ≤ 3000000 ∧ s.sys.mode = .lockoutFault ∧ (s.sys.entry = enStrap ∨ (∃ c ∈ s.saf.causes, codeClass c.code = 3 ∨ codeClass c.code = 4))) :=
  ⟨⟨{ sys := { mode := .lockoutFault, entry := enFault, lkFrom := .operate }, now := 500000, saf := { pressAt := some 0, causes := [{ code := 0x0204 }] } }, 0, by decide +kernel⟩,
   ⟨{ sys := { mode := .lockoutFault, entry := enFault, lkFrom := .bootCharge }, now := 3000000, saf := { pressAt := some 0, causes := [{ code := 0x0204 }] } }, 0, by decide +kernel⟩,
   ⟨{ sys := { mode := .lockoutFault, entry := enFault, lkFrom := .bootImage }, now := 500000, saf := { pressAt := some 0, causes := [] } }, 0, by decide +kernel⟩,
   ⟨{ sys := { mode := .lockoutFault, entry := enFault, lkFrom := .operate }, now := 499999, saf := { pressAt := some 0, causes := [] } }, 0, by decide +kernel⟩,
   ⟨{ sys := { mode := .lockoutFault, entry := enFault, lkFrom := .operate }, now := 3000001, saf := { pressAt := some 0, causes := [] } }, 0, by decide +kernel⟩,
   ⟨{ sys := { mode := .lockoutFault, entry := enStrap, lkFrom := .bootPowerup }, now := 500000, saf := { pressAt := some 0, causes := [] } }, 0, by decide +kernel⟩⟩

/-- Witness: the premises of each clause of Obligations.ResetReleaseAndBootEnd are met. -/
theorem witness_ResetReleaseAndBootEnd :
    (∃ (s : State) (b : BitVec 2) (tn : Bool), s.sys.mode = .bootPowerup ∧ s.pmu.released = false ∧ s.pmu.rails = .up ∧ (b = 3 ∨ tn = false)) ∧
    (∃ (s : State) (b : BitVec 2), s.sys.mode = .bootPowerup ∧ s.pmu.released = false ∧ s.pmu.rails = .up ∧ b ≠ 3) ∧
    (∃ (s : State) (b : BitVec 2), s.sys.mode = .bootPowerup ∧ s.pmu.released = false ∧ s.pmu.rails = .up ∧ b ≠ 3) ∧
    (∃ (s : State), s.sys.mode = .bootPowerup ∧ s.pmu.released = false ∧ s.pmu.rails = .up) ∧
    (∃ (s : State), s.pmu.released = true) ∧
    (∃ (s : State), s.sys.mode = .bootSelftest ∧ s.boot.halted = false) ∧
    (∃ (s : State), s.sys.mode = .bootCharge ∧ s.boot.halted = false ∧ s.save.ready = true ∧ s.boot.capCheck = false) ∧
    (∃ (s : State) (v1 : BitVec 16) (v2 : BitVec 16) (c : Nat), s.sys.mode = .bootCharge ∧ s.boot.halted = false ∧ s.boot.capCheck = true ∧ s.save.ready = true ∧ s.img.mode = none ∧ v2.toNat < v1.toNat ∧ (v1.toNat - v2.toNat) * c = 50000 ∧ 100 ≤ c ∧ (∀ i : Fin 256, s.chn.slots[i].autoPend = false)) ∧
    (∃ (s : State) (v1 : BitVec 16) (v2 : BitVec 16) (c : Nat), s.sys.mode = .bootCharge ∧ s.boot.halted = false ∧ s.boot.capCheck = true ∧ v2.toNat < v1.toNat ∧ (v1.toNat - v2.toNat) * c = 50000 ∧ c < 100) ∧
    (∃ (s : State), s.sys.mode = .bootCharge ∧ s.boot.halted = false) :=
  ⟨⟨State.reset, 3, true, by decide +kernel⟩,
   ⟨State.reset, 0, by decide +kernel⟩,
   ⟨State.reset, 2, by decide +kernel⟩,
   ⟨State.reset, by decide +kernel⟩,
   ⟨{ pmu := { released := true } }, by decide +kernel⟩,
   ⟨atMode .bootSelftest, by decide +kernel⟩,
   ⟨{ sys := { mode := .bootCharge }, save := { ready := true } }, by decide +kernel⟩,
   ⟨{ sys := { mode := .bootCharge }, save := { ready := true }, boot := { capCheck := true } }, 4500, 4000, 100, by decide +kernel⟩,
   ⟨{ sys := { mode := .bootCharge }, save := { ready := true }, boot := { capCheck := true } }, 4500, 3500, 50, by decide +kernel⟩,
   ⟨atMode .bootCharge, by decide +kernel⟩⟩

set_option maxRecDepth 100000 in
/-- Witness: the premises of each clause of Obligations.ImageVerification are met. -/
theorem witness_ImageVerification :
    (∃ (s : State) (f : FlashId), inPhase .discovery s = true ∧ discoveryFail f = none) ∧
    (∃ (s : State) (h : List Byte), inPhase .header s = true ∧ h.length = 256 ∧ headerFail s h = none) ∧
    (∃ (s : State) (b : List Byte), inPhase .body s = true ∧ b.length = u32 s.boot.header 8 - 256 ∧ sha256 b = slice s.boot.header 0x28 32) ∧
    (∃ (s : State) (p : Parsed), inPhase .commit s = true ∧ commitCheck s.boot.header (s.boot.header ++ s.boot.body) = .ok p) ∧
    (∃ (s : State) (f : FlashId) (d : Nat), inPhase .discovery s = true ∧ discoveryFail f = some d ∧ s.sys.bootsel = 2 ∧ s.boot.cs = false) ∧
    (∃ (s : State) (h : List Byte) (d : Nat), inPhase .header s = true ∧ h.length = 256 ∧ headerFail s h = some d ∧ (s.sys.bootsel ≠ 2 ∨ s.boot.cs = true)) ∧
    (∃ (s : State) (b : List Byte), inPhase .body s = true ∧ sha256 b ≠ slice s.boot.header 0x28 32 ∧ (s.sys.bootsel ≠ 2 ∨ s.boot.cs = true)) ∧
    (∃ (s : State) (d : Nat), inPhase .commit s = true ∧ commitCheck s.boot.header (s.boot.header ++ s.boot.body) = .error d ∧ (s.sys.bootsel ≠ 2 ∨ s.boot.cs = true)) :=
  ⟨⟨{ sys := { mode := .bootImage }, boot := { phase := .discovery } }, { id := 0x204017, sfdp := true, dw1 := 0x400000, dw2 := 0x07FFFFFF, dw15 := some 0, qe := false }, by decide +kernel⟩,
   ⟨headerState, signedHeader, by decide +kernel⟩,
   ⟨{ sys := { mode := .bootImage }, boot := { phase := .body, header := List.replicate 8 0 ++ [0, 1, 0, 0] ++ List.replicate 28 0 ++ sha256 [] } }, [], by decide +kernel⟩,
   ⟨commitState, okVal (commitCheck tinyHeader (tinyHeader ++ tinyBody)), by decide +kernel, okVal_eq (by decide +kernel)⟩,
   ⟨{ sys := { mode := .bootImage, bootsel := 2 }, boot := { phase := .discovery } }, { id := 0, sfdp := true, dw1 := 0, dw2 := 0, dw15 := none, qe := false }, 1, by decide +kernel⟩,
   ⟨{ sys := { mode := .bootImage }, boot := { phase := .header } }, List.replicate 256 0, 4, by decide +kernel⟩,
   ⟨{ sys := { mode := .bootImage }, boot := { phase := .body } }, [], by decide +kernel⟩,
   ⟨{ sys := { mode := .bootImage }, boot := { phase := .commit } }, 11, by decide +kernel, rfl, by decide +kernel⟩⟩

/-- Witness: the premises of each clause of Obligations.RegisterWrites are met. -/
theorem witness_RegisterWrites :
    (∃ (s : State) (i : Initiator) (w : World) (a : Word) (v : Word) (b : Nat) (o : Nat), (i = .jtag → debugOpen s w = true) ∧ i ≠ .cabWindow ∧ target a.toNat = .periph b o ∧ pdFault s (initId i) a.toNat = false ∧ tagFree s (initPool i (initWorld i w)) = true ∧ regDecodeFault (tagHeld s (initId i) (initWorld i w) a 4 v) .write b o 4 = false ∧ regWorldCheck (tagHeld s (initId i) (initWorld i w) a 4 v) (initId i) (initWorld i w) .write b o = .ok) ∧
    (∃ (s : State), s.fab.dom[1] = .on ∧ TagReady s 0 ∧ s.sec.lock = false) ∧
    (∃ (s : State), s.fab.dom[1] = .on ∧ TagReady s 0 ∧ s.sec.lock = true) ∧
    (∃ (s : State) (a : Word) (v : Word) (b : Nat) (o : Nat), target a.toNat = .periph b o ∧ (b = 1 ∨ b = 2 ∨ b = 7 ∨ b = 8 ∨ b = 22) ∧ TagReady s 1 ∧ regDecodeFault (tagHeld s 1 .NS a 4 v) .write b o 4 = false ∧ pdFault s 1 a.toNat = false ∧ s.sec.bwt.getLsbD b = false) ∧
    (∃ (s : State) (a : Word) (v : Word) (b : Nat) (o : Nat), target a.toNat = .periph b o ∧ b ∉ [1, 2, 5, 6, 7, 8, 21, 22] ∧ TagReady s 1 ∧ regDecodeFault (tagHeld s 1 .NS a 4 v) .write b o 4 = false ∧ pdFault s 1 a.toNat = false ∧ s.sec.bwt.getLsbD b = false) :=
  ⟨⟨atMode .operate, .secureCore, .S, 0x400E000C, 0, 14, 12, by decide +kernel⟩,
   ⟨State.reset, by unfold TagReady; decide +kernel⟩,
   ⟨{ sec := { lock := true } }, by unfold TagReady; decide +kernel⟩,
   ⟨{ atMode .operate with sec := { bwt := 0 } }, 0x40080004, 0, 8, 4, by unfold TagReady; decide +kernel⟩,
   ⟨{ atMode .operate with sec := { bwt := 0 } }, 0x400E000C, 0, 14, 12, by unfold TagReady; decide +kernel⟩⟩

/-- Witness: the premises of each clause of Obligations.LmemAndBoardWrites are met. -/
theorem witness_LmemAndBoardWrites :
    (∃ (s : State) (w : World) (a : Word) (n : Nat) (o : Nat), target a.toNat = .lmem ∧ lmemRec a.toNat = some (n, o) ∧ o < 0x40 ∧ a.toNat % 4 = 0 ∧ lmemWritable s a.toNat = true ∧ (w = .S ∨ lmemWorld s a.toNat = .NS) ∧ s.fab.dom[1] = .on ∧ s.fab.dom[2] = .on ∧ TagReady s (idPool (coreInit w) w)) ∧
    (∃ (s : State) (w : World) (a : Word), target a.toNat = .lmem ∧ lmemWritable s a.toNat = false ∧ (pdFault s (coreInit w) a.toNat = true ∨ TagReady s (idPool (coreInit w) w))) ∧
    (∃ (s : State) (w : World) (r : Fin 2048) (x : RecOwner), recOwner s r.val = some x ∧ (w = .S ∨ s.chn.slots[x.slot].world = .NS) ∧ s.fab.dom[1] = .on ∧ s.fab.dom[2] = .on ∧ TagReady s (idPool (coreInit w) w) ∧ MemWf s) ∧
    (∃ (s : State) (w : World) (n : Fin 64), hostWord s n.val = true ∧ s.fab.dom[1] = .on ∧ s.fab.dom[2] = .on ∧ TagReady s (idPool (coreInit w) w)) ∧
    (∃ (s : State) (w : World) (n : Fin 64), hostWord s n.val = false ∧ (pdFault s (coreInit w) (0x40060100 + 4 * n.val) = true ∨ TagReady s (idPool (coreInit w) w))) :=
  ⟨⟨{ withSlot { st := .running } {} with le := { owners := [(0, { slot := 0, stage := 0 })] } }, .S, 0x20000020, 0, 0x20, by unfold TagReady; decide +kernel⟩,
   ⟨State.reset, .S, 0x20000000, by unfold TagReady; decide +kernel⟩,
   ⟨{ withSlot { st := .running } {} with le := { owners := [(0, { slot := 0, stage := 0 })] } }, .S, 0, { slot := 0, stage := 0 }, by unfold TagReady MemWf; decide +kernel⟩,
   ⟨{ img := { net := some { hostWords := 0x80000000 } } }, .S, 63, by unfold TagReady; decide +kernel⟩,
   ⟨State.reset, .S, 31, by unfold TagReady; decide +kernel⟩⟩

/-- Witness: the premises of each clause of Obligations.FabricTags are met. -/
theorem witness_FabricTags :
    (∃ (s : State) (r : BusReq), r.init ≠ .jtag ∧ txnRefused s (txnOf r s.fab.nextId) = none ∧ 0 < s.fab.pools[(txnOf r s.fab.nextId).pool].free ∧ s.fab.pools[(txnOf r s.fab.nextId).pool].waiting = []) ∧
    (∃ (s : State) (r : BusReq), r.init ≠ .jtag ∧ txnRefused s (txnOf r s.fab.nextId) = none ∧ s.fab.pools[(txnOf r s.fab.nextId).pool].free = 0) ∧
    (∃ (s : State) (x : Txn) (n : Nat), s.fab.flight.find? (fun y => decide (y.id = n)) = some x ∧ x.kind = .read ∧ x.size = 4 ∧ target x.addr.toNat = .sram ∧ x.addr.toNat % 4 = 0 ∧ x.init ≠ 6 ∧ memWorldCheck s x.world .read x.addr.toNat = .ok ∧ x.dma = none ∧ (∀ y ∈ s.net.xfers, y.id ≠ n) ∧ x.addr.toNat ∉ s.fab.hard ∧ x.addr.toNat ∉ s.fab.soft) ∧
    (∃ (s : State) (x : Txn) (n : Nat), s.fab.flight.find? (fun y => decide (y.id = n)) = some x ∧ x.kind = .read ∧ x.size = 4 ∧ target x.addr.toNat = .sram ∧ x.addr.toNat % 4 = 0 ∧ x.init ≠ 6 ∧ memWorldCheck s x.world .read x.addr.toNat = .ok ∧ x.dma = none ∧ (∀ y ∈ s.net.xfers, y.id ≠ n)) ∧
    (∃ (s : State) (x : Txn) (n : Nat) (d : Word), s.fab.flight.find? (fun y => decide (y.id = n)) = some x ∧ x.kind = .write ∧ x.size = 4 ∧ x.data = [d] ∧ target x.addr.toNat = .sram ∧ x.addr.toNat % 4 = 0 ∧ x.init ≠ 6 ∧ memWorldCheck s x.world .write x.addr.toNat = .ok ∧ x.dma = none ∧ (∀ y ∈ s.net.xfers, y.id ≠ n)) ∧
    (∃ (s : State) (x : Txn) (n : Nat), s.fab.ret.find? (fun y => decide (y.id = n)) = some x ∧ s.fab.pools[x.pool].waiting = []) ∧
    (∃ (s : State) (x : Txn) (y : Txn) (l : List Txn) (n : Nat), s.fab.ret.find? (fun z => decide (z.id = n)) = some x ∧ s.fab.pools[x.pool].waiting = y :: l ∧ txnRefused s y = none ∧ y.pool = x.pool) ∧
    (∃ (s : State) (w : World), (w = .S ∨ s.sec.bwt.getLsbD 4 = true) ∧ s.fab.dom[1] = .on ∧ TagReady s (idPool (coreInit w) w)) :=
  ⟨⟨State.reset, ⟨.secureCore, .S, .read, 0x10000000, 4, [], none⟩, by decide +kernel⟩,
   ⟨{ fab := { pools := .replicate 8 { free := 0 } } }, ⟨.secureCore, .S, .read, 0x10000000, 4, [], none⟩, by decide +kernel⟩,
   ⟨{ fab := { flight := [{ id := 1, pool := 0, init := 0, world := .S, kind := .read, addr := 0x10000000, size := 4, data := [] }] } }, { id := 1, pool := 0, init := 0, world := .S, kind := .read, addr := 0x10000000, size := 4, data := [] }, 1, by decide +kernel⟩,
   ⟨{ fab := { flight := [{ id := 1, pool := 0, init := 0, world := .S, kind := .read, addr := 0x10000000, size := 4, data := [] }] } }, { id := 1, pool := 0, init := 0, world := .S, kind := .read, addr := 0x10000000, size := 4, data := [] }, 1, by decide +kernel⟩,
   ⟨{ fab := { flight := [{ id := 1, pool := 0, init := 0, world := .S, kind := .write, addr := 0x10000000, size := 4, data := [9] }] } }, { id := 1, pool := 0, init := 0, world := .S, kind := .write, addr := 0x10000000, size := 4, data := [9] }, 1, 9, by decide +kernel⟩,
   ⟨{ fab := { ret := [{ id := 1, pool := 0, init := 0, world := .S, kind := .read, addr := 0x10000000, size := 4, data := [] }] } }, { id := 1, pool := 0, init := 0, world := .S, kind := .read, addr := 0x10000000, size := 4, data := [] }, 1, by decide +kernel⟩,
   ⟨{ fab := { ret := [{ id := 1, pool := 0, init := 0, world := .S, kind := .read, addr := 0x10000000, size := 4, data := [] }], pools := .replicate 8 { waiting := [{ id := 2, pool := 0, init := 0, world := .S, kind := .read, addr := 0x10000000, size := 4, data := [] }] } } }, { id := 1, pool := 0, init := 0, world := .S, kind := .read, addr := 0x10000000, size := 4, data := [] }, { id := 2, pool := 0, init := 0, world := .S, kind := .read, addr := 0x10000000, size := 4, data := [] }, [], 1, by decide +kernel⟩,
   ⟨State.reset, .S, by unfold TagReady; decide +kernel⟩⟩

/-- Witness: the premises of each clause of Obligations.DomainPowerDown are met. -/
theorem witness_DomainPowerDown :
    (∃ (s : State) (d : Fin 4), d ≠ 0 ∧ s.fab.dom[d] = .on ∧ (∀ k : Fin 8, s.fab.pools[k].waiting = [])) ∧
    (∃ (s : State) (r : BusReq), r.init ≠ .jtag ∧ r.dma = none ∧ domDown s (targetDomain (target r.addr.toNat)) = true ∧ busDecodeFault s r.kind r.addr.toNat (min r.size 4) = false) ∧
    (∃ (s : State) (d : Fin 4), s.fab.dom[d] = .quiescing ∧ (∀ x ∈ s.fab.flight, x.kind ≠ .write ∧ x.dma = none ∧ ∀ y ∈ s.net.xfers, y.id ≠ x.id)) ∧
    (∃ (s : State) (d : Fin 4), s.fab.dom[d] = .quiescing ∧ (∀ x ∈ s.fab.flight ++ s.fab.ret, txnIn d x = false)) ∧
    (∃ (s : State) (d : Fin 4) (x : Txn), x ∈ s.fab.flight ++ s.fab.ret ∧ txnIn d x = true) :=
  ⟨⟨State.reset, 3, by decide +kernel⟩,
   ⟨{ fab := { dom := #v[.on, .on, .on, .quiescing], flight := [] } }, ⟨.secureCore, .S, .read, 0x40110000, 4, [], none⟩, by decide +kernel⟩,
   ⟨{ fab := { dom := #v[.on, .on, .on, .quiescing], flight := [{ id := 1, pool := 0, init := 0, world := .S, kind := .read, addr := 0x40110000, size := 4, data := [] }] } }, 3, by decide +kernel⟩,
   ⟨{ fab := { dom := #v[.on, .on, .on, .quiescing], flight := [] } }, 3, by decide +kernel⟩,
   ⟨{ fab := { dom := #v[.on, .on, .on, .quiescing], flight := [{ id := 1, pool := 0, init := 0, world := .S, kind := .read, addr := 0x40110000, size := 4, data := [] }] } }, 3, { id := 1, pool := 0, init := 0, world := .S, kind := .read, addr := 0x40110000, size := 4, data := [] }, by decide +kernel⟩⟩

set_option maxRecDepth 100000 in
/-- Witness: the premises of each clause of Obligations.ChannelCreation are met. -/
theorem witness_ChannelCreation :
    (∃ (s : State) (c : ChnCall) (p : Plan), PortsIdle s ∧ s.sys.mode = .operate ∧ s.sys.switching = false ∧ getf c.w[0] 16 8 = 0 ∧ createPlan s (callWorld c) (getf c.w[0] 0 8) (getf c.w[0] 8 8) (getb c.w[0] 24) (some []) [] = .ok p) ∧
    (∃ (s : State) (c : ChnCall), domDown s 1 = false ∧ s.chn.ports[c.port].pend = true) ∧
    (∃ (s : State), PortsIdle s ∧ s.sys.mode.isLockout = true) ∧
    (∃ (s : State), PortsIdle s ∧ s.sys.mode = .operate ∧ s.sys.switching = true) ∧
    (∃ (s : State) (c : ChnCall), PortsIdle s ∧ s.sys.mode = .operate ∧ s.sys.switching = false ∧ s.img.templates.length ≤ getf c.w[0] 0 8) :=
  ⟨⟨{ atMode .operate with img := { templates := [{}] } }, { w := #v[0xFF00, 0, 0, 0, 0, 0, 0] }, okVal (createPlan { atMode .operate with img := { templates := [{}] } } .S 0 255 false (some []) []), by unfold PortsIdle; decide +kernel, by decide +kernel, by decide +kernel, by decide +kernel, okVal_eq (by decide +kernel)⟩,
   ⟨{ chn := { ports := .replicate 4 { pend := true } } }, {}, by decide +kernel⟩,
   ⟨atMode .lockoutFault, by unfold PortsIdle; decide +kernel⟩,
   ⟨{ sys := { mode := .operate, switching := true } }, by unfold PortsIdle; decide +kernel⟩,
   ⟨atMode .operate, {}, by unfold PortsIdle; decide +kernel⟩⟩

/-- Witness: the premises of each clause of Obligations.ChannelCommands are met. -/
theorem witness_ChannelCommands :
    (∃ (s : State) (c : ChnCall) (i : Fin 256), CallTaken s opArm c i ∧ s.chn.slots[i].st = .created) ∧
    (∃ (s : State) (c : ChnCall) (i : Fin 256), CallTaken s opHold c i ∧ s.chn.slots[i].st = .running) ∧
    (∃ (s : State) (c : ChnCall) (i : Fin 256), CallTaken s opRelease c i ∧ s.chn.slots[i].st = .faulted) ∧
    (∃ (s : State) (c : ChnCall) (i : Fin 256), CallTaken s opSwap c i ∧ getf c.w[0] 0 2 = 2 ∧ (s.chn.slots[i].st = .created ∨ s.chn.slots[i].st = .armed ∨ s.chn.slots[i].st = .faulted)) ∧
    (∃ (s : State) (c : ChnCall) (i : Fin 256), CallTaken s opSwap c i ∧ getf c.w[0] 0 2 ≠ 3 ∧ (s.chn.slots[i].st = .running ∨ s.chn.slots[i].st = .held)) ∧
    (∃ (s : State) (c : ChnCall) (i : Fin 256), CallTaken s opDestroy c i ∧ s.chn.slots[i].destroyPend = false ∧ (s.chn.slots[i].st = .created ∨ s.chn.slots[i].st = .armed ∨ s.chn.slots[i].st = .faulted)) ∧
    (∃ (s : State) (c : ChnCall) (i : Fin 256), CallTaken s opDestroy c i ∧ s.chn.slots[i].destroyPend = false ∧ s.chn.slots[i].st = .running ∧ isDrive s s.chn.slots[i] = false ∧ s.chn.slots[i].wait = none) ∧
    (∃ (s : State) (c : ChnCall) (i : Fin 256), CallTaken s opQuery c i ∧ c.handle ≠ 0) :=
  ⟨⟨withSlot { st := .created } {}, onSlot0 0, 0, by unfold CallTaken PortsIdle; decide +kernel, by decide +kernel⟩,
   ⟨withSlot { st := .running } {}, onSlot0 0, 0, by unfold CallTaken PortsIdle; decide +kernel, by decide +kernel⟩,
   ⟨withSlot { st := .faulted } {}, onSlot0 0, 0, by unfold CallTaken PortsIdle; decide +kernel, by decide +kernel⟩,
   ⟨withSlot { st := .armed } {}, onSlot0 2, 0, by unfold CallTaken PortsIdle; decide +kernel, by decide +kernel⟩,
   ⟨withSlot { st := .held } {}, onSlot0 0, 0, by unfold CallTaken PortsIdle; decide +kernel, by decide +kernel⟩,
   ⟨withSlot { st := .created } {}, onSlot0 0, 0, by unfold CallTaken PortsIdle; decide +kernel, by decide +kernel⟩,
   ⟨withSlot { st := .running } {}, onSlot0 0, 0, by unfold CallTaken PortsIdle; decide +kernel, by decide +kernel⟩,
   ⟨withSlot { st := .running } {}, onSlot0 0, 0, by unfold CallTaken PortsIdle; decide +kernel, by decide +kernel⟩⟩

/-- Witness: the premises of each clause of Obligations.ChannelRefusals are met. -/
theorem witness_ChannelRefusals :
    (∃ (s : State) (c : ChnCall), PortsIdle s ∧ s.sys.mode = .operate ∧ c.handle ≠ 0 ∧ current s c.handle = none) ∧
    (∃ (s : State), PortsIdle s ∧ s.sys.mode.isLockout = true) ∧
    (∃ (s : State) (c : ChnCall) (i : Fin 256), PortsIdle s ∧ s.sys.mode = .operate ∧ c.handle ≠ 0 ∧ current s c.handle = some i ∧ callWorld c = .NS ∧ s.chn.slots[i].world = .S) ∧
    (∃ (s : State) (c : ChnCall) (i : Fin 256), PortsIdle s ∧ s.sys.mode = .operate ∧ c.handle ≠ 0 ∧ current s c.handle = some i ∧ callWorld c = .S ∧ s.sys.switching = true ∧ s.chn.slots[i].key ≠ 0) ∧
    (∃ (s : State) (c : ChnCall) (i : Fin 256), PortsIdle s ∧ s.sys.mode = .operate ∧ c.handle ≠ 0 ∧ current s c.handle = some i ∧ callWorld c = .S ∧ s.sys.switching = false ∧ s.chn.slots[i].st = .draining) :=
  ⟨⟨atMode .operate, onSlot0 0, by unfold PortsIdle; decide +kernel⟩,
   ⟨atMode .lockoutFault, by unfold PortsIdle; decide +kernel⟩,
   ⟨withSlot { st := .armed } {}, { onSlot0 0 with port := 1, ns := true }, 0, by unfold PortsIdle; decide +kernel⟩,
   ⟨{ withSlot { st := .armed, key := 5 } {} with sys := { mode := .operate, switching := true } }, onSlot0 0, 0, by unfold PortsIdle; decide +kernel⟩,
   ⟨withSlot { st := .draining } {}, onSlot0 0, 0, by unfold PortsIdle; decide +kernel⟩⟩

/-- Witness: the premises of each clause of Obligations.FrameTickBoundaries are met. -/
theorem witness_FrameTickBoundaries :
    (∃ (s : State), s.fab.dom[2] = .on ∧ s.save.active = true ∧ (∀ p : Fin 4, s.chn.ports[p].pend = false)) ∧
    (∃ (s : State), s.fab.dom[2] = .on ∧ s.sys.change = none ∧ (∀ p : Fin 4, s.chn.ports[p].pend = false) ∧ (∀ i : Fin 256, s.chn.slots[i].st = .free ∨ (s.le.tick + 1).toNat % classPeriod (slotTemplate s s.chn.slots[i]).tick ≠ 0)) ∧
    (∃ (s : State) (i : Fin 256), s.fab.dom[2] = .on ∧ s.save.active = false ∧ s.sys.change = none ∧ (∀ p : Fin 4, s.chn.ports[p].pend = false) ∧ (∀ j : Fin 256, j ≠ i → s.chn.slots[j].st = .free) ∧ s.chn.slots[i].st = .armed ∧ s.chn.slots[i].startPend = true ∧ s.chn.slots[i].holdPend = false ∧ s.chn.slots[i].swapPend = none ∧ s.chn.slots[i].wait = none ∧ s.chn.slots[i].inj = [] ∧ isDrive s s.chn.slots[i] = false ∧ s.le.queue = [] ∧ (s.le.tick + 1).toNat % classPeriod (slotTemplate s s.chn.slots[i]).tick = 0 ∧ (s.le.tick + 1).toNat / classPeriod (slotTemplate s s.chn.slots[i]).tick % (slotTemplate s s.chn.slots[i]).div = i.val % (slotTemplate s s.chn.slots[i]).div) ∧
    (∃ (s : State) (i : Fin 256) (f : Code), s.fab.dom[2] = .on ∧ s.save.active = false ∧ s.sys.change = none ∧ (∀ p : Fin 4, s.chn.ports[p].pend = false) ∧ (∀ j : Fin 256, j ≠ i → s.chn.slots[j].st = .free) ∧ s.chn.slots[i].st = .held ∧ s.chn.slots[i].startPend = false ∧ s.chn.slots[i].destroyPend = false ∧ s.chn.slots[i].faultPend = some f ∧ s.chn.slots[i].swapPend = none ∧ s.chn.slots[i].wait = none ∧ s.chn.slots[i].inj = [] ∧ (slotTemplate s s.chn.slots[i]).stages = [] ∧ s.le.queue = [] ∧ (s.le.tick + 1).toNat % classPeriod (slotTemplate s s.chn.slots[i]).tick = 0 ∧ (s.le.tick + 1).toNat / classPeriod (slotTemplate s s.chn.slots[i]).tick % (slotTemplate s s.chn.slots[i]).div = i.val % (slotTemplate s s.chn.slots[i]).div) ∧
    (∃ (s : State), s.fab.dom[2] ≠ .on ∧ (∀ p : Fin 4, s.chn.ports[p].pend = false)) ∧
    (∃ (s : State) (p : Fin 4), s.fab.dom[2] ≠ .on ∧ domDown s 1 = false ∧ s.chn.ports[p].pend = true ∧ (∀ q : Fin 4, q ≠ p → s.chn.ports[q].pend = false)) :=
  ⟨⟨{ save := { active := true } }, by decide +kernel⟩,
   ⟨State.reset, by decide +kernel, by decide +kernel, by decide +kernel, (fun i => Or.inl (by simp [State.reset]))⟩,
   ⟨{ withSlot { st := .armed, startPend := true } { tick := 0, div := 2 } with le := { tick := 19 } }, 0, by decide +kernel, by decide +kernel, by decide +kernel, by decide +kernel, (fun j h => congrArg Slot.st (withSlot_other { st := .armed, startPend := true } {} j h)), by decide +kernel⟩,
   ⟨{ withSlot { st := .held, faultPend := some 0x0801 } {} with le := { tick := 9 } }, 0, 0x0801, by decide +kernel, by decide +kernel, by decide +kernel, by decide +kernel, (fun j h => congrArg Slot.st (withSlot_other { st := .held, faultPend := some 0x0801 } {} j h)), by decide +kernel⟩,
   ⟨{ fab := { dom := #v[.on, .on, .off, .on] } }, by decide +kernel⟩,
   ⟨{ fab := { dom := #v[.on, .on, .off, .on] }, chn := { ports := #v[{ pend := true }, {}, {}, {}] } }, 0, by decide +kernel⟩⟩

/-- Witness: the premises of each clause of Obligations.StageRules are met. -/
theorem witness_StageRules :
    (∃ (s : State) (l : Fin 4) (i : Fin 256) (w : Sample) (d : StageDesc), StageReady s l i w d) ∧
    (∃ (s : State) (l : Fin 4) (i : Fin 256) (w : Sample) (d : StageDesc), StageReady s l i w d ∧ d.type = .hys2) ∧
    (∃ (s : State) (l : Fin 4) (i : Fin 256) (w : Sample) (d : StageDesc), StageReady s l i w d ∧ d.type = .sum) ∧
    (∃ (s : State) (l : Fin 4) (i : Fin 256) (w : Sample) (d : StageDesc), StageReady s l i w d ∧ d.type = .limit ∧ d.opt / 8 % 2 = 0) ∧
    (∃ (s : State) (l : Fin 4) (i : Fin 256) (w : Sample) (d : StageDesc), StageReady s l i w d ∧ d.type = .cap) :=
  ⟨⟨{ withSlot { st := .running, smp := some { started := true }, recs := [0] } { stages := [{ type := .imp }] } with le := { lanes := .replicate 4 { work := [0] } } }, 0, 0, { started := true }, { type := .imp }, by unfold StageReady MemWf; decide +kernel⟩,
   ⟨{ withSlot { st := .running, smp := some { started := true }, recs := [0] } { stages := [{ type := .hys2 }] } with le := { lanes := .replicate 4 { work := [0] } } }, 0, 0, { started := true }, { type := .hys2 }, by unfold StageReady MemWf; decide +kernel, by decide +kernel⟩,
   ⟨{ withSlot { st := .running, smp := some { started := true }, recs := [0] } { stages := [{ type := .sum }] } with le := { lanes := .replicate 4 { work := [0] } } }, 0, 0, { started := true }, { type := .sum }, by unfold StageReady MemWf; decide +kernel, by decide +kernel⟩,
   ⟨{ withSlot { st := .running, smp := some { started := true }, recs := [0] } { stages := [{ type := .limit }] } with le := { lanes := .replicate 4 { work := [0] } } }, 0, 0, { started := true }, { type := .limit }, by unfold StageReady MemWf; decide +kernel, by decide +kernel⟩,
   ⟨{ withSlot { st := .running, smp := some { started := true }, recs := [0] } { stages := [{ type := .cap }] } with le := { lanes := .replicate 4 { work := [0] } } }, 0, 0, { started := true }, { type := .cap }, by unfold StageReady MemWf; decide +kernel, by decide +kernel⟩⟩

/-- Witness: the premises of each clause of Obligations.SampleOutcomes are met. -/
theorem witness_SampleOutcomes :
    (∃ (s : State) (l : Fin 4) (i : Fin 256) (w : Sample) (r : List (Fin 256)), s.fab.dom[2] = .on ∧ s.le.lanes[l].work = i :: r ∧ s.chn.slots[i].smp = some w ∧ (slotTemplate s s.chn.slots[i]).stages.length ≤ w.next ∧ s.chn.slots[i].st = .running ∧ (∀ d ∈ (slotTemplate s s.chn.slots[i]).stages, d.type ≠ .xfer ∧ d.type ≠ .hysc) ∧ (slotTemplate s s.chn.slots[i]).sup.plModel = 0xFF ∧ (slotTemplate s s.chn.slots[i]).sup.feRef = 0xFF) ∧
    (∃ (s : State) (l : Fin 4) (i : Fin 256) (w : Sample) (r : List (Fin 256)) (d : StageDesc) (n : Fin 64), s.fab.dom[2] = .on ∧ s.le.lanes[l].work = i :: r ∧ s.chn.slots[i].smp = some w ∧ (slotTemplate s s.chn.slots[i]).stages = [d] ∧ 1 ≤ w.next ∧ d.type = .xfer ∧ d.kind = 5 ∧ d.idx = n.val ∧ n.val < 28 ∧ s.le.boardBy[n] = [] ∧ s.chn.slots[i].st = .running ∧ (slotTemplate s s.chn.slots[i]).sup.plModel = 0xFF ∧ (slotTemplate s s.chn.slots[i]).sup.feRef = 0xFF) ∧
    (∃ (s : State) (l : Fin 4) (i : Fin 256) (w : Sample) (r : List (Fin 256)), s.fab.dom[2] = .on ∧ s.le.lanes[l].work = i :: r ∧ s.chn.slots[i].smp = some w ∧ (slotTemplate s s.chn.slots[i]).stages.length ≤ w.next ∧ s.chn.slots[i].st = .draining ∧ s.chn.slots[i].wait = none ∧ (∀ d ∈ (slotTemplate s s.chn.slots[i]).stages, d.type ≠ .xfer)) :=
  ⟨⟨{ withSlot { st := .running, smp := some { next := 1 }, recs := [0] } { stages := [{}] } with le := { lanes := .replicate 4 { work := [0] } } }, 0, 0, { next := 1 }, [], by decide +kernel⟩,
   ⟨{ withSlot { st := .running, smp := some { next := 1 }, recs := [0] } { stages := [{ type := .xfer, kind := 5, idx := 27 }] } with le := { lanes := .replicate 4 { work := [0] } } }, 0, 0, { next := 1 }, [], { type := .xfer, kind := 5, idx := 27 }, 27, by decide +kernel⟩,
   ⟨{ withSlot { st := .draining, smp := some { next := 1 }, recs := [0] } { stages := [{}] } with le := { lanes := .replicate 4 { work := [0] } } }, 0, 0, { next := 1 }, [], by decide +kernel⟩⟩

/-- Witness: the premises of each clause of Obligations.Injection are met. -/
theorem witness_Injection :
    (∃ (s : State) (c : ChnCall) (i : Fin 256), CallTaken s opInject c i ∧ (s.chn.slots[i].st = .running ∨ s.chn.slots[i].st = .held) ∧ injBadWord (slotTemplate s s.chn.slots[i]) c = none ∧ kvGet (getf c.w[0] 0 4) s.chn.slots[i].inj = none ∧ getf c.w[0] 4 4 ≠ 15 ∧ tuneOk s s.chn.slots[i] = true ∧ (mag (sInt c.w[1]) : Int) ≤ sInt (bankWord s (recOf s.chn.slots[i] (getf c.w[0] 0 4)) s.chn.slots[i].bankB 0)) ∧
    (∃ (s : State) (c : ChnCall) (i : Fin 256) (j : Inj), CallTaken s opInject c i ∧ (s.chn.slots[i].st = .running ∨ s.chn.slots[i].st = .held) ∧ injBadWord (slotTemplate s s.chn.slots[i]) c = none ∧ kvGet (getf c.w[0] 0 4) s.chn.slots[i].inj = some j ∧ getf c.w[0] 4 4 = 15) ∧
    (∃ (s : State) (c : ChnCall) (i : Fin 256), CallTaken s opInject c i ∧ (s.chn.slots[i].st = .running ∨ s.chn.slots[i].st = .held) ∧ injBadWord (slotTemplate s s.chn.slots[i]) c = none ∧ kvGet (getf c.w[0] 0 4) s.chn.slots[i].inj = none ∧ getf c.w[0] 4 4 ≠ 15 ∧ tuneOk s s.chn.slots[i] = false) ∧
    (∃ (s : State) (c : ChnCall) (i : Fin 256) (j : Inj), CallTaken s opInject c i ∧ (s.chn.slots[i].st = .running ∨ s.chn.slots[i].st = .held) ∧ injBadWord (slotTemplate s s.chn.slots[i]) c = none ∧ kvGet (getf c.w[0] 0 4) s.chn.slots[i].inj = some j ∧ getf c.w[0] 4 4 ≠ 15) :=
  ⟨⟨withSlot { st := .running, recs := [0] } { stages := [{ type := .inj }] }, onSlot0 0, 0, by unfold CallTaken PortsIdle; decide +kernel, by decide +kernel⟩,
   ⟨withSlot { st := .running, recs := [0], inj := [(0, {})] } { stages := [{ type := .inj }] }, onSlot0 0xF0, 0, {}, by unfold CallTaken PortsIdle; decide +kernel, by decide +kernel⟩,
   ⟨withSlot { st := .running, recs := [0], axis := some 0 } { stages := [{ type := .inj }] }, onSlot0 0, 0, by unfold CallTaken PortsIdle; decide +kernel, by decide +kernel⟩,
   ⟨withSlot { st := .running, recs := [0], inj := [(0, {})] } { stages := [{ type := .inj }] }, onSlot0 0, 0, {}, by unfold CallTaken PortsIdle; decide +kernel, by decide +kernel⟩⟩

/-- Witness: the premises of each clause of Obligations.CaptureUnits are met. -/
theorem witness_CaptureUnits :
    (∃ (s : State) (c : ChnCall) (i : Fin 256), CallTaken s opCapture c i ∧ s.chn.slots[i].st ≠ .draining ∧ capBadWord (slotTemplate s s.chn.slots[i]) c = none ∧ bufWritable s s.chn.slots[i].world c.w[2].toNat c.w[3].toNat = true ∧ (∀ k : Fin 4, s.cap[k].st ≠ 1 ∧ s.cap[k].st ≠ 2)) ∧
    (∃ (s : State) (c : ChnCall) (i : Fin 256) (k : Fin 4), CallTaken s opCapture c i ∧ s.chn.slots[i].st ≠ .draining ∧ getf c.w[0] 0 2 = k.val ∧ getf c.w[0] 8 4 = 0xF ∧ s.cap[k].slot = i ∧ (s.cap[k].st = 1 ∨ s.cap[k].st = 2)) ∧
    (∃ (s : State) (c : ChnCall) (i : Fin 256) (k : Fin 4), CallTaken s opCapture c i ∧ s.chn.slots[i].st ≠ .draining ∧ capBadWord (slotTemplate s s.chn.slots[i]) c = none ∧ bufWritable s s.chn.slots[i].world c.w[2].toNat c.w[3].toNat = true ∧ getf c.w[0] 0 2 = k.val ∧ (s.cap[k].st = 1 ∨ s.cap[k].st = 2)) ∧
    (∃ (s : State) (k : Fin 4) (r : CapRec), s.cap[k].rec_ = some r) ∧
    (∃ (s : State) (k : Fin 4), s.cap[k].rec_ = none) :=
  ⟨⟨{ withSlot { st := .running, recs := [0] } { stages := [{ type := .cap }] } with cap := .replicate 4 {} }, { handle := 0x0100, w := #v[0 ||| 0x100000, 0, 0, 16, 0, 0, 0] }, 0, by unfold CallTaken PortsIdle; decide +kernel, by decide +kernel⟩,
   ⟨{ withSlot { st := .running, recs := [0] } { stages := [{ type := .cap }] } with cap := .replicate 4 { st := 1 } }, { handle := 0x0100, w := #v[0xF00 ||| 0x100000, 0, 0, 16, 0, 0, 0] }, 0, 0, by unfold CallTaken PortsIdle; decide +kernel, by decide +kernel⟩,
   ⟨{ withSlot { st := .running, recs := [0] } { stages := [{ type := .cap }] } with cap := .replicate 4 { st := 2 } }, { handle := 0x0100, w := #v[3 ||| 0x100000, 0, 0, 16, 0, 0, 0] }, 0, 3, by unfold CallTaken PortsIdle; decide +kernel, by decide +kernel⟩,
   ⟨{ cap := .replicate 4 { st := 1, rec_ := some default } }, 0, default, by decide +kernel⟩,
   ⟨State.reset, 0, by decide +kernel⟩⟩

/-- Witness: the premises of each clause of Obligations.SafetyCycleMeasures are met. -/
theorem witness_SafetyCycleMeasures :
    (∃ (s : State), (s.saf.halted = true ∨ s.fab.dom[1] ≠ .on)) ∧
    (∃ (s : State), MonitorRuns s ∧ s.saf.homing = none) ∧
    (∃ (s : State) (m : SmSample) (n : Fin 4) (pos : Int) (c : AxisCfg), MonitorRuns s ∧ s.saf.homing = some (n, pos) ∧ axisCfg s n = some c ∧ homeSelected c s.saf.siLvl = true ∧ (measured s m n c).v.natAbs ≤ c.sstill ∧ c.pos1.isSome = true) ∧
    (∃ (s : State) (m : SmSample) (n : Fin 4) (pos : Int) (c : AxisCfg), MonitorRuns s ∧ s.saf.homing = some (n, pos) ∧ axisCfg s n = some c ∧ (homeSelected c s.saf.siLvl = false ∨ c.sstill < (measured s m n c).v.natAbs ∨ c.pos1 = none)) :=
  ⟨⟨{ saf := { halted := true } }, by decide +kernel⟩,
   ⟨State.reset, by unfold MonitorRuns; decide +kernel, by decide +kernel⟩,
   ⟨{ withAxis {} { homeEn := true, pos1 := some {}, slsSel := .replicate 4 0xFF, slsLim := .replicate 4 9 } with saf := { homing := some (0, 5), ax := .replicate 4 { cfgIdx := some 0 } } }, {}, 0, 5, { homeEn := true, pos1 := some {}, slsSel := .replicate 4 0xFF, slsLim := .replicate 4 9 }, by unfold MonitorRuns; decide +kernel, by decide +kernel⟩,
   ⟨{ withAxis {} {} with saf := { homing := some (0, 5), ax := .replicate 4 { cfgIdx := some 0 } } }, {}, 0, 5, {}, by unfold MonitorRuns; decide +kernel, by decide +kernel⟩⟩

/-- Witness: the premises of each clause of Obligations.SafetyDemands are met. -/
theorem witness_SafetyDemands :
    (∃ (s : State) (n : Fin 4) (c : AxisCfg) (k : Nat), MonitorRuns s ∧ axisCfg s n = some c ∧ s.saf.ax[n].st ≠ .unused ∧ lowInput c.stoIn s.saf.siLvl = some k) ∧
    (∃ (s : State) (m : SmSample) (n : Fin 4) (c : AxisCfg), MonitorRuns s ∧ axisCfg s n = some c ∧ s.saf.ax[n].st ≠ .unused ∧ cycleDems c (measured s m n c) (cycleCeiling s m n c) ≠ []) ∧
    (∃ (s : State) (m : SmSample) (n : Fin 4) (c : AxisCfg) (x : Nat), MonitorRuns s ∧ FaultEnters s ∧ axisCfg s n = some c ∧ cycleCeiling s m n c = some x ∧ x + 2000 * c.slsTol < 2000 * (measured s m n c).v.natAbs) ∧
    (∃ (s : State) (m : SmSample) (n : Fin 4) (c : AxisCfg), MonitorRuns s ∧ FaultEnters s ∧ axisCfg s n = some c ∧ s.saf.ax[n].st = .ss1 ∧ 2000 * s.saf.ax[n].v0 - c.dec * (s.saf.ax[n].envCyc + 1 - 2 * c.ss1Dly) + 2000 * c.ss1Tol < 2000 * (measured s m n c).v.natAbs) ∧
    (∃ (s : State) (m : SmSample) (n : Fin 4) (c : AxisCfg), MonitorRuns s ∧ FaultEnters s ∧ axisCfg s n = some c ∧ s.saf.ax[n].st = .braking ∧ c.sstill + c.ss1Tol < (measured s m n c).v.natAbs) ∧
    (∃ (s : State) (m : SmSample) (n : Fin 4) (c : AxisCfg), MonitorRuns s ∧ FaultEnters s ∧ axisCfg s n = some c ∧ c.pos1.isSome = true ∧ s.saf.ax[n].unver = false ∧ (c.slpHi + c.slpTol < (measured s m n c).p ∨ (measured s m n c).p < c.slpLo - c.slpTol)) ∧
    (∃ (s : State) (m : SmSample) (n : Fin 4) (c : AxisCfg), MonitorRuns s ∧ FaultEnters s ∧ axisCfg s n = some c ∧ c.sdiDir ≠ 0 ∧ 2 * c.sdiTol < (measured s m n c).w) ∧
    (∃ (s : State) (k : Fin 16), MonitorRuns s ∧ siMasked s k = false) ∧
    (∃ (s : State) (k : Fin 16), siMasked s k = true) :=
  ⟨⟨{ withAxis {} { stoIn := 1 } with saf := { ax := .replicate 4 { ({ st := .sto } : Axis) with cfgIdx := some 0 } } }, 0, { stoIn := 1 }, 0, by unfold MonitorRuns; decide +kernel, by decide +kernel⟩,
   ⟨{ withAxis {} { slsSel := #v[0xFF, 0xFE, 0xFE, 0xFE], slsLim := #v[10, 0, 0, 0] } with saf := { ax := .replicate 4 { ({ st := .released, gov := some 0 } : Axis) with cfgIdx := some 0 }, primed := 2 } }, { inc := .replicate 4 100 }, 0, { slsSel := #v[0xFF, 0xFE, 0xFE, 0xFE], slsLim := #v[10, 0, 0, 0] }, by unfold MonitorRuns; decide +kernel, by decide +kernel⟩,
   ⟨{ withAxis {} { slsSel := #v[0xFF, 0xFE, 0xFE, 0xFE], slsLim := #v[10, 0, 0, 0] } with saf := { ax := .replicate 4 { ({ st := .released, gov := some 0 } : Axis) with cfgIdx := some 0 }, primed := 2 } }, { inc := .replicate 4 100 }, 0, { slsSel := #v[0xFF, 0xFE, 0xFE, 0xFE], slsLim := #v[10, 0, 0, 0] }, 20000, by unfold MonitorRuns; decide +kernel, by unfold FaultEnters; decide +kernel, by decide +kernel⟩,
   ⟨{ withAxis {} {} with saf := { ax := .replicate 4 { ({ st := .ss1 } : Axis) with cfgIdx := some 0 }, primed := 2 } }, { inc := .replicate 4 100 }, 0, {}, by unfold MonitorRuns; decide +kernel, by unfold FaultEnters; decide +kernel, by decide +kernel⟩,
   ⟨{ withAxis {} {} with saf := { ax := .replicate 4 { ({ st := .braking } : Axis) with cfgIdx := some 0 }, primed := 2 } }, { inc := .replicate 4 100 }, 0, {}, by unfold MonitorRuns; decide +kernel, by unfold FaultEnters; decide +kernel, by decide +kernel⟩,
   ⟨{ withAxis {} { pos1 := some {} } with saf := { ax := .replicate 4 { ({ st := .released } : Axis) with cfgIdx := some 0 }, primed := 2 } }, { inc := .replicate 4 100 }, 0, { pos1 := some {} }, by unfold MonitorRuns; decide +kernel, by unfold FaultEnters; decide +kernel, by decide +kernel⟩,
   ⟨{ withAxis {} { sdiDir := 1 } with saf := { ax := .replicate 4 { ({ st := .released, w := 1, sdiAct := true } : Axis) with cfgIdx := some 0 }, primed := 2 } }, { inc := .replicate 4 (-100) }, 0, { sdiDir := 1 }, by unfold MonitorRuns; decide +kernel, by unfold FaultEnters; decide +kernel, by decide +kernel⟩,
   ⟨State.reset, 15, by unfold MonitorRuns; decide +kernel, by decide +kernel⟩,
   ⟨{ img := { safeIo := { tpMap := .replicate 16 (some 0) } }, saf := { toPulse := some 0 } }, 0, by decide +kernel⟩⟩

/-- Witness: the premises of each clause of Obligations.ReleaseSequence are met. -/
theorem witness_ReleaseSequence :
    (∃ (s : State) (m : SmSample) (n : Fin 4) (b : Fin 4), QuietCycle s m ∧ FaultEnters s ∧ OnlyReleasing s n 1 ∧ s.saf.ax[n].relBridges.getLsbD b = true ∧ s.save.active = false ∧ s.trst.px[b].flt ≠ 0) ∧
    (∃ (s : State) (m : SmSample) (n : Fin 4) (b : Fin 4), QuietCycle s m ∧ FaultEnters s ∧ OnlyReleasing s n 1 ∧ s.saf.ax[n].relBridges.getLsbD b = true ∧ s.save.active = false ∧ s.trst.px[b].flt = 0 ∧ (m.stoe.getLsbD b = true ∨ (m.inhibitOff.toNat / 2 ^ (6 * b.val)) % 64 ≠ 63)) ∧
    (∃ (s : State) (m : SmSample) (n : Fin 4), QuietCycle s m ∧ OnlyReleasing s n 1 ∧ s.save.active = false ∧ (∀ i : Fin 4, s.saf.ax[n].relBridges.getLsbD i = true → s.trst.px[i].flt = 0 ∧ m.stoe.getLsbD i = false ∧ (m.inhibitOff.toNat / 2 ^ (6 * i.val)) % 64 = 63)) ∧
    (∃ (s : State) (m : SmSample) (n : Fin 4), QuietCycle s m ∧ OnlyReleasing s n 2 ∧ s.save.active = false) ∧
    (∃ (s : State) (n : Fin 4) (b : Fin 4), s.saf.ax[n].relBridges.getLsbD b = true ∧ s.saf.ax[n].relStep = 3 ∧ (∀ i : Fin 4, i ≠ n → s.saf.ax[i].relBridges.getLsbD b = false) ∧ s.dk.br[b].testHold = true ∧ s.dk.br[b].gapSeen = true) ∧
    (∃ (s : State) (n : Fin 4) (b : Fin 4), FaultEnters s ∧ s.saf.ax[n].relBridges.getLsbD b = true ∧ s.saf.ax[n].relStep = 3 ∧ (s.dk.br[b].testHold = false ∨ s.dk.br[b].gapSeen = false)) ∧
    (∃ (s : State) (n : Fin 4) (c : AxisCfg), axisCfg s n = some c ∧ s.saf.ax[n].st = .releasing ∧ s.saf.ax[n].relStep = 4 ∧ s.saf.ax[n].latch = false ∧ s.save.active = false ∧ (∀ b : Fin 4, s.saf.ax[n].relBridges.getLsbD b = true → s.trst.px[b].released = true)) ∧
    (∃ (s : State) (n : Fin 4) (b : Fin 4), s.saf.ax[n].relBridges.getLsbD b = true ∧ s.trst.px[b].released = false) :=
  ⟨⟨releasing 1 1, {}, 1, 2, releasing_quiet _ _ _, by unfold FaultEnters; decide +kernel, by unfold OnlyReleasing; decide +kernel, by decide +kernel⟩,
   ⟨releasing 1 0, { stoe := 4 }, 1, 2, releasing_quiet _ _ _, by unfold FaultEnters; decide +kernel, by unfold OnlyReleasing; decide +kernel, by decide +kernel⟩,
   ⟨releasing 1 0, {}, 1, releasing_quiet _ _ _, by unfold OnlyReleasing; decide +kernel, by decide +kernel⟩,
   ⟨releasing 2 0, {}, 1, releasing_quiet _ _ _, by unfold OnlyReleasing; decide +kernel, by decide +kernel⟩,
   ⟨{ releasing 3 0 with dk := { br := .replicate 4 { testHold := true, gapSeen := true } } }, 1, 2, by decide +kernel⟩,
   ⟨releasing 3 0, 1, 2, by unfold FaultEnters; decide +kernel, by decide +kernel⟩,
   ⟨withAxis { st := .releasing, relStep := 4 } {}, 0, {}, by decide +kernel⟩,
   ⟨releasing 3 0, 1, 2, by decide +kernel⟩⟩

/-- Witness: the premises of each clause of Obligations.BrakesAndAxisReset are met. -/
theorem witness_BrakesAndAxisReset :
    (∃ (s : State) (n : Fin 4) (c : AxisCfg), axisCfg s n = some c ∧ s.saf.ax[n].st = .ss1 ∧ 2 * c.sstillT ≤ s.saf.ax[n].stillCyc) ∧
    (∃ (s : State) (n : Fin 4), s.saf.ax[n].st ≠ .ss1) ∧
    (∃ (s : State) (n : Fin 4) (c : AxisCfg), axisCfg s n = some c ∧ s.saf.ax[n].st = .braking) ∧
    (∃ (s : State) (n : Fin 4) (c : AxisCfg) (k : Fin 16), axisCfg s n = some c ∧ c.bkfbIn = some k) ∧
    (∃ (s : State) (n : Fin 4) (c : AxisCfg) (t0 : Nat), axisCfg s n = some c ∧ s.saf.ax[n].rstHighAt = some t0 ∧ t0 + 100000 ≤ s.now ∧ s.now ≤ t0 + 3000000 ∧ AxisResetOk s n c) ∧
    (∃ (s : State) (n : Fin 4) (c : AxisCfg), axisCfg s n = some c ∧ (s.saf.ax[n].rstHighAt = none ∨ (∃ t0, s.saf.ax[n].rstHighAt = some t0 ∧ (s.now < t0 + 100000 ∨ t0 + 3000000 < s.now)) ∨ (∃ k : Fin 16, (c.stoIn ||| c.ss1In).getLsbD k = true ∧ s.saf.siLvl.getLsbD k = false))) ∧
    (∃ (s : State) (n : Fin 4) (c : AxisCfg), axisCfg s n = some c ∧ c.swRst = true ∧ AxisResetOk s n c ∧ s.saf.ax[n].st = .sto) ∧
    (∃ (s : State) (n : Fin 4) (c : AxisCfg), axisCfg s n = some c ∧ c.swRst = false) :=
  ⟨⟨withAxis { st := .ss1, stillCyc := 2 } {}, 0, {}, by decide +kernel⟩,
   ⟨State.reset, 0, by decide +kernel⟩,
   ⟨withAxis { st := .braking } {}, 0, {}, by decide +kernel⟩,
   ⟨withAxis {} { bkfbIn := some 3 }, 0, { bkfbIn := some 3 }, 3, by decide +kernel⟩,
   ⟨{ withAxis { latch := true, rstHighAt := some 0 } {} with now := 100000 }, 0, {}, 0, by decide +kernel, by decide +kernel, by decide +kernel, by decide +kernel, by unfold AxisResetOk; decide +kernel⟩,
   ⟨withAxis {} {}, 0, {}, by decide +kernel, Or.inl (by decide +kernel)⟩,
   ⟨withAxis { st := .sto, latch := true } { swRst := true }, 0, { swRst := true }, by decide +kernel, by decide +kernel, by unfold AxisResetOk; decide +kernel, by decide +kernel⟩,
   ⟨withAxis {} {}, 0, {}, by decide +kernel⟩⟩

/-- Witness: the premises of each clause of Obligations.PeriodicDiagnostics are met. -/
theorem witness_PeriodicDiagnostics :
    (∃ (s : State) (n : Fin 4) (c : AxisCfg), diagOn s = true ∧ axisCfg s n = some c ∧ c.xcRatio = 0 ∧ c.pos2 = none) ∧
    (∃ (s : State) (n : Fin 4) (c : AxisCfg) (x : Src), diagOn s = true ∧ axisCfg s n = some c ∧ c.pos1 = some x ∧ c.pos2 = none ∧ c.xcRatio ≠ 0 ∧ x.port ≠ c.spd.port ∧ (countDiff (srcVal s.saf.inc1 s.saf.abs1 x) s.saf.ax[n].xcP1 * 65536 - c.xcRatio * countDiff (srcVal s.saf.inc1 s.saf.abs1 c.spd) s.saf.ax[n].xcV).natAbs ≤ c.xcTol * 65536) ∧
    (∃ (s : State) (n : Fin 4) (c : AxisCfg) (x : Src), diagOn s = true ∧ FaultEnters s ∧ axisCfg s n = some c ∧ c.pos1 = some x ∧ c.xcRatio ≠ 0 ∧ x.port ≠ c.spd.port ∧ s.saf.ax[n].xcOn = true ∧ c.xcTol * 65536 < (countDiff (srcVal s.saf.inc1 s.saf.abs1 x) s.saf.ax[n].xcP1 * 65536 - c.xcRatio * countDiff (srcVal s.saf.inc1 s.saf.abs1 c.spd) s.saf.ax[n].xcV).natAbs) ∧
    (∃ (s : State), diagOn s = true ∧ s.saf.toPulse = none) ∧
    (∃ (s : State), s.saf.toPulse.isSome = true) ∧
    (∃ (s : State) (j : Fin 4) (v : BitVec 16), s.saf.toPulse = some j ∧ (∀ (k : Fin 16) (i : Fin 4), s.img.safeIo.tpMap[k] = some i → i = j ∨ s.saf.siLvl.getLsbD k = true → v.getLsbD k = decide (i ≠ j))) ∧
    (∃ (s : State) (i : Fin 4) (j : Fin 4) (k : Fin 16) (v : BitVec 16), FaultEnters s ∧ s.saf.toPulse = some j ∧ s.img.safeIo.tpMap[k] = some i ∧ (i = j ∨ s.saf.siLvl.getLsbD k = true) ∧ v.getLsbD k = decide (i = j)) ∧
    (∃ (s : State) (k : Fin 4), diagOn s = true ∧ s.saf.offPulse = none ∧ s.saf.onPulse = none ∧ s.saf.so.getLsbD k = true) ∧
    (∃ (s : State) (o : OutTest), (s.saf.offPulse.isSome = true ∨ s.saf.onPulse.isSome = true ∨ outOn s o = false)) ∧
    (∃ (s : State) (n : Fin 4) (k : Fin 4) (c : AxisCfg), axisCfg s n = some c ∧ c.brakes.getLsbD k = true ∧ s.saf.ax[n].st = .braking) ∧
    (∃ (s : State) (k : Fin 4) (r : Bool), s.saf.offPulse = some (.so k) ∧ (r = true ∨ s.saf.so.getLsbD k = false)) ∧
    (∃ (s : State) (k : Fin 4), FaultEnters s ∧ s.saf.offPulse = some (.so k) ∧ s.saf.so.getLsbD k = true) ∧
    (∃ (s : State) (k : Fin 4) (low : Bool), FaultEnters s ∧ s.saf.offPulse = some (.bk k low) ∧ outOn s (.bk k low) = true) ∧
    (∃ (s : State) (k : Fin 4) (low : Bool), s.saf.offPulse = some (.bk k low) ∧ outOn s (.bk k low) = true) ∧
    (∃ (s : State) (k : Fin 4), diagOn s = true ∧ s.saf.offPulse = none ∧ s.saf.onPulse = none ∧ s.saf.so.getLsbD k = false ∧ s.img.safeIo.onpEn.getLsbD k = true ∧ s.save.active = false) ∧
    (∃ (s : State) (k : Fin 4) (low : Bool), (outOn s (.bk k (!low)) = true ∨ s.img.safeIo.onpEn.getLsbD (4 + k.val) = false)) ∧
    (∃ (s : State) (o : OutTest) (r : Bool), s.saf.onPulse = some o ∧ (r = true ∨ outOn s o = true)) ∧
    (∃ (s : State) (k : Fin 4), FaultEnters s ∧ s.saf.onPulse = some (.so k) ∧ s.saf.so.getLsbD k = false) ∧
    (∃ (s : State) (p : Fin 4) (n : Fin 4) (c : AxisCfg), diagOn s = true ∧ FaultEnters s ∧ s.fab.dom[1] = .on ∧ axisCfg s n = some c ∧ (c.spd = { port := p } ∨ c.pos1 = some { port := p } ∨ c.pos2 = some { port := p })) ∧
    (∃ (s : State) (p : Fin 4) (n : Fin 4) (c : AxisCfg) (e : Bool), diagOn s = true ∧ FaultEnters s ∧ s.fab.dom[1] = .on ∧ axisCfg s n = some c ∧ (c.spd = { port := p, abs := true } ∨ c.pos1 = some { port := p, abs := true } ∨ c.pos2 = some { port := p, abs := true }) ∧ s.img.enc[p].abs = true ∧ s.img.enc[p].errBit = true ∧ e = !s.img.enc[p].errLow ∧ coreRuns s = true) :=
  ⟨⟨withAxis {} {}, 0, {}, by decide +kernel⟩,
   ⟨withAxis {} { pos1 := some { port := 1 }, xcRatio := 65536 }, 0, { pos1 := some { port := 1 }, xcRatio := 65536 }, { port := 1 }, by decide +kernel⟩,
   ⟨withAxis { xcP1 := 100, xcOn := true } { pos1 := some { port := 1 }, xcRatio := 65536 }, 0, { pos1 := some { port := 1 }, xcRatio := 65536 }, { port := 1 }, by decide +kernel, by unfold FaultEnters; decide +kernel, by decide +kernel⟩,
   ⟨atMode .operate, by decide +kernel⟩,
   ⟨{ saf := { toPulse := some 1 } }, by decide +kernel⟩,
   ⟨{ saf := { toPulse := some 1, siLvl := 1 }, img := { safeIo := { tpMap := .replicate 16 (some 1) } } }, 1, 0, by decide +kernel⟩,
   ⟨{ sys := { mode := .operate }, saf := { toPulse := some 1 }, img := { safeIo := { tpMap := .replicate 16 (some 1) } } }, 1, 1, 0, 1, by unfold FaultEnters; decide +kernel, by decide +kernel⟩,
   ⟨{ atMode .operate with saf := { so := 8 } }, 3, by decide +kernel⟩,
   ⟨State.reset, .so 0, by decide +kernel⟩,
   ⟨withAxis { st := .braking } { brakes := 1 }, 0, 0, { brakes := 1 }, by decide +kernel⟩,
   ⟨{ saf := { offPulse := some (.so 0) } }, 0, true, by decide +kernel⟩,
   ⟨{ atMode .operate with saf := { so := 1, offPulse := some (.so 0) } }, 0, by unfold FaultEnters; decide +kernel, by decide +kernel⟩,
   ⟨{ atMode .operate with saf := { bkL := 1, offPulse := some (.bk 0 true) } }, 0, true, by unfold FaultEnters; decide +kernel, by decide +kernel⟩,
   ⟨{ saf := { bkH := 4, offPulse := some (.bk 2 false) } }, 2, false, by decide +kernel⟩,
   ⟨{ atMode .operate with img := { safeIo := { onpEn := 1 } } }, 0, by decide +kernel⟩,
   ⟨State.reset, 0, false, by decide +kernel⟩,
   ⟨{ saf := { onPulse := some (.so 0) } }, .so 0, true, by decide +kernel⟩,
   ⟨{ atMode .operate with saf := { onPulse := some (.so 3) } }, 3, by unfold FaultEnters; decide +kernel, by decide +kernel⟩,
   ⟨withAxis {} { spd := { port := 2 } }, 2, 0, { spd := { port := 2 } }, by decide +kernel, by unfold FaultEnters; decide +kernel, by decide +kernel, by decide +kernel, Or.inl (by decide +kernel)⟩,
   ⟨{ withAxis {} {} with img := { axes := [{ spd := { port := 2, abs := true } }], enc := .replicate 4 { abs := true, errBit := true } } }, 2, 0, { spd := { port := 2, abs := true } }, true, by decide +kernel, by unfold FaultEnters; decide +kernel, by decide +kernel, by decide +kernel, Or.inl (by decide +kernel), by decide +kernel⟩⟩

/-- Witness: the premises of each clause of Obligations.MonitorFaultsAndHistory are met. -/
theorem witness_MonitorFaultsAndHistory :
    (∃ (s : State), diagOn s = true ∧ FaultEnters s) ∧
    (∃ (s : State), diagOn s = true) ∧
    (∃ (s : State), diagOn s = true ∧ FaultEnters s) ∧
    (∃ (s : State), s.saf.halted = true) ∧
    (∃ (s : State), s.saf.halted = false) ∧
    (∃ (s : State) (e : HistEntry) (l : List HistEntry), s.saf.hist = e :: l ∧ MemWf s) ∧
    (∃ (s : State), s.saf.hist = []) :=
  ⟨⟨atMode .operate, by decide +kernel, by unfold FaultEnters; decide +kernel⟩,
   ⟨atMode .operate, by decide +kernel⟩,
   ⟨atMode .operate, by decide +kernel, by unfold FaultEnters; decide +kernel⟩,
   ⟨{ saf := { halted := true } }, by decide +kernel⟩,
   ⟨State.reset, by decide +kernel⟩,
   ⟨{ saf := { hist := [default] } }, default, [], by decide +kernel, by unfold MemWf; decide +kernel⟩,
   ⟨State.reset, by decide +kernel⟩⟩

/-- Witness: the premises of each clause of Obligations.ShipPower are met. -/
theorem witness_ShipPower :
    (∃ (s : State) (c : SpmCfg) (w : World), s.img.spm = some c ∧ c.source = 1 ∧ isKeeper s = false ∧ NoConsumers s ∧ CoreMayWrite s w 14) ∧
    (∃ (s : State) (c : SpmCfg), s.img.spm = some c ∧ c.source = 1 ∧ isKeeper s = false ∧ NoConsumers s) ∧
    (∃ (s : State) (c : SpmCfg), s.img.spm = some c ∧ s.spm.loadRed = false ∧ NoConsumers s) ∧
    (∃ (s : State) (c : SpmCfg) (a : Nat) (k : Nat), s.img.spm = some c ∧ s.spm.ramp = some (a, k) ∧ k < c.redRamp ∧ isKeeper s = false ∧ NoConsumers s) ∧
    (∃ (s : State) (c : SpmCfg), s.img.spm = some c ∧ critNow s = false) ∧
    (∃ (s : State) (c : SpmCfg) (i : Fin 256), s.img.spm = some c ∧ isConsumer s 2 s.chn.slots[i] = true) ∧
    (∃ (s : State), s.spm.crit = true ∧ critNow s = false) ∧
    (∃ (s : State), critNow s = true) :=
  ⟨⟨{ img := { spm := some { source := 1 } } }, { source := 1 }, .S, by decide +kernel, by decide +kernel, by decide +kernel, noConsumers_of rfl, by unfold CoreMayWrite TagReady; decide +kernel⟩,
   ⟨{ img := { spm := some { source := 1 } } }, { source := 1 }, by decide +kernel, by decide +kernel, by decide +kernel, noConsumers_of rfl⟩,
   ⟨{ img := { spm := some {} } }, {}, by decide +kernel, by decide +kernel, noConsumers_of rfl⟩,
   ⟨{ img := { spm := some {} }, spm := { ramp := some (500, 39) } }, {}, 500, 39, by decide +kernel, by decide +kernel, by decide +kernel, by decide +kernel, noConsumers_of rfl⟩,
   ⟨{ img := { spm := some {} } }, {}, by decide +kernel⟩,
   ⟨{ withSlot { st := .running } {} with img := { templates := [{ pclass := 2 }], spm := some {} } }, {}, 0, by decide +kernel⟩,
   ⟨{ spm := { crit := true } }, by decide +kernel⟩,
   ⟨{ hl := { crit := true } }, by decide +kernel⟩⟩

/-- Witness: the premises of each clause of Obligations.ChannelStart are met. -/
theorem witness_ChannelStart :
    (∃ (s : State) (c : ChnCall) (i : Fin 256), CallTaken s opStart c i ∧ (s.chn.slots[i].st = .armed ∨ s.chn.slots[i].st = .held) ∧ getb c.w[0] 0 = false ∧ isDrive s s.chn.slots[i] = false ∧ s.chn.slots[i].bridges = 0 ∧ 2 < (slotTemplate s s.chn.slots[i]).pclass ∧ NoConsumers s ∧ Calm s) ∧
    (∃ (s : State) (c : ChnCall) (i : Fin 256) (n : Fin 4), CallTaken s opStart c i ∧ (s.chn.slots[i].st = .armed ∨ s.chn.slots[i].st = .held) ∧ getb c.w[0] 0 = false ∧ s.chn.slots[i].axis = some n ∧ s.saf.ax[n].st = .sto ∧ s.saf.ax[n].latch = false ∧ inputDems ((axisCfg s n).getD {}) s.saf.siLvl = [] ∧ ((axisCfg s n).getD {}).slpReq = false ∧ s.trst.adopted = true ∧ 2 < (slotTemplate s s.chn.slots[i]).pclass ∧ NoConsumers s ∧ Calm s) ∧
    (∃ (s : State) (c : ChnCall) (i : Fin 256) (n : Fin 4), CallTaken s opStart c i ∧ (s.chn.slots[i].st = .armed ∨ s.chn.slots[i].st = .held) ∧ getb c.w[0] 0 = false ∧ s.chn.slots[i].axis = some n ∧ s.saf.ax[n].st = .sto ∧ s.saf.ax[n].latch = true) ∧
    (∃ (s : State) (c : ChnCall) (i : Fin 256), CallTaken s opStart c i ∧ (s.chn.slots[i].st = .armed ∨ s.chn.slots[i].st = .held) ∧ getb c.w[0] 0 = false ∧ isDrive s s.chn.slots[i] = false ∧ s.chn.slots[i].bridges = 0 ∧ (((slotTemplate s s.chn.slots[i]).pclass = 2 ∧ s.spm.prefTrip = true) ∨ (((slotTemplate s s.chn.slots[i]).pclass = 1 ∨ (slotTemplate s s.chn.slots[i]).pclass = 2) ∧ s.spm.crit = true))) :=
  ⟨⟨withSlot { st := .armed } {}, onSlot0 0, 0, by unfold CallTaken PortsIdle; decide +kernel, by decide +kernel, by decide +kernel, by decide +kernel, by decide +kernel, by decide +kernel, withSlot_idle _ _ ⟨rfl, by decide⟩, by unfold Calm; decide +kernel⟩,
   ⟨{ withSlot { st := .armed, axis := some 2 } {} with img := { templates := [{}], axes := [{}] }, trst := { adopted := true }, saf := { ax := .replicate 4 { st := .sto, cfgIdx := some 0 } } }, onSlot0 0, 0, 2, by unfold CallTaken PortsIdle; decide +kernel, by decide +kernel, by decide +kernel, rfl, by decide +kernel, by decide +kernel, by decide +kernel, by decide +kernel, by decide +kernel, by decide +kernel, withSlot_idle { st := .armed, axis := some 2 } {} ⟨rfl, by decide⟩, by unfold Calm; decide +kernel⟩,
   ⟨{ withSlot { st := .held, axis := some 2 } {} with img := { templates := [{}], axes := [{}] }, saf := { ax := .replicate 4 { st := .sto, latch := true, cfgIdx := some 0 } } }, onSlot0 0, 0, 2, by unfold CallTaken PortsIdle; decide +kernel, by decide +kernel⟩,
   ⟨{ withSlot { st := .armed } { pclass := 2 } with spm := { prefTrip := true } }, onSlot0 0, 0, by unfold CallTaken PortsIdle; decide +kernel, by decide +kernel⟩⟩

/-- Witness: the premises of each clause of Obligations.LiftAdmission are met. -/
theorem witness_LiftAdmission :
    (∃ (s : State) (c : ChnCall) (i : Fin 256) (cfg : LiftCfg) (r : Nat) (v : Nat), CallTaken s opStart c i ∧ (s.chn.slots[i].st = .armed ∨ s.chn.slots[i].st = .held) ∧ s.img.lift = some cfg ∧ profileBad s s.chn.slots[i] c = none ∧ s.spm.lift = none ∧ s.chn.slots[i].axis = some cfg.axis ∧ s.saf.ax[cfg.axis].st = .released ∧ s.trst.adopted = true ∧ powerBarred s s.chn.slots[i] = false ∧ (r = rOk ∨ r = rCurtailed) ∧ liftAdmit (spmAlloc (startMark i s)) cfg (liftOf s cfg i c) (spmAlloc (startMark i s)).chn.slots[i].grant = (r, (0, v))) ∧
    (∃ (s : State) (c : ChnCall) (i : Fin 256) (l : Lift), CallTaken s opStart c i ∧ (s.chn.slots[i].st = .armed ∨ s.chn.slots[i].st = .held) ∧ profileBad s s.chn.slots[i] c = none ∧ s.spm.lift = some l ∧ liftLive s l = true) ∧
    (∃ (s : State) (cfg : LiftCfg) (l : Lift) (v : Nat), s.img.lift = some cfg ∧ s.spm.lift = some l ∧ liftH s cfg l ≠ 0 ∧ liftLive s l = true ∧ s.spm.liftSt ≠ 3 ∧ bestSpeed (speedFits s cfg l (liftH s cfg l) s.chn.slots[l.slot].grant 10) cfg.vMinLift l.speed = some v) ∧
    (∃ (s : State) (cfg : LiftCfg) (l : Lift), s.img.lift = some cfg ∧ s.spm.lift = some l ∧ liftH s cfg l ≠ 0 ∧ liftLive s l = true ∧ s.spm.liftSt ≠ 3 ∧ bestSpeed (speedFits s cfg l (liftH s cfg l) s.chn.slots[l.slot].grant 10) cfg.vMinLift l.speed = none) ∧
    (∃ (s : State) (cfg : LiftCfg) (l : Lift), s.img.lift = some cfg ∧ s.spm.lift = some l ∧ (liftH s cfg l = 0 ∨ liftLive s l = false)) ∧
    (∃ (s : State) (l : Lift) (a : AxisCfg), s.spm.lift = some l ∧ axisCfg s l.axis = some a ∧ s.spm.liftSt = 3 ∧ 2 * a.sstillT ≤ s.saf.ax[l.axis].stillCyc ∧ s.saf.ax[l.axis].st = .released) :=
  ⟨⟨{ withSlot { st := .armed, axis := some 0 } {} with img := { templates := [{}], axes := [{}], lift := some { axis := 0, chopKw := 10 } }, trst := { adopted := true }, saf := { ax := .replicate 4 { st := .released, cfgIdx := some 0, stillCyc := 2 } } }, { handle := 0x0100, w := #v[1, 1000, 0x000A000A, 1, 0, 0, 0] }, 0, { axis := 0, chopKw := 10 }, 0, 10, by unfold CallTaken PortsIdle; decide +kernel, by decide +kernel⟩,
   ⟨{ withSlot { st := .armed, axis := some 0, startPend := true } {} with img := { templates := [{}], axes := [{}], lift := some { axis := 0, chopKw := 10 } }, trst := { adopted := true }, saf := { ax := .replicate 4 { st := .released, cfgIdx := some 0, stillCyc := 2 } }, spm := { lift := some { slot := 0, axis := 0, height := 1000, speed := 10, acc := 10, lower := true, mass := 0, p0 := 0 } } }, { handle := 0x0100, w := #v[1, 1000, 0x000A000A, 1, 0, 0, 0] }, 0, { slot := 0, axis := 0, height := 1000, speed := 10, acc := 10, lower := true, mass := 0, p0 := 0 }, by unfold CallTaken PortsIdle; decide +kernel, by decide +kernel⟩,
   ⟨{ withSlot { st := .armed, axis := some 0, startPend := true } {} with img := { templates := [{}], axes := [{}], lift := some { axis := 0, chopKw := 10 } }, trst := { adopted := true }, saf := { ax := .replicate 4 { st := .released, cfgIdx := some 0, stillCyc := 2 } }, spm := { lift := some { slot := 0, axis := 0, height := 1000, speed := 10, acc := 10, lower := true, mass := 0, p0 := 0 } } }, { axis := 0, chopKw := 10 }, { slot := 0, axis := 0, height := 1000, speed := 10, acc := 10, lower := true, mass := 0, p0 := 0 }, 10, by decide +kernel⟩,
   ⟨{ withSlot { st := .armed, axis := some 0, startPend := true } {} with img := { templates := [{}], axes := [{}], lift := some { axis := 0, chopKw := 10 } }, trst := { adopted := true }, saf := { ax := .replicate 4 { st := .released, cfgIdx := some 0, stillCyc := 2 } }, spm := { lift := some { slot := 0, axis := 0, height := 1000, speed := 10, acc := 10, lower := false, mass := 1000, p0 := 0 } } }, { axis := 0, chopKw := 10 }, { slot := 0, axis := 0, height := 1000, speed := 10, acc := 10, lower := false, mass := 1000, p0 := 0 }, by decide +kernel⟩,
   ⟨{ withSlot { st := .armed, axis := some 0 } {} with img := { templates := [{}], axes := [{}], lift := some { axis := 0, chopKw := 10 } }, trst := { adopted := true }, saf := { ax := .replicate 4 { st := .released, cfgIdx := some 0, stillCyc := 2 } }, spm := { lift := some { slot := 0, axis := 0, height := 0, speed := 10, acc := 10, lower := true, mass := 0, p0 := 0 } } }, { axis := 0, chopKw := 10 }, { slot := 0, axis := 0, height := 0, speed := 10, acc := 10, lower := true, mass := 0, p0 := 0 }, by decide +kernel⟩,
   ⟨{ withSlot { st := .armed, axis := some 0 } {} with img := { templates := [{}], axes := [{}], lift := some { axis := 0, chopKw := 10 } }, trst := { adopted := true }, saf := { ax := .replicate 4 { st := .released, cfgIdx := some 0, stillCyc := 2 } }, spm := { liftSt := 3, lift := some { slot := 0, axis := 0, height := 1000, speed := 10, acc := 10, lower := true, mass := 0, p0 := 0 } } }, { slot := 0, axis := 0, height := 1000, speed := 10, acc := 10, lower := true, mass := 0, p0 := 0 }, {}, by decide +kernel⟩⟩

set_option maxRecDepth 100000 in
/-- Witness: the premises of each clause of Obligations.HarovFrames are met. -/
theorem witness_HarovFrames :
    (∃ (s : State) (c : HlCfg) (b : List Byte), HlPass s c b ∧ NoConsumers s ∧ s.hl.leaving = false) ∧
    (∃ (s : State) (c : HlCfg) (b : List Byte), s.img.hl = some c ∧ s.hl.on = true ∧ frameGood c b = false) ∧
    (∃ (s : State) (c : HlCfg) (p : SpmCfg), s.img.hl = some c ∧ s.img.spm = some p ∧ s.hl.on = true ∧ c.node = c.keeper ∧ c.ringId < 65536 ∧ c.nnodes ≤ 8 ∧ NoConsumers s ∧ s.hl.cfgErr = false ∧ s.hl.dup = false) ∧
    (∃ (s : State) (c : HlCfg), s.img.hl = some c ∧ s.hl.on = true ∧ s.hl.link = false ∧ s.hl.cfgErr = false ∧ s.hl.dup = false ∧ c.node ≠ c.keeper ∧ c.ringId < 65536) :=
  ⟨⟨hlNode {} { node := 1, keeper := 0 }, { node := 1, keeper := 0 }, hlFrame 0 false, by unfold HlPass; decide +kernel, noConsumers_of rfl, by decide +kernel⟩,
   ⟨hlNode {} { node := 1, keeper := 0 }, { node := 1, keeper := 0 }, [], by decide +kernel⟩,
   ⟨{ hlNode {} { node := 0, keeper := 0 } with img := { hl := some { node := 0, keeper := 0 }, spm := some {} } }, { node := 0, keeper := 0 }, {}, by decide +kernel, by decide +kernel, by decide +kernel, by decide +kernel, by decide +kernel, by decide +kernel, noConsumers_of rfl, by decide +kernel⟩,
   ⟨hlNode {} { node := 1, keeper := 0 }, { node := 1, keeper := 0 }, by decide +kernel⟩⟩

set_option maxRecDepth 100000 in
/-- Witness: the premises of each clause of Obligations.HarovTokensAndDroop are met. -/
theorem witness_HarovTokensAndDroop :
    (∃ (s : State) (c : HlCfg) (b : List Byte), HlPass s c b ∧ NoConsumers s ∧ s.hl.leaving = false ∧ frameFlag b 0 = false ∧ frameFlag b 4 = false ∧ slotOffer b c.keeper.val = none ∧ s.hl.offer = none ∧ frameTarget b c.node.val < s.hl.taken) ∧
    (∃ (s : State) (c : HlCfg) (b : List Byte), HlPass s c b ∧ NoConsumers s ∧ s.hl.leaving = false ∧ frameFlag b 0 = true) ∧
    (∃ (s : State) (c : HlCfg), s.img.hl = some c ∧ s.hl.link = false) ∧
    (∃ (s : State) (c : HlCfg) (b : List Byte), s.img.hl = some c ∧ s.hl.on = true ∧ c.node = c.keeper ∧ frameGood c b = true ∧ s.hl.fold1 = false) ∧
    (∃ (s : State) (c : HlCfg) (p : Fin 2) (b : List Byte) (sum : Nat), s.img.hl = some c ∧ s.hl.on = true ∧ c.node = c.keeper ∧ s.hl.joined = true ∧ frameGood c b = true ∧ s.hl.offer = none ∧ s.hl.acceptedNow = 0 ∧ NoConsumers s ∧ (p = 1 ∨ s.hl.fold1 = true) ∧ s.hl.cfgErr = false ∧ s.hl.dup = false ∧ (∀ n : Fin 8, n ≠ c.node → n.val < c.nnodes → slotFresh b n.val = true) ∧ sum = slotU16 b c.node.val 0x10 + (fins 8).foldl (fun (a : Nat) (n : Fin 8) => if n ≠ c.node ∧ n.val < c.nnodes then a + slotU16 b n.val 0x10 else a) 0) ∧
    (∃ (s : State) (c : HlCfg), s.img.hl = some c ∧ s.hl.on = true ∧ s.hl.link = true ∧ c.role = 2 ∧ c.master.isSome = true ∧ s.hl.cfgErr = false ∧ s.hl.dup = false) ∧
    (∃ (s : State) (c : HlCfg), s.img.hl = some c ∧ s.hl.on = true ∧ s.hl.link = true ∧ c.role ≠ 2) ∧
    (∃ (s : State) (c : HlCfg), s.img.hl = some c ∧ s.hl.droop = true) ∧
    (∃ (s : State), s.hl.droop = false) ∧
    (∃ (s : State), s.hl.droop = true ∧ s.hl.freshRun = 8) ∧
    (∃ (s : State), s.hl.freshRun ≠ 8) ∧
    (∃ (s : State), s.hl.on = true ∧ s.hl.fold0 = false) ∧
    (∃ (s : State), s.hl.on = true ∧ s.hl.fold1 = false) :=
  ⟨⟨hlNode { taken := 10 } { node := 1, keeper := 0 }, { node := 1, keeper := 0 }, hlFrame 0 false, by unfold HlPass; decide +kernel, noConsumers_of rfl, by decide +kernel⟩,
   ⟨hlNode {} { node := 1, keeper := 0 }, { node := 1, keeper := 0 }, hlFrame 1 false, by unfold HlPass; decide +kernel, noConsumers_of rfl, by decide +kernel⟩,
   ⟨hlNode {} { node := 1, keeper := 0 }, { node := 1, keeper := 0 }, by decide +kernel⟩,
   ⟨hlNode {} { node := 0, keeper := 0 }, { node := 0, keeper := 0 }, hlFrame 0 true, by decide +kernel⟩,
   ⟨hlNode {} { node := 0, keeper := 0 }, { node := 0, keeper := 0 }, 1, hlFrame 0 true, 0, by decide +kernel, by decide +kernel, by decide +kernel, by decide +kernel, by decide +kernel, by decide +kernel, by decide +kernel, noConsumers_of rfl, by decide +kernel⟩,
   ⟨hlNode { link := true } { role := 2, master := some 0 }, { role := 2, master := some 0 }, by decide +kernel⟩,
   ⟨hlNode { link := true } {}, {}, by decide +kernel⟩,
   ⟨hlNode { droop := true } {}, {}, by decide +kernel⟩,
   ⟨State.reset, by decide +kernel⟩,
   ⟨hlNode { droop := true, freshRun := 8 } {}, by decide +kernel⟩,
   ⟨hlNode { freshRun := 7 } {}, by decide +kernel⟩,
   ⟨hlNode {} {}, by decide +kernel⟩,
   ⟨hlNode {} {}, by decide +kernel⟩⟩

/-- Witness: the premises of each clause of Obligations.CabinetMeasuring are met. -/
theorem witness_CabinetMeasuring :
    (∃ (s : State), isMn s = false ∧ s.cab.run = false) ∧
    (∃ (s : State), isMn s = true) ∧
    (∃ (s : State), s.cab.run = true) ∧
    (∃ (s : State) (m : CabSample), s.cab.run = true ∧ m.acc = none ∧ s.cab.a = 0 ∧ s.cab.par.cells = 1 ∧ s.cab.par.span[0].den = 1 ∧ 0 < s.cab.par.grav) ∧
    (∃ (s : State), s.cab.run = false) :=
  ⟨⟨State.reset, by decide +kernel⟩,
   ⟨{ mem := [(0x30000010, 0)] }, by decide +kernel⟩,
   ⟨cabRuns {}, by decide +kernel⟩,
   ⟨cabRuns {}, ⟨.replicate 4 0, .replicate 4 0, 0, none⟩, by decide +kernel⟩,
   ⟨State.reset, by decide +kernel⟩⟩

/-- Witness: the premises of each clause of Obligations.CabinetCommands are met. -/
theorem witness_CabinetCommands :
    (∃ (s : State) (w : World), CabFree s w ∧ s.cab.regArg = 0) ∧
    (∃ (s : State) (w : World), CabFree s w ∧ s.cab.regArg = 0 ∧ s.cab.causes = 0 ∧ s.cab.par.tare = 0 ∧ s.cab.stable = true ∧ 50 * (s.cab.raw - s.cab.zero0.getD 0).natAbs ≤ s.cab.par.maxMg) ∧
    (∃ (s : State) (w : World), CabFree s w ∧ s.cab.regArg = 0 ∧ s.cab.causes = 0 ∧ s.cab.stable = true ∧ 0 < s.cab.gross ∧ s.cab.gross ≤ s.cab.par.maxMg) ∧
    (∃ (s : State) (w : World), CabFree s w ∧ s.cab.regArg = 0 ∧ s.cab.causes = 0 ∧ s.cab.stable = true ∧ (s.cab.gross ≤ 0 ∨ (s.cab.par.maxMg : Int) < s.cab.gross)) ∧
    (∃ (s : State) (w : World), CabFree s w ∧ s.cab.regArg = 0 ∧ s.cab.causes = 0 ∧ s.cab.noDisp = false ∧ s.cab.stable = true ∧ s.cab.overload = false ∧ s.cab.underload = false) ∧
    (∃ (s : State) (w : World), CabFree s w ∧ s.cab.regArg = 0 ∧ (s.cab.causes ≠ 0 ∨ s.cab.noDisp = true)) ∧
    (∃ (s : State) (w : World), CabFree s w ∧ s.cab.regArg = 0 ∧ s.cab.causes = 0 ∧ s.cab.noDisp = false ∧ s.cab.stable = false) ∧
    (∃ (s : State) (k : CabCmd), s.cab.cmd = some k ∧ s.cab.run = true ∧ s.cab.stable = true ∧ s.cab.causes = 0 ∧ k.op = 1 ∧ s.cab.par.tare = 0 ∧ 50 * (s.cab.raw - s.cab.zero0.getD 0).natAbs ≤ s.cab.par.maxMg) ∧
    (∃ (s : State) (k : CabCmd), s.cab.cmd = some k) ∧
    (∃ (s : State) (w : World) (r : List Byte), CabFree s w ∧ s.cab.findRecord s.cab.regArg.toNat = some r) ∧
    (∃ (s : State) (w : World), CabFree s w ∧ (s.cab.regArg = 0 ∨ s.cab.newest < s.cab.regArg.toNat ∨ s.cab.regArg.toNat + 32767 < s.cab.newest)) ∧
    (∃ (s : State) (w : World), CabFree s w ∧ s.cab.regArg = 0) ∧
    (∃ (s : State) (w : World), CoreMayWrite s w 9 ∧ isMn s = false ∧ s.cab.pend = true) ∧
    (∃ (s : State) (w : World), CoreMayWrite s w 9 ∧ isMn s = true) :=
  ⟨⟨cabRuns {}, .S, by unfold CabFree TagReady; decide +kernel, by decide +kernel⟩,
   ⟨cabRuns { stable := true, raw := 120000000 }, .S, by unfold CabFree TagReady; decide +kernel, by decide +kernel⟩,
   ⟨cabRuns { stable := true, raw := 6000000000 }, .S, by unfold CabFree TagReady; decide +kernel, by decide +kernel⟩,
   ⟨cabRuns { stable := true }, .S, by unfold CabFree TagReady; decide +kernel, by decide +kernel⟩,
   ⟨cabRuns { stable := true }, .S, by unfold CabFree TagReady; decide +kernel, by decide +kernel⟩,
   ⟨cabRuns { noDisp := true }, .S, by unfold CabFree TagReady; decide +kernel, by decide +kernel⟩,
   ⟨cabRuns {}, .S, by unfold CabFree TagReady; decide +kernel, by decide +kernel⟩,
   ⟨cabRuns { stable := true, cmd := some ⟨1, 1, 0⟩ }, ⟨1, 1, 0⟩, by decide +kernel⟩,
   ⟨cabRuns { cmd := some ⟨1, 1, 0⟩ }, ⟨1, 1, 0⟩, by decide +kernel⟩,
   ⟨cabRuns { newest := 1, alibi := [(1, { bytes := [7] })], regArg := 1 }, .S, [7], by unfold CabFree TagReady; decide +kernel, by decide +kernel⟩,
   ⟨cabRuns { newest := 40000, regArg := 7232 }, .S, by unfold CabFree TagReady; decide +kernel, by decide +kernel⟩,
   ⟨cabRuns {}, .S, by unfold CabFree TagReady; decide +kernel, by decide +kernel⟩,
   ⟨cabRuns { pend := true }, .S, by unfold CoreMayWrite TagReady; decide +kernel⟩,
   ⟨{ mem := [(0x30000010, 0)] }, .S, by unfold CoreMayWrite TagReady; decide +kernel⟩⟩

/-- Witness: the premises of each clause of Obligations.CabinetSealing are met. -/
theorem witness_CabinetSealing :
    (∃ (s : State) (b : List Byte) (q : CabParam) (v : Nat) (p : CabPar), cRequest b = some (some (q, v)) ∧ s.cab.run = true ∧ s.cab.calsw = true ∧ s.cab.par.audit < 65535 ∧ s.cab.par.setParam q v = some p) ∧
    (∃ (s : State) (b : List Byte) (x : Option (CabParam × Nat)), cRequest b = some x ∧ s.cab.run = true ∧ s.cab.calsw = false) ∧
    (∃ (s : State) (b : List Byte) (x : Option (CabParam × Nat)), cRequest b = some x ∧ s.cab.run = true ∧ s.cab.calsw = true ∧ 65535 ≤ s.cab.par.audit) ∧
    (∃ (s : State) (b : List Byte), sRequest b = some none ∧ s.cab.run = true ∧ s.cab.calsw = true ∧ s.cab.par.audit < 65535) ∧
    (∃ (s : State) (b : List Byte) (kg : Nat), sRequest b = some (some kg) ∧ s.cab.run = true ∧ s.cab.calsw = true ∧ s.cab.par.audit < 65535 ∧ (s.cab.par.captureSpan s.cab.ratio kg).isSome = true) ∧
    (∃ (s : State), s.cab.run = true) ∧
    (∃ (s : State) (k : Fin 8), s.cab.run = true ∧ k ≠ 0 ∧ k ≠ 2 ∧ k ≠ 3 ∧ k ≠ 7 ∧ s.cab.cond.getLsbD k = false) ∧
    (∃ (s : State) (k : Fin 8), k ≠ 0 ∧ k ≠ 3 ∧ s.cab.cond.getLsbD k = true) ∧
    (∃ (s : State) (w : World) (r : List Byte) (l : List (List Byte)), CoreMayWrite s w 9 ∧ s.cab.fifo = r :: l ∧ s.cab.hold = []) :=
  ⟨⟨cabRuns { calsw := true, par := { audit := 65534 } }, telegram "C" [ascii "MAX_E", ascii "100"], .maxE, 100, { audit := 65534, maxE := 100 }, by decide +kernel⟩,
   ⟨cabRuns {}, telegram "C" [ascii "TRACK", ascii "1"], some (.track, 1), by decide +kernel⟩,
   ⟨cabRuns { calsw := true, par := { audit := 65535 } }, telegram "C" [ascii "CELLS", ascii "0"], some (.cells, 0), by decide +kernel⟩,
   ⟨cabRuns { calsw := true }, telegram "S" [ascii "Z"], by decide +kernel⟩,
   ⟨cabRuns { calsw := true, ratio := .replicate 4 1 }, telegram "S" [ascii "N", ascii "1000"], 1000, by decide +kernel⟩,
   ⟨cabRuns {}, by decide +kernel⟩,
   ⟨cabRuns {}, 1, by decide +kernel⟩,
   ⟨{ cab := { cond := 2 } }, 1, by decide +kernel⟩,
   ⟨{ cab := { fifo := [[]] } }, .S, [], [], by unfold CoreMayWrite TagReady; decide +kernel⟩⟩

/-- Witness: the premises of each clause of Obligations.FieldOutputs are met. -/
theorem witness_FieldOutputs :
    (∃ (s : State) (n : Fin 32) (hot : Bool), (s.fio.out[n].st = 1 ∨ s.fio.out[n].st = 2) ∧ (hot = true ∨ inInrush s n = false) ∧ s.sys.mode ≠ .watch) ∧
    (∃ (s : State) (n : Fin 32), s.fio.out[n].st ≠ 1 ∧ s.fio.out[n].st ≠ 2) ∧
    (∃ (s : State) (n : Fin 32), s.fio.out[n].st = 3 ∧ s.sys.mode ≠ .watch) ∧
    (∃ (s : State) (n : Fin 32), (s.fio.out[n].st = 1 ∨ s.fio.out[n].st = 2)) ∧
    (∃ (s : State) (w : World), CoreMayWrite s w 10) ∧
    (∃ (s : State) (n : Fin 32), s.img.fo[n].mode ≠ 0 ∧ s.fio.vfoLow = false ∧ s.sys.mode ≠ .watch ∧ s.fio.out[n].shortNow s.img.fo[n] s.now = false ∧ openMethod s.img.fo[n] s.fio.out[n] ≠ 0 ∧ s.fio.out[n].openCnt = 2 ∧ s.fio.out[n].opened = false) ∧
    (∃ (s : State) (n : Fin 32), (s.fio.vfoLow = true ∨ s.fio.out[n].shortNow s.img.fo[n] s.now = true)) :=
  ⟨⟨{ fio := { out := .replicate 32 { st := 1 } }, img := { fo := .replicate 32 { mode := 1 } } }, 31, true, by decide +kernel⟩,
   ⟨State.reset, 0, by decide +kernel⟩,
   ⟨{ fio := { out := .replicate 32 { st := 3 } }, img := { fo := .replicate 32 { mode := 1 } } }, 0, by decide +kernel⟩,
   ⟨{ fio := { out := .replicate 32 { st := 2 } }, img := { fo := .replicate 32 { mode := 1 } } }, 0, by decide +kernel⟩,
   ⟨State.reset, .S, by unfold CoreMayWrite TagReady; decide +kernel⟩,
   ⟨{ fio := { out := .replicate 32 { st := 1, openCnt := 2 } }, img := { fo := .replicate 32 { mode := 1 } } }, 5, by decide +kernel⟩,
   ⟨{ fio := { vfoLow := true } }, 31, by decide +kernel⟩⟩

/-- Witness: the premises of each clause of Obligations.FanSupervision are met. -/
theorem witness_FanSupervision :
    (∃ (s : State) (n : Fin 8) (width : Nat), FanOn s n ∧ 50 ≤ width ∧ (s.fan[n].st = .spinUp ∨ s.fan[n].st = .kick)) ∧
    (∃ (width : Nat), width < 50) ∧
    (∃ (s : State) (n : Fin 8), FanOn s n ∧ s.fan[n].st = .spinUp ∧ s.fan[n].kicks < 3) ∧
    (∃ (s : State) (n : Fin 8), FanOn s n ∧ s.fan[n].st = .spinUp ∧ 3 ≤ s.fan[n].kicks) ∧
    (∃ (s : State) (n : Fin 8), FanOn s n ∧ s.fan[n].st = .kick) ∧
    (∃ (s : State) (n : Fin 8) (rpm : BitVec 16), FanOn s n ∧ s.fan[n].st = .running ∧ rpm.toNat < s.img.fan[n].minRpm) ∧
    (∃ (s : State) (n : Fin 8) (rpm : BitVec 16), FanOn s n ∧ s.img.spm = none ∧ (s.fan[n].st = .stall ∨ s.fan[n].st = .tachLost) ∧ s.img.fan[n].minRpm ≤ rpm.toNat) :=
  ⟨⟨{ sys := { mode := .lockoutFault }, fan := .replicate 8 { st := .spinUp }, img := { fan := .replicate 8 { use := true, checkDuty := 200, faultDuty := 200 } } }, 0, 50, by unfold FanOn; decide +kernel, by decide +kernel⟩,
   ⟨49, by decide +kernel⟩,
   ⟨{ sys := { mode := .lockoutFault }, fan := .replicate 8 { st := .spinUp, kicks := 2 }, img := { fan := .replicate 8 { use := true, checkDuty := 200, faultDuty := 200 } } }, 7, by unfold FanOn; decide +kernel, by decide +kernel⟩,
   ⟨{ sys := { mode := .lockoutFault }, fan := .replicate 8 { st := .spinUp, kicks := 3 }, img := { fan := .replicate 8 { use := true, checkDuty := 200, faultDuty := 200 } } }, 7, by unfold FanOn; decide +kernel, by decide +kernel⟩,
   ⟨{ sys := { mode := .lockoutFault }, fan := .replicate 8 { st := .kick }, img := { fan := .replicate 8 { use := true, checkDuty := 200, faultDuty := 200 } } }, 0, by unfold FanOn; decide +kernel, by decide +kernel⟩,
   ⟨{ sys := { mode := .lockoutFault }, fan := .replicate 8 { st := .running }, img := { fan := .replicate 8 { use := true, checkDuty := 200, faultDuty := 200 } } }, 0, 99, by unfold FanOn; decide +kernel, by decide +kernel⟩,
   ⟨{ sys := { mode := .lockoutFault }, fan := .replicate 8 { st := .stall }, img := { fan := .replicate 8 { use := true, checkDuty := 200, faultDuty := 200 } } }, 0, 100, by unfold FanOn; decide +kernel, by decide +kernel⟩⟩

/-- Witness: the premises of each clause of Obligations.InputsAndSerial are met. -/
theorem witness_InputsAndSerial :
    (∃ (s : State), coreRuns s = true ∧ s.img.spm = none) ∧
    (∃ (s : State) (p : Fin 4), s.img.enc[p].inc = true ∧ coreRuns s = true) ∧
    (∃ (s : State) (p : Fin 4), s.img.enc[p].inc = true ∧ coreRuns s = true) ∧
    (∃ (s : State) (p : Fin 4), s.img.enc[p].abs = true ∧ coreRuns s = true ∧ s.img.enc[p].errBit = false ∧ s.save.verify = []) ∧
    (∃ (s : State) (n : Fin 24), s.gpio.dir.getLsbD n = false) ∧
    (∃ (s : State) (n : Fin 24), s.gpio.dir.getLsbD n = true) ∧
    (∃ (s : State) (w : World), CoreMayWrite s w 25) :=
  ⟨⟨State.reset, by decide +kernel⟩,
   ⟨{ img := { enc := .replicate 4 { inc := true } } }, 3, by decide +kernel⟩,
   ⟨{ img := { enc := .replicate 4 { inc := true } } }, 3, by decide +kernel⟩,
   ⟨{ img := { enc := .replicate 4 { abs := true } } }, 3, by decide +kernel⟩,
   ⟨State.reset, 23, by decide +kernel⟩,
   ⟨{ gpio := { dir := 1 } }, 0, by decide +kernel⟩,
   ⟨State.reset, .S, by unfold CoreMayWrite TagReady; decide +kernel⟩⟩

/-- Witness: the premises of each clause of Obligations.EthernetStack are met. -/
theorem witness_EthernetStack :
    (∃ (s : State) (p : Fin 2), ethUp s p = false) ∧
    (∃ (s : State) (p : Fin 2) (f : List Byte) (own : Nat), portIp s p = some own ∧ ethUp s p = true ∧ etherType f = 0x0806 ∧ slice f 0 6 = List.replicate 6 0xFF ∧ 42 ≤ f.length ∧ slice f 14 6 = [0, 1, 8, 0, 6, 4] ∧ beNat (slice f 38 4) = own ∧ beNat (slice f 20 2) = 1) ∧
    (∃ (s : State) (p : Fin 2) (f : List Byte) (m : List Byte) (own : Nat), IpTaken s p own f m 1 ∧ 8 ≤ m.length ∧ m.length ≤ 1480 ∧ slice m 0 2 = [8, 0] ∧ inetSum m = 0) ∧
    (∃ (s : State) (p : Fin 2) (f : List Byte) (m : List Byte) (own : Nat), IpTaken s p own f m 17 ∧ beNat (slice m 2 2) = 47190 ∧ beNat (slice m 6 2) = 0 ∧ 8 ≤ beNat (slice m 4 2) ∧ beNat (slice m 4 2) ≤ m.length) ∧
    (∃ (s : State) (p : Fin 2) (f : List Byte) (m : List Byte) (own : Nat), IpTaken s p own f m 17 ∧ beNat (slice m 2 2) ≠ 47190) ∧
    (∃ (s : State) (p : Fin 2) (f : List Byte) (m : List Byte) (own : Nat), IpTaken s p own f m 6 ∧ 20 ≤ m.length ∧ (m.getD 12 0).toNat / 16 * 4 ≤ m.length ∧ inetSum (pseudo (beNat (slice f 26 4)) own 6 m.length ++ m) = 0 ∧ beNat (slice m 2 2) ≠ 502) ∧
    (∃ (s : State) (p : Fin 2) (f : List Byte) (own : Nat), portIp s p = some own ∧ ethUp s p = true ∧ ((etherType f ≠ 0x0806 ∧ etherType f ≠ 0x0800) ∨ (etherType f = 0x0800 ∧ toMe s p f = false) ∨ (etherType f = 0x0800 ∧ beNat (slice (slice f 14 20) 6 2) % 16384 ≠ 0))) ∧
    (∃ (s : State), s.fab.dom[3] = .on) ∧
    (∃ (s : State) (p : Fin 2) (d : DmaEnd), s.fab.dom[3] ≠ .off ∧ s.net.eth[p].dma = some d ∧ MemWf s) ∧
    (∃ (s : State) (p : Fin 2), s.net.eth[p].dma = none) :=
  ⟨⟨State.reset, 0, by decide +kernel⟩,
   ⟨withNet .operate [], 0, arpFrame, 0x0A000001, by decide +kernel⟩,
   ⟨withNet .operate [], 0, ipFrame 1 [8, 0, 0xF7, 0xFF, 0, 0, 0, 0], [8, 0, 0xF7, 0xFF, 0, 0, 0, 0], 0x0A000001, by unfold IpTaken; decide +kernel, by decide +kernel⟩,
   ⟨withNet .operate [], 0, ipFrame 17 [0, 1, 0xB8, 0x56, 0, 8, 0, 0], [0, 1, 0xB8, 0x56, 0, 8, 0, 0], 0x0A000001, by unfold IpTaken; decide +kernel, by decide +kernel⟩,
   ⟨withNet .operate [], 0, ipFrame 17 [0, 1, 0, 1, 0, 8, 0, 0], [0, 1, 0, 1, 0, 8, 0, 0], 0x0A000001, by unfold IpTaken; decide +kernel, by decide +kernel⟩,
   ⟨withNet .operate [], 0, ipFrame 6 (tcpSeg 503), tcpSeg 503, 0x0A000001, by unfold IpTaken; decide +kernel, by decide +kernel⟩,
   ⟨withNet .operate [], 0, List.replicate 12 0 ++ [0x86, 0xDD], 0x0A000001, by decide +kernel⟩,
   ⟨State.reset, by decide +kernel⟩,
   ⟨{ net := { eth := #v[{ dma := some { desc := 0x10000000, send := true, status := 0, bytes := 60 } }, {}] } }, 0, { desc := 0x10000000, send := true, status := 0, bytes := 60 }, by unfold MemWf; decide +kernel⟩,
   ⟨State.reset, 1, by decide +kernel⟩⟩

set_option maxRecDepth 100000 in
/-- Witness: the premises of each clause of Obligations.HspSessions are met. -/
theorem witness_HspSessions :
    (∃ (s : State) (p : Fin 2) (d : List Byte) (psk : List Byte), hspOp d = 1 ∧ ethUp s p = true ∧ hspForm d = true ∧ s.boot.psk[if hspNs d then (1 : Fin 2) else 0] = some psk ∧ hspAuth psk d = true ∧ hspSid d = 0 ∧ hspCtr d = 0 ∧ hspLen d = 16 ∧ s.net.sess.length < 4 ∧ s.net.xfers.length < 4294967000) ∧
    (∃ (s : State) (p : Fin 2) (d : List Byte), hspOp d = 1 ∧ ethUp s p = true ∧ hspForm d = true ∧ (s.boot.psk[if hspNs d then (1 : Fin 2) else 0] = none ∨ ∃ psk, s.boot.psk[if hspNs d then (1 : Fin 2) else 0] = some psk ∧ hspAuth psk d = false)) ∧
    (∃ (s : State) (p : Fin 2) (d : List Byte) (psk : List Byte), hspOp d = 1 ∧ ethUp s p = true ∧ hspForm d = true ∧ s.boot.psk[if hspNs d then (1 : Fin 2) else 0] = some psk ∧ hspAuth psk d = true ∧ hspSid d = 0 ∧ hspCtr d = 0 ∧ hspLen d = 16 ∧ 4 ≤ s.net.sess.length) ∧
    (∃ (s : State) (p : Fin 2) (d : List Byte) (c : Instr), hspRow p d = some c ∧ ethUp s p = true ∧ hspForm d = true ∧ (sessOf s (hspSid d) = none ∨ ∃ x, sessOf s (hspSid d) = some x ∧ (x.ns ≠ hspNs d ∨ hspAuth x.key d = false))) ∧
    (∃ (s : State) (p : Fin 2) (d : List Byte) (c : Instr) (x : Session), hspRow p d = some c ∧ ethUp s p = true ∧ hspForm d = true ∧ sessOf s (hspSid d) = some x ∧ x.ns = hspNs d ∧ hspAuth x.key d = true ∧ hspCtr d ≤ x.ctr) ∧
    (∃ (s : State) (p : Fin 2) (d : List Byte) (c : Instr), hspRow p d = some c ∧ ethUp s p = true ∧ hspForm d = false) ∧
    (∃ (s : State) (p : Fin 2) (d : List Byte) (c : Instr) (x : Session), hspRow p d = some c ∧ HspTaken s p d x ∧ x.wait.isSome = true) ∧
    (∃ (s : State) (p : Fin 2) (d : List Byte) (c : Instr) (x : Session), hspRow p d = some c ∧ HspTaken s p d x ∧ x.wait = none ∧ 0x41 ≤ hspOp d ∧ x.ns = true) ∧
    (∃ (s : State) (p : Fin 2) (d : List Byte) (x : Session), HspTaken s p d x ∧ hspOp d = 0x40 ∧ x.ns = true ∧ (∀ y ∈ s.net.sess, y.wait = none)) ∧
    (∃ (s : State) (p : Fin 2) (d : List Byte) (c : Instr) (x : Session), hspRow p d = some c ∧ HspTaken s p d x ∧ x.wait = none ∧ x.ns = false ∧ ((0x41 ≤ hspOp d ∧ s.sys.mode ≠ .lockoutMaint) ∨ (0x41 ≤ hspOp d ∧ hspOp d ≤ 0x48 ∧ maintPin s = false))) ∧
    (∃ (s : State) (p : Fin 2) (d : List Byte) (x : Session), HspTaken s p d x ∧ hspOp d = 0x02 ∧ x.wait = none) :=
  ⟨⟨withNet .operate [], 0, request true 0 0 1 (List.replicate 16 3), key0, by decide +kernel, by decide +kernel, (request_ok (by decide +kernel)).1, by decide +kernel, (request_ok (by decide +kernel)).2, by decide +kernel⟩,
   ⟨{ withNet .operate [] with boot := { loaded := true } }, 0, request true 0 0 1 (List.replicate 16 3), by decide +kernel, by decide +kernel, (request_ok (by decide +kernel)).1, Or.inl (by decide +kernel)⟩,
   ⟨withNet .operate (List.replicate 4 (sess7 false)), 0, request true 0 0 1 (List.replicate 16 3), key0, by decide +kernel, by decide +kernel, (request_ok (by decide +kernel)).1, by decide +kernel, (request_ok (by decide +kernel)).2, by decide +kernel⟩,
   ⟨withNet .operate [], 0, request false 7 5 0x10 [], .read 0 (request false 7 5 0x10 []), rfl, by decide +kernel, (request_ok (by decide +kernel)).1, Or.inl (by decide +kernel)⟩,
   ⟨withNet .operate [{ sess7 false with ctr := 5 }], 0, request false 7 5 0x10 [], .read 0 (request false 7 5 0x10 []), { sess7 false with ctr := 5 }, rfl, by decide +kernel, (request_ok (by decide +kernel)).1, by decide +kernel, by decide +kernel, (request_ok (by decide +kernel)).2, by decide +kernel⟩,
   ⟨withNet .operate [], 0, List.replicate 12 0 ++ [0x10], .read 0 (List.replicate 12 0 ++ [0x10]), rfl, by decide +kernel⟩,
   ⟨withNet .operate [{ sess7 false with wait := some ⟨0, 0⟩ }], 0, request false 7 5 0x10 [], .read 0 (request false 7 5 0x10 []), { sess7 false with wait := some ⟨0, 0⟩ }, rfl, taken (by decide +kernel), by decide +kernel⟩,
   ⟨withNet .operate [sess7 true], 0, request true 7 5 0x47 [], .secureLock 0 (request true 7 5 0x47 []), sess7 true, rfl, taken (by decide +kernel), by decide +kernel⟩,
   ⟨withNet .operate [sess7 true], 0, (request true 7 5 0x40 []), sess7 true, taken (by decide +kernel), by decide +kernel⟩,
   ⟨withNet .operate [sess7 false], 0, request false 7 5 0x47 [], .secureLock 0 (request false 7 5 0x47 []), sess7 false, rfl, taken (by decide +kernel), by decide +kernel⟩,
   ⟨withNet .operate [sess7 false], 0, request false 7 5 0x02 [], sess7 false, taken (by decide +kernel), by decide +kernel⟩⟩

set_option maxRecDepth 100000 in
/-- Witness: the premises of each clause of Obligations.HspCommands are met. -/
theorem witness_HspCommands :
    (∃ (s : State) (u : State) (p : Fin 2) (d : List Byte) (x : Session) (b : Nat) (o : Nat) (y : Txn) (v : Word), HspTaken s p d x ∧ hspOp d = 0x10 ∧ x.wait = none ∧ (hspPay d).length = 6 ∧ leAt (hspPay d) 4 2 = 1 ∧ target (leAt (hspPay d) 0 4) = .periph b o ∧ tagFree s 4 = true ∧ pdFault s 4 (leAt (hspPay d) 0 4) = false ∧ y = hspTxn s x .read (leAt (hspPay d) 0 4) [] ∧ u = hspHolding s p d x y ∧ regDecodeFault u .read b o 4 = false ∧ regWorldCheck u 4 (sessWorld x) .read b o = .ok ∧ v = (regRead u 4 (sessWorld x) b o).getD 0) ∧
    (∃ (s : State) (u : State) (p : Fin 2) (d : List Byte) (x : Session) (b : Nat) (o : Nat) (y : Txn), HspTaken s p d x ∧ hspOp d = 0x10 ∧ x.wait = none ∧ (hspPay d).length = 6 ∧ leAt (hspPay d) 4 2 = 1 ∧ target (leAt (hspPay d) 0 4) = .periph b o ∧ tagFree s 4 = true ∧ pdFault s 4 (leAt (hspPay d) 0 4) = false ∧ y = hspTxn s x .read (leAt (hspPay d) 0 4) [] ∧ u = hspHolding s p d x y ∧ regDecodeFault u .read b o 4 = false ∧ regWorldCheck u 4 (sessWorld x) .read b o = .no .faultWorld 0) ∧
    (∃ (s : State) (u : State) (p : Fin 2) (d : List Byte) (x : Session) (b : Nat) (o : Nat) (y : Txn), HspTaken s p d x ∧ hspOp d = 0x11 ∧ x.wait = none ∧ (hspPay d).length = 12 ∧ leAt (hspPay d) 4 2 = 1 ∧ target (leAt (hspPay d) 0 4) = .periph b o ∧ tagFree s 4 = true ∧ pdFault s 4 (leAt (hspPay d) 0 4) = false ∧ y = hspTxn s x .write (leAt (hspPay d) 0 4) [BitVec.ofNat 32 (leAt (hspPay d) 8 4)] ∧ u = hspHolding s p d x y ∧ regDecodeFault u .write b o 4 = false ∧ regWorldCheck u 4 (sessWorld x) .write b o = .ok) ∧
    (∃ (s : State) (u : State) (p : Fin 2) (d : List Byte) (x : Session), HspTaken s p d x ∧ hspOp d = 0x20 ∧ x.wait = none ∧ (hspPay d).length = 32 ∧ (∀ q : Fin 4, s.chn.ports[q].pend = false) ∧ u = portServe 1 (portGo 1 ((hspTook s p d x).modPort 1 fun q => { q with cmd := chnWords x.ns (hspPay d) }))) ∧
    (∃ (s : State) (u : State) (p : Fin 2) (d : List Byte) (x : Session) (r : Recipe), HspTaken s p d x ∧ hspOp d = 0x21 ∧ x.wait = none ∧ (hspPay d).length = 1 ∧ leAt (hspPay d) 0 1 ≤ 15 ∧ s.sys.resPend = false ∧ (x.ns = false ∨ blockWritable s .NS 0 = true) ∧ u = modeTake 1 (leAt (hspPay d) 0 1) (hspHold x d (hspTook s p d x)) ∧ recipeAt u (leAt (hspPay d) 0 1) = some r ∧ recipeRefusal u (sessWorld x) (leAt (hspPay d) 0 1) true = none ∧ goingSlots u r = []) ∧
    (∃ (s : State) (u : State) (p : Fin 2) (d : List Byte) (x : Session), HspTaken s p d x ∧ hspOp d = 0x22 ∧ x.wait = none ∧ hspPay d = [] ∧ s.sys.resPend = false ∧ (x.ns = false ∨ blockWritable s .NS 0 = true) ∧ u = modeTake 2 0 (hspHold x d (hspTook s p d x)) ∧ watchRefusal u = none) ∧
    (∃ (s : State) (p : Fin 2) (d : List Byte) (x : Session), HspTaken s p d x ∧ hspOp d = 0x40 ∧ (∀ y ∈ s.net.sess, y.wait = none) ∧ hspPay d = [] ∧ x.ns = false ∧ s.sys.resPend = false ∧ s.sys.mode = .lockoutFault ∧ maintLow s = true) ∧
    (∃ (s : State) (p : Fin 2) (d : List Byte) (x : Session), HspTaken s p d x ∧ hspOp d ∈ [0x21, 0x22] ∧ x.wait = none ∧ s.sys.resPend = true ∧ x.ns = false ∧ (hspOp d = 0x21 → (hspPay d).length = 1 ∧ leAt (hspPay d) 0 1 ≤ 15) ∧ (hspOp d = 0x22 → hspPay d = [])) ∧
    (∃ (s : State) (p : Fin 2) (d : List Byte) (x : Session), HspTaken s p d x ∧ hspOp d = 0x30 ∧ x.wait = none ∧ hspPay d = []) ∧
    (∃ (s : State) (p : Fin 2) (d : List Byte) (x : Session) (k : Fin 4) (n : Nat) (w : Nat), HspTaken s p d x ∧ hspOp d = 0x31 ∧ x.wait = none ∧ (hspPay d).length = 6 ∧ leAt (hspPay d) 0 1 = k.val ∧ leAt (hspPay d) 2 2 = w ∧ leAt (hspPay d) 4 2 = n ∧ 0 < n ∧ n ≤ 256) ∧
    (∃ (s : State) (p : Fin 2) (d : List Byte) (x : Session), HspTaken s p d x ∧ hspOp d = 0x32 ∧ x.wait = none ∧ (hspPay d).length = 4 ∧ 0 < leAt (hspPay d) 2 2 ∧ leAt (hspPay d) 0 2 + leAt (hspPay d) 2 2 ≤ 1024) ∧
    (∃ (s : State) (p : Fin 2) (d : List Byte) (x : Session) (k : Nat), HspTaken s p d x ∧ hspOp d = 0x33 ∧ x.wait = none ∧ (hspPay d).length = 36 ∧ leAt (hspPay d) 0 2 = 32 * k ∧ k < 32 ∧ s.chest.port[0].pend = false ∧ chestClosed s = false) :=
  ⟨⟨withNet .operate [sess7 false], _, 0, (request false 7 5 0x10 [0x0C, 0, 0x0E, 0x40, 1, 0]), sess7 false, 14, 12, _, _, taken (by decide +kernel), by decide +kernel, by decide +kernel, by decide +kernel, by decide +kernel, by decide +kernel, by decide +kernel, by decide +kernel, rfl, rfl, by decide +kernel, by decide +kernel, rfl⟩,
   ⟨withNet .operate [sess7 true], _, 0, (request true 7 5 0x10 [0x0C, 0, 0x0E, 0x40, 1, 0]), sess7 true, 14, 12, _, taken (by decide +kernel), by decide +kernel, by decide +kernel, by decide +kernel, by decide +kernel, by decide +kernel, by decide +kernel, by decide +kernel, rfl, rfl, by decide +kernel⟩,
   ⟨withNet .operate [sess7 false], _, 0, (request false 7 5 0x11 [0x0C, 0, 0x0E, 0x40, 1, 0, 0, 0, 9, 0, 0, 0]), sess7 false, 14, 12, _, taken (by decide +kernel), by decide +kernel, by decide +kernel, by decide +kernel, by decide +kernel, by decide +kernel, by decide +kernel, by decide +kernel, rfl, rfl, by decide +kernel⟩,
   ⟨withNet .operate [sess7 false], _, 0, (request false 7 5 0x20 (List.replicate 32 0)), sess7 false, taken (by decide +kernel), by decide +kernel, by decide +kernel, by decide +kernel, by decide +kernel, rfl⟩,
   ⟨{ withNet .operate [sess7 false] with img := { net := (withNet .operate []).img.net, mode := some { recipes := [{}] } } }, modeTake 1 (leAt (hspPay (request false 7 5 0x21 [0])) 0 1) (hspHold (sess7 false) (request false 7 5 0x21 [0]) (hspTook ({ withNet .operate [sess7 false] with img := { net := (withNet .operate []).img.net, mode := some { recipes := [{}] } } }) 0 (request false 7 5 0x21 [0]) (sess7 false))), 0, (request false 7 5 0x21 [0]), sess7 false, {}, taken (by decide +kernel), by decide +kernel, by decide +kernel, by decide +kernel, by decide +kernel, by decide +kernel, by decide +kernel, rfl, by decide +kernel⟩,
   ⟨{ withNet .operate [sess7 false] with img := { net := (withNet .operate []).img.net, watch := some {} } }, modeTake 2 0 (hspHold (sess7 false) (request false 7 5 0x22 []) (hspTook ({ withNet .operate [sess7 false] with img := { net := (withNet .operate []).img.net, watch := some {} } }) 0 (request false 7 5 0x22 []) (sess7 false))), 0, (request false 7 5 0x22 []), sess7 false, taken (by decide +kernel), by decide +kernel, by decide +kernel, by decide +kernel, by decide +kernel, by decide +kernel, rfl, by decide +kernel⟩,
   ⟨withNet .lockoutFault [sess7 false], 0, (request false 7 5 0x40 []), sess7 false, taken (by decide +kernel), by decide +kernel⟩,
   ⟨{ withNet .operate [sess7 false] with sys := { mode := .operate, resPend := true } }, 0, (request false 7 5 0x22 []), sess7 false, taken (by decide +kernel), by decide +kernel⟩,
   ⟨withNet .operate [sess7 false], 0, (request false 7 5 0x30 []), sess7 false, taken (by decide +kernel), by decide +kernel⟩,
   ⟨withNet .operate [sess7 false], 0, (request false 7 5 0x31 [3, 0, 0, 0, 1, 0]), sess7 false, 3, 1, 0, taken (by decide +kernel), by decide +kernel⟩,
   ⟨withNet .operate [sess7 false], 0, (request false 7 5 0x32 [0xFF, 3, 1, 0]), sess7 false, taken (by decide +kernel), by decide +kernel⟩,
   ⟨withNet .operate [sess7 false], 0, (request false 7 5 0x33 (0xE0 :: 3 :: List.replicate 34 0)), sess7 false, 31, taken (by decide +kernel), by decide +kernel⟩⟩

set_option maxRecDepth 100000 in
/-- Witness: the premises of each clause of Obligations.HspMaintenance are met. -/
theorem witness_HspMaintenance :
    (∃ (s : State) (p : Fin 2) (d : List Byte) (x : Session) (c : Instr), HspTaken s p d x ∧ x.wait = none ∧ MaintOpen s x ∧ s.flash.run = none ∧ s.flash.barred = false ∧ ((c = .flashSel p d ∧ hspOp d = 0x41 ∧ (hspPay d).length = 1 ∧ leAt (hspPay d) 0 1 ≤ 1) ∨ (c = .flashErase p d ∧ hspOp d = 0x42 ∧ (hspPay d).length = 5 ∧ leAt (hspPay d) 4 1 ≤ 1) ∨ (c = .flashProg p d ∧ hspOp d = 0x43 ∧ (hspPay d).length = 260 ∧ leAt (hspPay d) 0 4 % 256 = 0) ∨ (c = .flashRead p d ∧ hspOp d = 0x44 ∧ (hspPay d).length = 6 ∧ 1 ≤ leAt (hspPay d) 4 2 ∧ leAt (hspPay d) 4 2 ≤ 1024))) ∧
    (∃ (s : State) (p : Fin 2) (d : List Byte) (x : Session) (c : Instr), HspTaken s p d x ∧ x.wait = none ∧ MaintOpen s x ∧ s.flash.run = none ∧ s.flash.barred = false ∧ ((c = .flashSel p d ∧ hspOp d = 0x41 ∧ (hspPay d).length = 1 ∧ leAt (hspPay d) 0 1 ≤ 1) ∨ (c = .flashErase p d ∧ hspOp d = 0x42 ∧ (hspPay d).length = 5 ∧ leAt (hspPay d) 4 1 ≤ 1) ∨ (c = .flashProg p d ∧ hspOp d = 0x43 ∧ (hspPay d).length = 260 ∧ leAt (hspPay d) 0 4 % 256 = 0) ∨ (c = .flashRead p d ∧ hspOp d = 0x44 ∧ (hspPay d).length = 6 ∧ 1 ≤ leAt (hspPay d) 4 2 ∧ leAt (hspPay d) 4 2 ≤ 1024))) ∧
    (∃ (s : State) (p : Fin 2) (d : List Byte) (x : Session) (c : Instr), HspTaken s p d x ∧ x.wait = none ∧ MaintOpen s x ∧ s.flash.run = none ∧ s.flash.barred = false ∧ ((c = .flashSel p d ∧ hspOp d = 0x41 ∧ (hspPay d).length = 1 ∧ leAt (hspPay d) 0 1 ≤ 1) ∨ (c = .flashErase p d ∧ hspOp d = 0x42 ∧ (hspPay d).length = 5 ∧ leAt (hspPay d) 4 1 ≤ 1) ∨ (c = .flashProg p d ∧ hspOp d = 0x43 ∧ (hspPay d).length = 260 ∧ leAt (hspPay d) 0 4 % 256 = 0) ∨ (c = .flashRead p d ∧ hspOp d = 0x44 ∧ (hspPay d).length = 6 ∧ 1 ≤ leAt (hspPay d) 4 2 ∧ leAt (hspPay d) 4 2 ≤ 1024))) ∧
    (∃ (s : State) (p : Fin 2) (d : List Byte) (x : Session) (c : Instr), HspTaken s p d x ∧ x.wait = none ∧ MaintOpen s x ∧ s.flash.run = none ∧ s.flash.barred = false ∧ ((c = .flashSel p d ∧ hspOp d = 0x41 ∧ (hspPay d).length = 1 ∧ leAt (hspPay d) 0 1 ≤ 1) ∨ (c = .flashErase p d ∧ hspOp d = 0x42 ∧ (hspPay d).length = 5 ∧ leAt (hspPay d) 4 1 ≤ 1) ∨ (c = .flashProg p d ∧ hspOp d = 0x43 ∧ (hspPay d).length = 260 ∧ leAt (hspPay d) 0 4 % 256 = 0) ∨ (c = .flashRead p d ∧ hspOp d = 0x44 ∧ (hspPay d).length = 6 ∧ 1 ≤ leAt (hspPay d) 4 2 ∧ leAt (hspPay d) 4 2 ≤ 1024))) ∧
    (∃ (s : State) (p : Fin 2) (d : List Byte) (x : Session) (c : Instr), HspTaken s p d x ∧ x.wait = none ∧ MaintOpen s x ∧ s.flash.barred = true ∧ hspOp d ∈ [0x41, 0x42, 0x43, 0x44] ∧ hspRow p d = some c) ∧
    (∃ (s : State) (p : Fin 2) (d : List Byte) (x : Session) (c : Instr), HspTaken s p d x ∧ x.wait = none ∧ MaintOpen s x ∧ s.flash.run.isSome = true ∧ s.flash.barred = false ∧ ((c = .flashSel p d ∧ hspOp d = 0x41 ∧ (hspPay d).length = 1 ∧ leAt (hspPay d) 0 1 ≤ 1) ∨ (c = .flashRead p d ∧ hspOp d = 0x44 ∧ (hspPay d).length = 6 ∧ 1 ≤ leAt (hspPay d) 4 2 ∧ leAt (hspPay d) 4 2 ≤ 1024))) ∧
    (∃ (s : State) (r : FlashCmd) (x : Session), s.flash.run = some r ∧ sessOf s r.sid = some x ∧ s.net.eth[x.port].link = true) ∧
    (∃ (s : State) (r : FlashCmd) (x : Session), s.flash.run = some r ∧ sessOf s r.sid = some x ∧ s.net.eth[x.port].link = true ∧ s.flash.found = true ∧ (r.op = 0x42 ∨ r.op = 0x43)) ∧
    (∃ (s : State) (b : List Byte) (r : FlashCmd) (x : Session), s.flash.run = some r ∧ sessOf s r.sid = some x ∧ s.net.eth[x.port].link = true ∧ s.flash.found = true ∧ r.op = 0x44 ∧ r.count ≤ b.length) ∧
    (∃ (s : State) (f : FlashId) (r : FlashCmd) (x : Session), s.flash.run = some r ∧ sessOf s r.sid = some x ∧ r.op = 0x41 ∧ s.net.eth[x.port].link = true ∧ discoveryFail { f with qe := true } = none) ∧
    (∃ (s : State) (p : Fin 2) (d : List Byte) (x : Session), HspTaken s p d x ∧ x.wait = none ∧ MaintOpen s x ∧ hspOp d = 0x45 ∧ (hspPay d).length = 33 ∧ leAt (hspPay d) 0 1 ≤ 5 ∧ MemWf s) ∧
    (∃ (s : State) (p : Fin 2) (d : List Byte) (k : List Byte) (x : Session) (n : Fin 4), HspTaken s p d x ∧ x.wait = none ∧ MaintOpen s x ∧ hspOp d = 0x46 ∧ (hspPay d).length = 2 ∧ leAt (hspPay d) 0 1 = n.val ∧ leAt (hspPay d) 1 1 = 0 ∧ keyEntry s n.val = some k) ∧
    (∃ (s : State) (p : Fin 2) (d : List Byte) (x : Session) (n : Fin 4), HspTaken s p d x ∧ x.wait = none ∧ MaintOpen s x ∧ hspOp d = 0x46 ∧ (hspPay d).length = 2 ∧ leAt (hspPay d) 0 1 = n.val ∧ leAt (hspPay d) 1 1 = 1) ∧
    (∃ (s : State) (p : Fin 2) (d : List Byte) (x : Session), HspTaken s p d x ∧ x.wait = none ∧ MaintOpen s x ∧ hspOp d = 0x47 ∧ hspPay d = []) ∧
    (∃ (s : State) (p : Fin 2) (d : List Byte) (x : Session), HspTaken s p d x ∧ x.wait = none ∧ MaintOpen s x ∧ hspOp d = 0x48 ∧ (hspPay d).length = 1 ∧ leAt (hspPay d) 0 1 ≤ 7 ∧ MemWf s) ∧
    (∃ (s : State) (p : Fin 2) (d : List Byte) (x : Session), HspTaken s p d x ∧ x.wait = none ∧ x.ns = false ∧ s.sys.mode = .lockoutMaint ∧ hspOp d = 0x4F ∧ hspPay d = []) :=
  ⟨⟨withNet .lockoutMaint [sess7 false], 0, (request false 7 5 0x41 [1]), sess7 false, .flashSel 0 (request false 7 5 0x41 [1]), taken (by decide +kernel), by decide +kernel, by unfold MaintOpen; decide +kernel, by decide +kernel, by decide +kernel, Or.inl ⟨rfl, by decide +kernel⟩⟩,
   ⟨withNet .lockoutMaint [sess7 false], 0, (request false 7 5 0x42 [0, 0, 0, 0, 1]), sess7 false, .flashErase 0 (request false 7 5 0x42 [0, 0, 0, 0, 1]), taken (by decide +kernel), by decide +kernel, by unfold MaintOpen; decide +kernel, by decide +kernel, by decide +kernel, Or.inr (Or.inl ⟨rfl, by decide +kernel⟩)⟩,
   ⟨withNet .lockoutMaint [sess7 false], 0, (request false 7 5 0x43 (List.replicate 260 0)), sess7 false, .flashProg 0 (request false 7 5 0x43 (List.replicate 260 0)), taken (by decide +kernel), by decide +kernel, by unfold MaintOpen; decide +kernel, by decide +kernel, by decide +kernel, Or.inr (Or.inr (Or.inl ⟨rfl, by decide +kernel⟩))⟩,
   ⟨withNet .lockoutMaint [sess7 false], 0, (request false 7 5 0x44 [0, 0, 0, 0, 0, 4]), sess7 false, .flashRead 0 (request false 7 5 0x44 [0, 0, 0, 0, 0, 4]), taken (by decide +kernel), by decide +kernel, by unfold MaintOpen; decide +kernel, by decide +kernel, by decide +kernel, Or.inr (Or.inr (Or.inr ⟨rfl, by decide +kernel⟩))⟩,
   ⟨{ withNet .lockoutMaint [sess7 false] with flash := { barred := true } }, 0, (request false 7 5 0x44 [0, 0, 0, 0, 0, 4]), sess7 false, _, taken (by decide +kernel), by decide +kernel, by unfold MaintOpen; decide +kernel, by decide +kernel, by decide +kernel, rfl⟩,
   ⟨{ withNet .lockoutMaint [sess7 false] with flash := { found := true, run := some { sid := 7, op := 0x42, rtag := 1, count := 1 } } }, 0, (request false 7 5 0x41 [1]), sess7 false, .flashSel 0 (request false 7 5 0x41 [1]), taken (by decide +kernel), by decide +kernel, by unfold MaintOpen; decide +kernel, by decide +kernel, by decide +kernel, Or.inl ⟨rfl, by decide +kernel⟩⟩,
   ⟨{ withNet .lockoutMaint [sess7 false] with flash := { found := true, run := some { sid := 7, op := 0x42, rtag := 1, count := 1 } } }, { sid := 7, op := 0x42, rtag := 1, count := 1 }, sess7 false, by decide +kernel⟩,
   ⟨{ withNet .lockoutMaint [sess7 false] with flash := { found := true, run := some { sid := 7, op := 0x43, rtag := 1, count := 1 } } }, { sid := 7, op := 0x43, rtag := 1, count := 1 }, sess7 false, by decide +kernel⟩,
   ⟨{ withNet .lockoutMaint [sess7 false] with flash := { found := true, run := some { sid := 7, op := 0x44, rtag := 1, count := 1 } } }, [5], { sid := 7, op := 0x44, rtag := 1, count := 1 }, sess7 false, by decide +kernel⟩,
   ⟨{ withNet .lockoutMaint [sess7 false] with flash := { found := true, run := some { sid := 7, op := 0x41, rtag := 1, count := 1 } } }, { id := 0x204017, sfdp := true, dw1 := 0x400000, dw2 := 0x07FFFFFF, dw15 := some 0, qe := false }, { sid := 7, op := 0x41, rtag := 1, count := 1 }, sess7 false, by decide +kernel⟩,
   ⟨withNet .lockoutMaint [sess7 false], 0, (request false 7 5 0x45 (5 :: List.replicate 32 7)), sess7 false, taken (by decide +kernel), by decide +kernel, by unfold MaintOpen; decide +kernel, by decide +kernel, by decide +kernel, by decide +kernel, by unfold MemWf; decide +kernel⟩,
   ⟨{ withNet .lockoutMaint [sess7 false] with mem := keyMem key0 }, 0, (request false 7 5 0x46 [0, 0]), key0, sess7 false, 0, taken (by decide +kernel), by decide +kernel, by unfold MaintOpen; decide +kernel, by decide +kernel⟩,
   ⟨withNet .lockoutMaint [sess7 false], 0, (request false 7 5 0x46 [3, 1]), sess7 false, 3, taken (by decide +kernel), by decide +kernel, by unfold MaintOpen; decide +kernel, by decide +kernel⟩,
   ⟨withNet .lockoutMaint [sess7 false], 0, (request false 7 5 0x47 []), sess7 false, taken (by decide +kernel), by decide +kernel, by unfold MaintOpen; decide +kernel, by decide +kernel⟩,
   ⟨withNet .lockoutMaint [sess7 false], 0, (request false 7 5 0x48 [7]), sess7 false, taken (by decide +kernel), by decide +kernel, by unfold MaintOpen; decide +kernel, by decide +kernel, by decide +kernel, by decide +kernel, by unfold MemWf; decide +kernel⟩,
   ⟨withNet .lockoutMaint [sess7 false], 0, (request false 7 5 0x4F []), sess7 false, taken (by decide +kernel), by decide +kernel⟩⟩

/-- Witness: the premises of each clause of Obligations.ModbusServer are met. -/
theorem witness_ModbusServer :
    (∃ (s : State) (conn : Nat) (p : Fin 2), modbusOn s p = true ∧ ethUp s p = true ∧ (∀ x ∈ s.net.mb, x.1 ≠ conn)) ∧
    (∃ (s : State) (conn : Nat) (a : BitVec 16) (n : BitVec 16), mbOpen s conn = true ∧ 0 < n.toNat ∧ n.toNat ≤ 125 ∧ a.toNat + n.toNat ≤ 64) ∧
    (∃ (s : State) (conn : Nat), mbOpen s conn = true) ∧
    (∃ (s : State) (conn : Nat) (a : BitVec 16) (n : BitVec 16), mbOpen s conn = true ∧ 0 < n.toNat ∧ n.toNat ≤ 125 ∧ (56 < a.toNat + n.toNat ∨ (a.toNat ≤ 6 ∧ 6 < a.toNat + n.toNat ∧ blockWritable s .NS 14 = false))) ∧
    (∃ (s : State) (conn : Nat) (n : BitVec 16), mbOpen s conn = true ∧ (n = 0 ∨ 125 < n.toNat)) ∧
    (∃ (s : State) (conn : Nat) (r : BitVec 16), mbOpen s conn = true ∧ r.toNat < 64) ∧
    (∃ (s : State) (conn : Nat), mbOpen s conn = true) ∧
    (∃ (s : State) (conn : Nat) (k : Fin 32), mbOpen s conn = true ∧ hostWord s (32 + k.val) = true) ∧
    (∃ (s : State) (conn : Nat) (n : BitVec 16), mbOpen s conn = true ∧ (n = 0 ∨ 123 < n.toNat)) ∧
    (∃ (s : State) (conn : Nat) (fn : Byte), mbOpen s conn = true ∧ fn ≠ 3 ∧ fn ≠ 4 ∧ fn ≠ 6 ∧ fn ≠ 16) :=
  ⟨⟨withNet .operate [], 1, 0, by decide +kernel⟩,
   ⟨{ withNet .operate [] with net := { eth := #v[{ link := true }, {}], mb := [(1, 0)] } }, 1, 0, 64, by decide +kernel⟩,
   ⟨{ withNet .operate [] with net := { eth := #v[{ link := true }, {}], mb := [(1, 0)] } }, 1, by decide +kernel⟩,
   ⟨{ withNet .operate [] with net := { eth := #v[{ link := true }, {}], mb := [(1, 0)] } }, 1, 6, 1, by decide +kernel⟩,
   ⟨{ withNet .operate [] with net := { eth := #v[{ link := true }, {}], mb := [(1, 0)] } }, 1, 126, by decide +kernel⟩,
   ⟨{ withNet .operate [] with net := { eth := #v[{ link := true }, {}], mb := [(1, 0)] } }, 1, 63, by decide +kernel⟩,
   ⟨{ withNet .operate [] with net := { eth := #v[{ link := true }, {}], mb := [(1, 0)] } }, 1, by decide +kernel⟩,
   ⟨{ withNet .operate [] with net := { eth := #v[{ link := true }, {}], mb := [(1, 0)] } }, 1, 31, by decide +kernel⟩,
   ⟨{ withNet .operate [] with net := { eth := #v[{ link := true }, {}], mb := [(1, 0)] } }, 1, 124, by decide +kernel⟩,
   ⟨{ withNet .operate [] with net := { eth := #v[{ link := true }, {}], mb := [(1, 0)] } }, 1, 5, by decide +kernel⟩⟩

/-- Witness: the premises of each clause of Obligations.CanFrames are met. -/
theorem witness_CanFrames :
    (∃ (s : State) (n : Fin 2) (c : NetCfg), canCfg s = some c ∧ canOn s n c = true) ∧
    (∃ (s : State) (n : Fin 2) (c : NetCfg), (canCfg s = none ∨ (canCfg s = some c ∧ canOn s n c = false))) ∧
    (∃ (s : State) (n : Fin 2) (c : NetCfg) (d : Vector Byte 8), canCfg s = some c ∧ canOn s n c = true ∧ c.joyId.isSome = true ∧ c.joyWord ≤ 61 ∧ s.can.ctl[n].joySeen ≠ some d[6].toNat ∧ s.can.joyLast ≠ some d[6].toNat) ∧
    (∃ (s : State) (n : Fin 2) (c : NetCfg) (d : Vector Byte 8), canCfg s = some c ∧ canOn s n c = true ∧ c.joyId.isSome = true ∧ (s.can.ctl[n].joySeen = some d[6].toNat ∨ s.can.joyLast = some d[6].toNat)) ∧
    (∃ (s : State) (c : NetCfg), canCfg s = some c ∧ c.joyId.isSome = true ∧ c.joyWord ≤ 61) ∧
    (∃ (s : State) (n : Fin 2) (i : Fin 32) (c : NetCfg) (d : Vector Byte 8), canCfg s = some c ∧ canOn s n c = true ∧ i.val < c.tankN ∧ c.tankWord + c.tankN ≤ 64 ∧ s.can.ctl[n].tankSeen[i] ≠ some d[5].toNat ∧ s.can.tankLast[i] ≠ some d[5].toNat) ∧
    (∃ (s : State) (i : Fin 32) (c : NetCfg), canCfg s = some c ∧ i.val < c.tankN ∧ c.tankWord + c.tankN ≤ 64) ∧
    (∃ (s : State) (n : Fin 2) (c : NetCfg), canCfg s = some c ∧ canOn s n c = true) ∧
    (∃ (s : State) (n : Fin 2), s.can.ctl[n].busOff = true) ∧
    (∃ (s : State) (n : Fin 2), s.can.ctl[n].busOff = false) :=
  ⟨⟨withNet .operate [], 1, { ethEn := 1, mbEn := 1, canEn := 3, ip := #v[0x0A000001, 0], hostWords := 0xFFFFFFFF, joyId := some 5, tankN := 2, tankWord := 40 }, by decide +kernel⟩,
   ⟨State.reset, 0, {}, by decide +kernel⟩,
   ⟨withNet .operate [], 1, { ethEn := 1, mbEn := 1, canEn := 3, ip := #v[0x0A000001, 0], hostWords := 0xFFFFFFFF, joyId := some 5, tankN := 2, tankWord := 40 }, .replicate 8 0, by decide +kernel⟩,
   ⟨{ withNet .operate [] with can := { joyLast := some 0 } }, 1, { ethEn := 1, mbEn := 1, canEn := 3, ip := #v[0x0A000001, 0], hostWords := 0xFFFFFFFF, joyId := some 5, tankN := 2, tankWord := 40 }, .replicate 8 0, by decide +kernel⟩,
   ⟨withNet .operate [], { ethEn := 1, mbEn := 1, canEn := 3, ip := #v[0x0A000001, 0], hostWords := 0xFFFFFFFF, joyId := some 5, tankN := 2, tankWord := 40 }, by decide +kernel⟩,
   ⟨withNet .operate [], 1, 1, { ethEn := 1, mbEn := 1, canEn := 3, ip := #v[0x0A000001, 0], hostWords := 0xFFFFFFFF, joyId := some 5, tankN := 2, tankWord := 40 }, .replicate 8 0, by decide +kernel⟩,
   ⟨withNet .operate [], 1, { ethEn := 1, mbEn := 1, canEn := 3, ip := #v[0x0A000001, 0], hostWords := 0xFFFFFFFF, joyId := some 5, tankN := 2, tankWord := 40 }, by decide +kernel⟩,
   ⟨withNet .operate [], 1, { ethEn := 1, mbEn := 1, canEn := 3, ip := #v[0x0A000001, 0], hostWords := 0xFFFFFFFF, joyId := some 5, tankN := 2, tankWord := 40 }, by decide +kernel⟩,
   ⟨{ can := { ctl := .replicate 2 { busOff := true } } }, 0, by decide +kernel⟩,
   ⟨State.reset, 0, by decide +kernel⟩⟩

/-- Witness: the premises of each clause of Obligations.ClocksAndSupplies are met. -/
theorem witness_ClocksAndSupplies :
    (∃ (s : State), s.clk.fail = false ∧ vcoreOn s = true ∧ s.pmu.released = true ∧ s.save.active = false ∧ FaultEnters s) ∧
    (∃ (s : State), s.clk.fail = true) ∧
    (∃ (s : State), (clkNow s).aonSrc ≠ 2) ∧
    (∃ (s : State), s.clk.aonFb = false) ∧
    (∃ (s : State), (clkNow s).aonSrc = 2) ∧
    (∃ (s : State), maintNet s = true) ∧
    (∃ (s : State), maintNet s = false) ∧
    (∃ (s : State), s.pmu.rails = .off) ∧
    (∃ (s : State), s.pmu.rails ≠ .off) ∧
    (∃ (s : State), s.pmu.rails = .rising) ∧
    (∃ (s : State) (r : Fin 4), s.pmu.released = false ∧ (s.pmu.rails = .rising ∨ s.pmu.rails = .up) ∧ r.val < s.pmu.started) ∧
    (∃ (s : State), s.pmu.rails = .retry) ∧
    (∃ (s : State), s.pmu.rails = .held) ∧
    (∃ (s : State) (r : Fin 4), s.pmu.released = true ∧ s.pmu.rails = .up ∧ s.pmu.pg.getLsbD r = true) ∧
    (∃ (s : State) (v : BitVec 16), s.pmu.cfg.vinOv < v.toNat ∧ s.pmu.released = true ∧ FaultEnters s) ∧
    (∃ (s : State) (x : Vector (Option (BitVec 24)) 8) (i : Fin 8) (v : BitVec 24), s.pmu.rails = .up ∧ s.pmu.released = true ∧ vcoreOn s = true ∧ i.val < 6 ∧ x[i] = some v ∧ 38400 < v.toInt) ∧
    (∃ (s : State) (x : Vector (Option (BitVec 24)) 8) (i : Fin 8) (v : BitVec 24), s.pmu.rails = .up ∧ s.pmu.released = true ∧ vcoreOn s = true ∧ FaultEnters s ∧ x[i] = some v ∧ 34560 < v.toInt ∧ 2 ≤ s.pmu.hotCnt[i] ∧ (∀ (j : Fin 8) (w : BitVec 24), j.val < 6 → x[j] = some w → w.toInt ≤ 38400) ∧ (∀ (j : Fin 8) (w : Int), s.pmu.temp[j] = some w → w ≤ 38400)) ∧
    (∃ (s : State) (x : Vector (Option (BitVec 24)) 8), s.pmu.rails = .up ∧ s.pmu.released = true ∧ vcoreOn s = true ∧ (∀ i : Fin 8, ∃ v, x[i] = some v ∧ v.toInt < 30720)) :=
  ⟨⟨{ sys := { mode := .operate }, pmu := { released := true } }, by decide +kernel, by decide +kernel, by decide +kernel, by decide +kernel, by unfold FaultEnters; decide +kernel⟩,
   ⟨{ clk := { fail := true } }, by decide +kernel⟩,
   ⟨State.reset, by decide +kernel⟩,
   ⟨{ clk := { aonFb := false } }, by decide +kernel⟩,
   ⟨{ boot := { loaded := true }, clk := { cfg := { aonSrc := 2 } } }, by decide +kernel⟩,
   ⟨atMode .lockoutMaint, by decide +kernel⟩,
   ⟨State.reset, by decide +kernel⟩,
   ⟨{ pmu := { rails := .off } }, by decide +kernel⟩,
   ⟨State.reset, by decide +kernel⟩,
   ⟨{ pmu := { rails := .rising } }, by decide +kernel⟩,
   ⟨{ pmu := { rails := .rising, started := 1 } }, 0, by decide +kernel⟩,
   ⟨{ pmu := { rails := .retry } }, by decide +kernel⟩,
   ⟨{ pmu := { rails := .held } }, by decide +kernel⟩,
   ⟨{ pmu := { released := true } }, 3, by decide +kernel⟩,
   ⟨{ sys := { mode := .operate }, pmu := { released := true } }, 3601, by decide +kernel, by decide +kernel, by unfold FaultEnters; decide +kernel⟩,
   ⟨{ sys := { mode := .operate }, pmu := { released := true } }, .replicate 8 (some 38401), 5, 38401, by decide +kernel⟩,
   ⟨{ sys := { mode := .operate }, pmu := { released := true, hotCnt := .replicate 8 2 } }, .replicate 8 (some 34561), 7, 34561, by decide +kernel, by decide +kernel, by decide +kernel, by unfold FaultEnters; decide +kernel, by decide +kernel, by decide +kernel, by decide +kernel, (fun j w _ h => by simp at h; subst h; decide), (fun j w h => by simp at h)⟩,
   ⟨{ sys := { mode := .operate }, pmu := { released := true } }, .replicate 8 (some 30719), by decide +kernel, by decide +kernel, by decide +kernel, (fun i => ⟨30719, by simp, by decide⟩)⟩⟩

/-- Witness: the premises of each clause of Obligations.SagConfirmed are met. -/
theorem witness_SagConfirmed :
    (∃ (s : State), s.save.resuming = false) ∧
    (∃ (s : State), s.sys.mode = .operate ∧ s.save.ready = false ∧ s.save.active = false ∧ s.save.coreOff = false) ∧
    (∃ (s : State), s.sys.mode.isLockout = true ∧ s.save.ready = false ∧ s.save.active = false ∧ s.save.coreOff = false) ∧
    (∃ (s : State), (s.save.ready = true ∨ s.save.active = true ∨ s.save.coreOff = true)) ∧
    (∃ (s : State), s.pmu.released = true ∧ s.pmu.rails = .up ∧ s.save.active = false ∧ s.save.coreOff = false ∧ (s.sys.mode = .operate ∨ s.sys.mode.isLockout = true) ∧ s.save.ready = true) ∧
    (∃ (s : State), s.pmu.released = true ∧ s.pmu.rails = .up ∧ s.save.active = false ∧ s.save.coreOff = false ∧ MemWf s ∧ s.pmu.railPend = none ∧ (∀ p : Fin 2, s.chest.port[p].pend = false) ∧ Settled s ∧ (∀ i : Fin 256, s.chn.slots[i].st ≠ .running ∧ s.chn.slots[i].st ≠ .draining) ∧ (((s.sys.mode = .operate ∨ s.sys.mode.isLockout = true) ∧ s.save.ready = false) ∨ s.sys.mode.isBoot = true)) ∧
    (∃ (s : State), (s.pmu.released = false ∨ s.pmu.rails ≠ .up ∨ s.save.active = true)) :=
  ⟨⟨State.reset, by decide +kernel⟩,
   ⟨atMode .operate, by decide +kernel⟩,
   ⟨atMode .lockoutFault, by decide +kernel⟩,
   ⟨{ save := { coreOff := true } }, by decide +kernel⟩,
   ⟨{ sys := { mode := .operate }, pmu := { released := true }, save := { ready := true } }, by decide +kernel⟩,
   ⟨{ sys := { mode := .operate }, pmu := { released := true } }, by decide +kernel, by decide +kernel, by decide +kernel, by decide +kernel, by unfold MemWf; decide +kernel, by decide +kernel, by decide +kernel, by unfold Settled; decide +kernel, by decide +kernel⟩,
   ⟨State.reset, by decide +kernel⟩⟩

set_option maxRecDepth 100000 in
/-- Witness: the premises of each clause of Obligations.SaveAndResume are met. -/
theorem witness_SaveAndResume :
    (∃ (s : State), s.save.step = .confirmed ∧ tagNext s = none ∧ (∀ l : Fin 4, s.le.lanes[l].work = [])) ∧
    (∃ (s : State) (p : Fin 2), s.save.step = .confirmed ∧ tagNext s = some p) ∧
    (∃ (s : State), s.save.step ≠ .confirmed) ∧
    (∃ (s : State), s.save.step = .captured ∧ s.save.record.length = 0x700 ∧ MemWf s ∧ newestSlot s = none) ∧
    (∃ (s : State) (b : Bool), s.save.step = .captured ∧ s.save.record.length = 0x700 ∧ MemWf s ∧ newestSlot s = some b) ∧
    (∃ (s : State), s.save.step = .written ∧ s.pmu.railPend = none ∧ (∀ i : Fin 256, s.chn.slots[i].st ≠ .draining) ∧ Settled s) ∧
    (∃ (s : State), s.save.step ≠ .written) ∧
    (∃ (s : State), (s.save.active = true ∨ s.save.coreOff = true) ∧ MemWf s) ∧
    (∃ (s : State), s.save.active = false ∧ s.save.coreOff = false) ∧
    (∃ (s : State), s.save.coreOff = true ∧ s.boot.halted = false ∧ wakeRuns s = false ∧ s.save.resuming = false ∧ s.sys.mode ≠ .lockoutMaint) ∧
    (∃ (s : State), s.save.coreOff = true ∧ s.boot.halted = false ∧ wakeRuns s = false ∧ s.save.resuming = false ∧ s.sys.mode = .lockoutMaint) ∧
    (∃ (s : State), s.save.resuming = true ∧ s.save.ready = false) ∧
    (∃ (s : State), s.fab.dom[0] = .on ∧ s.fab.dom[1] = .on ∧ TagReady s 0) :=
  ⟨⟨{ save := { step := .confirmed } }, by decide +kernel⟩,
   ⟨{ save := { step := .confirmed }, chest := { port := .replicate 2 { pend := true } } }, 0, by decide +kernel⟩,
   ⟨State.reset, by decide +kernel⟩,
   ⟨{ save := { step := .captured, record := List.replicate 1792 0 } }, by decide +kernel, by decide +kernel, by unfold MemWf; decide +kernel, by decide +kernel⟩,
   ⟨{ save := { step := .captured, record := List.replicate 1792 0 }, mem := slotBMem }, true, by decide +kernel, by decide +kernel, slotB_wf _ rfl, slotB_newest _ rfl⟩,
   ⟨{ save := { step := .written } }, by unfold Settled; decide +kernel⟩,
   ⟨State.reset, by decide +kernel⟩,
   ⟨{ save := { coreOff := true } }, by decide +kernel, by unfold MemWf; decide +kernel⟩,
   ⟨State.reset, by decide +kernel⟩,
   ⟨{ save := { coreOff := true } }, by decide +kernel⟩,
   ⟨{ save := { coreOff := true }, sys := { mode := .lockoutMaint } }, by decide +kernel⟩,
   ⟨{ save := { resuming := true } }, by decide +kernel⟩,
   ⟨State.reset, by unfold TagReady; decide +kernel⟩⟩

/-- Witness: the premises of each clause of Obligations.WatchEntry are met. -/
theorem witness_WatchEntry :
    (∃ (s : State), s.sys.resPend = false ∧ s.sys.mode ≠ .operate) ∧
    (∃ (s : State), s.sys.resPend = false ∧ s.sys.mode = .operate ∧ s.sys.switching = false ∧ s.img.watch = none) ∧
    (∃ (s : State), s.sys.resPend = false ∧ watchRefusal s = none ∧ s.trst.adopted = true ∧ s.trst.sleep = false) ∧
    (∃ (s : State), s.aon.step = .tokens) ∧
    (∃ (s : State), s.aon.step ≠ .tokens) ∧
    (∃ (s : State), s.sys.mode = .operate ∧ s.aon.step = .closing ∧ Settled s) ∧
    (∃ (s : State), (s.sys.mode ≠ .operate ∨ s.aon.step = .none ∨ s.aon.step = .deck)) ∧
    (∃ (s : State), s.fab.dom[0] = .on ∧ s.fab.dom[1] = .on ∧ TagReady s 0) :=
  ⟨⟨State.reset, by decide +kernel⟩,
   ⟨atMode .operate, by decide +kernel⟩,
   ⟨{ sys := { mode := .operate }, img := { watch := some {} }, trst := { adopted := true } }, by decide +kernel⟩,
   ⟨{ aon := { step := .tokens } }, by decide +kernel⟩,
   ⟨State.reset, by decide +kernel⟩,
   ⟨{ sys := { mode := .operate }, aon := { step := .closing } }, by unfold Settled; decide +kernel⟩,
   ⟨State.reset, by decide +kernel⟩,
   ⟨State.reset, by unfold TagReady; decide +kernel⟩⟩

set_option maxRecDepth 100000 in
/-- Witness: the premises of each clause of Obligations.WakeAndReady are met. -/
theorem witness_WakeAndReady :
    (∃ (s : State) (n : Fin 4), s.aon.step = .window ∧ wakeCfg s n = 3 ∧ s.aon.wake.getLsbD n = false) ∧
    (∃ (s : State) (n : Fin 4) (l : Bool), s.sys.mode = .watch ∧ s.aon.step = .asleep ∧ ((wakeCfg s n = 1 ∧ l = true) ∨ (wakeCfg s n = 2 ∧ l = false) ∨ (wakeCfg s n = 3 ∧ l = true ∧ s.aon.wake.getLsbD n = false) ∨ (wakeCfg s n = 4 ∧ l = false ∧ s.aon.wake.getLsbD n = true))) ∧
    (∃ (s : State), s.aon.step = .window ∧ (∀ n : Fin 4, wakeLevel s n = false)) ∧
    (∃ (s : State) (n : Fin 4), s.sys.mode = .watch ∧ s.aon.step = .window ∧ wakeLevel s n = true ∧ (∀ k : Fin 4, k < n → wakeLevel s k = false)) ∧
    (∃ (s : State), s.sys.mode = .watch ∧ s.aon.step = .asleep) ∧
    (∃ (s : State) (w : WatchCfg) (v : Vector (BitVec 16) 16) (i : BitVec 16) (x : Vector (BitVec 24) 6), s.sys.mode = .watch ∧ s.aon.step = .asleep ∧ s.img.watch = some w ∧ (∀ k : Fin 6, x[k].toInt ≤ 34560) ∧ (i ^^^ s.aon.siCommit) &&& w.siWake = 0 ∧ (∀ k : Fin 16, w.wbWake.getLsbD k = true → 9000 ≤ v[k].toNat) ∧ (∀ k : Fin 16, w.aiEn.getLsbD k = true → w.lower[k] ≤ v[k].toNat ∧ v[k].toNat ≤ w.upper[k])) ∧
    (∃ (s : State) (w : WatchCfg) (v : Vector (BitVec 16) 16) (x : Vector (BitVec 24) 6) (k : Fin 16), s.sys.mode = .watch ∧ s.aon.step = .asleep ∧ s.img.watch = some w ∧ (∀ j : Fin 6, x[j].toInt ≤ 34560) ∧ w.aiEn.getLsbD k = true ∧ (s.aon.first = true ∨ s.aon.wout.getLsbD k = false) ∧ (w.upper[k] < v[k].toNat ∨ v[k].toNat < w.lower[k]) ∧ (∀ j : Fin 16, j < k → w.aiEn.getLsbD j = false)) ∧
    (∃ (s : State) (w : WatchCfg) (x : Vector (BitVec 24) 6) (j : Fin 6), s.sys.mode = .watch ∧ s.aon.step = .asleep ∧ s.img.watch = some w ∧ 34560 < x[j].toInt) ∧
    (∃ (s : State), s.aon.step = .waking ∧ drawerOk s.aon.drawer = true) ∧
    (∃ (s : State), s.aon.step = .waking ∧ drawerOk s.aon.drawer = false) ∧
    (∃ (s : State), s.aon.step ≠ .waking) ∧
    (∃ (s : State), s.aon.step = .restored ∧ (s.sys.mode = .watch ∨ s.sys.mode = .operate) ∧ s.saf.causes = [] ∧ s.save.noHoldup = false ∧ (s.trst.adopted = false ∨ deckLinked s = true) ∧ s.sys.change = none ∧ (∀ i : Fin 256, s.chn.slots[i].wasRun = false ∧ s.chn.slots[i].autoPend = false)) ∧
    (∃ (s : State) (c : Code), s.aon.step = .restored ∧ (s.sys.mode = .watch ∨ s.sys.mode = .operate) ∧ s.sys.change = none ∧ (c = 0x0208 ∨ c = 0x0209) ∧ (c = 0x0209 → s.trst.adopted = true ∧ deckLinked s = false)) ∧
    (∃ (s : State), s.aon.step ≠ .restored) ∧
    (∃ (s : State), s.boot.halted = true) ∧
    (∃ (s : State), s.boot.halted = true ∧ s.boot.chargeBack = false ∧ s.boot.loaded = false ∧ s.otp.ok = true) ∧
    (∃ (s : State), s.boot.halted = false) :=
  ⟨⟨{ sys := { mode := .watch }, aon := { step := .window }, img := { watch := some { wakeCfg := .replicate 4 3 } } }, 0, by decide +kernel⟩,
   ⟨{ sys := { mode := .watch }, aon := { step := .asleep }, img := { watch := some { wakeCfg := .replicate 4 1 } } }, 3, true, by decide +kernel⟩,
   ⟨{ sys := { mode := .watch }, aon := { step := .window }, img := { watch := some {} } }, by decide +kernel⟩,
   ⟨{ sys := { mode := .watch }, aon := { step := .window, wake := 3 }, img := { watch := some { wakeCfg := .replicate 4 1 } } }, 0, by decide +kernel⟩,
   ⟨{ sys := { mode := .watch }, aon := { step := .asleep }, img := { watch := some {} } }, by decide +kernel⟩,
   ⟨{ sys := { mode := .watch }, aon := { step := .asleep }, img := { watch := some { aiEn := 1, upper := .replicate 16 100 } } }, { aiEn := 1, upper := .replicate 16 100 }, .replicate 16 100, 0, .replicate 6 34560, by decide +kernel⟩,
   ⟨{ sys := { mode := .watch }, aon := { step := .asleep }, img := { watch := some { aiEn := 1, upper := .replicate 16 100 } } }, { aiEn := 1, upper := .replicate 16 100 }, .replicate 16 101, .replicate 6 0, 0, by decide +kernel⟩,
   ⟨{ sys := { mode := .watch }, aon := { step := .asleep }, img := { watch := some { aiEn := 1, upper := .replicate 16 100 } } }, { aiEn := 1, upper := .replicate 16 100 }, .replicate 6 34561, 5, by decide +kernel⟩,
   ⟨{ aon := { step := .waking, drawer := goodDrawer } }, by decide +kernel, goodDrawer_ok⟩,
   ⟨{ aon := { step := .waking } }, by decide +kernel⟩,
   ⟨State.reset, by decide +kernel⟩,
   ⟨{ sys := { mode := .watch }, aon := { step := .restored }, img := { watch := some {} } }, by decide +kernel⟩,
   ⟨{ sys := { mode := .watch }, aon := { step := .restored }, img := { watch := some {} } }, 0x0208, by decide +kernel⟩,
   ⟨State.reset, by decide +kernel⟩,
   ⟨{ boot := { halted := true } }, by decide +kernel⟩,
   ⟨{ boot := { halted := true } }, by decide +kernel⟩,
   ⟨State.reset, by decide +kernel⟩⟩

/-- Witness: the premises of each clause of Obligations.TagAreaAndLifetime are met. -/
theorem witness_TagAreaAndLifetime :
    (∃ (s : State) (p : Fin 2), s.chest.port[p].pend = true ∧ TagPortWrite s p) ∧
    (∃ (s : State) (p : Fin 2) (b : BitVec 5), s.chest.port[p].pend = false ∧ chestClosed s = false ∧ tagLocked s b.toNat = true ∧ TagPortWrite s p) ∧
    (∃ (s : State) (p : Fin 2) (b : BitVec 5), s.chest.port[p].pend = false ∧ chestClosed s = false ∧ tagLocked s b.toNat = false ∧ TagPortWrite s p) ∧
    (∃ (s : State) (p : Fin 2), s.fab.dom[1] = .on ∧ TagReady s (if p = 0 then 1 else 0)) ∧
    (∃ (s : State) (p : Fin 2), tagNext s = some p ∧ s.chest.port[p].target < 32 ∧ s.chest.port[p].hsp = none ∧ MemWf s) ∧
    (∃ (s : State), s.chest.port[0].pend = false ∧ s.chest.port[1].pend = false) ∧
    (∃ (s : State) (p : Fin 2), MemWf s ∧ TagPortWrite s p) ∧
    (∃ (s : State), vcoreOn s = true ∧ MemWf s) ∧
    (∃ (s : State), vcoreOn s = false) :=
  ⟨⟨{ chest := { port := .replicate 2 { pend := true } } }, 0, by unfold TagPortWrite TagReady; decide +kernel⟩,
   ⟨{ mem := [(0x30002404, 0xFF)] }, 0, 31, by unfold TagPortWrite TagReady; decide +kernel⟩,
   ⟨State.reset, 1, 31, by unfold TagPortWrite TagReady; decide +kernel⟩,
   ⟨State.reset, 1, by unfold TagReady; decide +kernel⟩,
   ⟨{ chest := { port := .replicate 2 { pend := true, target := 31 } } }, 0, by decide +kernel, by decide +kernel, by decide +kernel, by unfold MemWf; decide +kernel⟩,
   ⟨State.reset, by decide +kernel⟩,
   ⟨State.reset, 0, by unfold MemWf TagPortWrite TagReady; decide +kernel⟩,
   ⟨State.reset, by decide +kernel, by unfold MemWf; decide +kernel⟩,
   ⟨{ pmu := { pg := 0 } }, by decide +kernel⟩⟩

/-- Witness: the premises of each clause of Obligations.MemoryStaysCanonical are met. -/
theorem witness_MemoryStaysCanonical :
    ∃ (s : State) (t : State), MemWf s ∧ step s = .next t :=
  ⟨State.reset, idleTick State.reset, by unfold MemWf; decide +kernel, rfl⟩

/-- Witness: the premises of each clause of Obligations.TagBooksKept are met. -/
theorem witness_TagBooksKept :
    ∃ (s : State) (t : State), TagsKept s ∧ step s = .next t :=
  ⟨State.reset, idleTick State.reset, by unfold TagsKept TagBooks; decide +kernel, rfl⟩

/-- Witness: the premises of each clause of Obligations.OtpNeverCleared are met. -/
theorem witness_OtpNeverCleared :
    ∃ (s : State) (t : State), step s = .next t :=
  ⟨State.reset, idleTick State.reset, rfl⟩

theorem legs_apart : ∀ (n : Fin 4) (p : Fin 3), LegApart (withBridge {}).dk.br[n] p := by unfold LegApart; decide +kernel

/-- Witness: the premises of each clause of Obligations.LegInterlockKept are met. -/
theorem witness_LegInterlockKept :
    ∃ (s : State) (t : State), LegInterlock s ∧ step s = .next t :=
  ⟨withBridge {}, idleTick (withBridge {}), fun n => ⟨fun p => Or.inr (legs_apart n p), fun _ h => by simp [withBridge] at h⟩, rfl⟩

/-! ### Obligations.EveryCommandCompletes: a state and operands for which each command is ready -/

/-- Eight fans in use that are commanded above their CHECK_DUTY, each in a state. -/
def fansAt (f : FanState) : State :=
  { sys := { mode := .lockoutFault }, fan := .replicate 8 { st := f }, img := { fan := .replicate 8 { use := true, checkDuty := 200, faultDuty := 200 } } }

/-- ETH0 up with one Modbus connection. -/
def mbNet : State := { withNet .operate [] with net := { eth := #v[{ link := true }, {}], mb := [(1, 0)] } }

set_option maxRecDepth 100000 in
/-- Witness: commands of the deck, modes, boot, fabric and channels are ready. -/
theorem witness_EveryCommandCompletes_DeckToChannels :
    CommandReady { withBridge {} with trst := { adopted := true, linkUp := true, up := .replicate 4 { last := some 3 } } } (.upFrame 0 (upWord 4 1)) ∧
    CommandReady (withBridge {}) (.downFrame 0 (downWord 1 1) none) ∧
    CommandReady { sys := { mode := .bootSelftest, dkpresent := true }, trst := { linkUp := true, recSent := true } } .deckRecordResend ∧
    CommandReady { dk := { got := some ({}, .replicate 4 none) } } .deckRecordAck ∧
    CommandReady (withBridge runBr) (.hbdTimeout 5) ∧
    CommandReady (withBridge runBr) .deckLost ∧
    CommandReady (withBridge runBr) (.frameRateWindow 979) ∧
    CommandReady { withBridge runBr with trst := { adopted := true, sleepSent := true } } .deckSleep ∧
    CommandReady { withBridge runBr with trst := { adopted := true, wakeSent := true, sleep := true } } .deckWake ∧
    CommandReady State.reset .deckPowerUp ∧
    CommandReady (withBridge runBr) .vdkFail ∧
    CommandReady (withBridge runBr) (.carrierLoss 3 5) ∧
    CommandReady (withBridge runBr) .clkDkLoss ∧
    CommandReady { dk := { powered := true } } .clkDkReturn ∧
    CommandReady { sys := { mode := .operate }, img := { watch := some {} }, trst := { adopted := true } } (.enterWatch (.core .S)) ∧
    CommandReady { sys := { mode := .lockoutFault, maintLowAt := some 0 }, now := 100000 } (.enterMaint (.hsp .S)) ∧
    CommandReady State.reset .maintEnHigh ∧
    CommandReady State.reset (.resetRelease 2 true true true true) ∧
    CommandReady { sys := { mode := .bootImage }, boot := { phase := .discovery } } (.flashDiscovery { id := 0x204017, sfdp := true, dw1 := 0x400000, dw2 := 0x07FFFFFF, dw15 := some 0, qe := false }) ∧
    CommandReady headerState (.imageHeaderCheck signedHeader) ∧
    CommandReady { sys := { mode := .bootImage }, boot := { phase := .body, header := List.replicate 8 0 ++ [0, 1, 0, 0] ++ List.replicate 28 0 ++ sha256 [] } } (.bodyRead []) ∧
    CommandReady (atMode .bootSelftest) .selftestDone ∧
    CommandReady State.reset (.saveReadySet 4200) ∧
    CommandReady State.reset (.saveReadyClear 4149) ∧
    CommandReady { sys := { mode := .bootCharge }, save := { ready := true } } (.vsaveFull 0) ∧
    CommandReady { sys := { mode := .bootCharge }, save := { ready := true }, boot := { capCheck := true } } (.capacitanceCheckDone 4500 4000) ∧
    CommandReady (atMode .bootCharge) .chargeTimeout ∧
    CommandReady State.reset (.transactionIssue ⟨.secureCore, .S, .read, 0x10000000, 4, [], none⟩) ∧
    CommandReady State.reset (.registerWrite .appCore .NS (.csr 0x7C0) 3) ∧
    CommandReady State.reset (.registerWrite .secureCore .S (.addr 0x40030000) 3) ∧
    CommandReady { withSlot { st := .running } {} with le := { owners := [(0, { slot := 0, stage := 0 })] } } (.statusWordWrite .S 0 0) ∧
    CommandReady { img := { net := some { hostWords := 0x80000000 } } } (.boardWordWrite .S 63 7) ∧
    CommandReady State.reset (.fabSnapTake .S) ∧
    CommandReady State.reset (.domainPowerDown 3) ∧
    CommandReady { fab := { dom := #v[.on, .on, .on, .quiescing], flight := [{ id := 1, pool := 0, init := 0, world := .S, kind := .read, addr := 0x40110000, size := 4, data := [] }] } } (.quiesceTimeout 3 []) ∧
    CommandReady { fab := { dom := #v[.on, .on, .on, .quiescing] } } (.domainIsolate 3) ∧
    CommandReady { save := { active := true } } .frameTick ∧
    CommandReady (withSlot { st := .running, smp := some {} } {}) (.sampleDeadline 0) := by
  (with_reducible repeat' apply And.intro) <;> unfold CommandReady
  all_goals (try unfold CabFree; try unfold CoreMayWrite; try unfold TagPortWrite; try unfold TagReady; try unfold FanOn; try unfold Settled; try unfold MonitorRuns; try unfold FaultEnters; try unfold MemWf; decide +kernel)

set_option maxRecDepth 100000 in
/-- Witness: and so are these, whose conditions name a slot, a configuration, a session or the like. -/
theorem witness_EveryCommandCompletes_DeckToChannelsNamed :
    CommandReady { ({} : State) with sys := { mode := .operate }, img := { mode := some { recipes := [{}] } } } (.selectRecipe (.core .S) 0) ∧
    CommandReady { sys := { mode := .operate, change := some { rcp := 0, step := 1, asked := true } }, img := { mode := some { recipes := [{}] } } } .recipeCreateChannels ∧
    CommandReady { sys := { mode := .lockoutFault, entry := enFault, lkFrom := .operate }, now := 500000, saf := { pressAt := some 0, causes := [{ code := 0x0204 }] } } (.lkrstPress [] []) ∧
    CommandReady commitState .imageCommit ∧
    CommandReady { fab := { flight := [{ id := 1, pool := 0, init := 0, world := .S, kind := .read, addr := 0x10000000, size := 4, data := [] }] } } (.transactionResponse 1 []) ∧
    CommandReady { fab := { ret := [{ id := 1, pool := 0, init := 0, world := .S, kind := .read, addr := 0x10000000, size := 4, data := [] }] } } (.tagReturn 1) ∧
    CommandReady { withSlot { st := .running } {} with le := { owners := [(0, { slot := 0, stage := 0 })] } } (.lmemCoreWrite .S 0x20000020 4 9) ∧
    CommandReady { atMode .operate with img := { templates := [{}] } } (.create { w := #v[0xFF00, 0, 0, 0, 0, 0, 0] }) ∧
    CommandReady (withSlot { st := .created } {}) (.arm (onSlot0 0)) ∧
    CommandReady (withSlot { st := .armed } {}) (.start (onSlot0 0)) ∧
    CommandReady { withSlot { st := .armed, axis := some 0 } {} with img := { templates := [{}], axes := [{}], lift := some { axis := 0, chopKw := 10 } }, trst := { adopted := true }, saf := { ax := .replicate 4 { st := .released, cfgIdx := some 0, stillCyc := 2 } } } (.liftStart { handle := 0x0100, w := #v[1, 1000, 0x000A000A, 1, 0, 0, 0] }) ∧
    CommandReady (withSlot { st := .running } {}) (.hold (onSlot0 0)) ∧
    CommandReady (withSlot { st := .faulted } {}) (.release (onSlot0 0)) ∧
    CommandReady (withSlot { st := .armed } {}) (.swap (onSlot0 2)) ∧
    CommandReady (withSlot { st := .running, recs := [0] } { stages := [{ type := .inj }] }) (.inject (onSlot0 0)) ∧
    CommandReady (withSlot { st := .running, recs := [0], inj := [(0, {})] } { stages := [{ type := .inj }] }) (.injectStop (onSlot0 0xF0)) ∧
    CommandReady (withSlot { st := .running, recs := [0] } { stages := [{ type := .cap }] }) (.capture { handle := 0x0100, w := #v[0x100000, 0, 0, 16, 0, 0, 0] }) ∧
    CommandReady { withSlot { st := .running, recs := [0] } { stages := [{ type := .cap }] } with cap := .replicate 4 { st := 1 } } (.captureStop { handle := 0x0100, w := #v[0x100F00, 0, 0, 16, 0, 0, 0] }) ∧
    CommandReady (withSlot { st := .created } {}) (.destroy (onSlot0 0)) ∧
    CommandReady (withSlot { st := .running } {}) (.query (onSlot0 0)) ∧
    CommandReady { withSlot { st := .running, smp := some { started := true }, recs := [0] } { stages := [{ type := .imp }] } with le := { lanes := .replicate 4 { work := [0] } } } (.stageEvaluate 0 []) := by
  with_reducible repeat' apply And.intro
  · unfold CommandReady; exact ⟨rfl, rfl, {}, by decide +kernel⟩
  · unfold CommandReady; exact ⟨_, {}, rfl, by decide +kernel⟩
  · unfold CommandReady; exact ⟨rfl, rfl, ⟨0, by decide +kernel⟩, by decide +kernel⟩
  · unfold CommandReady; exact ⟨by decide +kernel, okVal (commitCheck tinyHeader (tinyHeader ++ tinyBody)), okVal_eq (by decide +kernel)⟩
  · unfold CommandReady; exact ⟨_, rfl, by decide +kernel⟩
  · unfold CommandReady; exact ⟨_, rfl, by decide +kernel⟩
  · unfold CommandReady TagReady; exact ⟨by decide +kernel, by decide +kernel, ⟨0, 0x20, by decide +kernel⟩, by decide +kernel⟩
  · unfold CommandReady PortsIdle; exact ⟨by decide +kernel, by decide +kernel, by decide +kernel, by decide +kernel, okVal (createPlan { atMode .operate with img := { templates := [{}] } } .S 0 255 false (some []) []), okVal_eq (by decide +kernel)⟩
  · unfold CommandReady; exact ⟨0, by unfold CallTaken PortsIdle; decide +kernel, by decide +kernel⟩
  · unfold CommandReady; exact ⟨0, by unfold CallTaken PortsIdle; decide +kernel, by decide +kernel, by decide +kernel, by decide +kernel, by decide +kernel, by decide +kernel, withSlot_idle _ _ ⟨rfl, by decide⟩, by unfold Calm; decide +kernel⟩
  · unfold CommandReady; exact ⟨0, { axis := 0, chopKw := 10 }, 0, 10, by unfold CallTaken PortsIdle; decide +kernel, by decide +kernel⟩
  · unfold CommandReady; exact ⟨0, by unfold CallTaken PortsIdle; decide +kernel, by decide +kernel⟩
  · unfold CommandReady; exact ⟨0, by unfold CallTaken PortsIdle; decide +kernel, by decide +kernel⟩
  · unfold CommandReady; exact ⟨0, by unfold CallTaken PortsIdle; decide +kernel, by decide +kernel⟩
  · unfold CommandReady; exact ⟨0, by unfold CallTaken PortsIdle; decide +kernel, by decide +kernel⟩
  · unfold CommandReady; exact ⟨by decide +kernel, 0, by unfold CallTaken PortsIdle; decide +kernel, by decide +kernel⟩
  · unfold CommandReady; exact ⟨0, by unfold CallTaken PortsIdle; decide +kernel, by decide +kernel⟩
  · unfold CommandReady; exact ⟨0, 0, by unfold CallTaken PortsIdle; decide +kernel, by decide +kernel⟩
  · unfold CommandReady; exact ⟨0, by unfold CallTaken PortsIdle; decide +kernel, by decide +kernel⟩
  · unfold CommandReady; exact ⟨by decide +kernel, 0, by unfold CallTaken PortsIdle; decide +kernel⟩
  · unfold CommandReady; exact ⟨0, { started := true }, { type := .imp }, by unfold StageReady MemWf; decide +kernel⟩

set_option maxRecDepth 100000 in
/-- Witness: commands of the power stage, safety, ship power and ring are ready. -/
theorem witness_EveryCommandCompletes_BridgesToRing :
    CommandReady { cap := .replicate 4 { st := 1, rec_ := some default } } (.captureGap 0) ∧
    CommandReady (withBridge { runBr with want := .replicate 3 true }) (.comparatorCrossing 0 0 4000) ∧
    CommandReady (withBridge { runBr with pend := .replicate 3 (some true) }) (.deadTimeElapsed 0 0) ∧
    CommandReady (withBridge { runBr with defer := .replicate 3 (some true) }) (.tminElapsed 0 5) ∧
    CommandReady (withBridge { runBr with winOn := true }) (.bandWindowEnd 0) ∧
    CommandReady { withBridge runBr with dk := { powered := true, clk := true, acked := true, br := .replicate 4 { runBr with ntcCnt := 2 }, cfg := { ntcTrip := .replicate 4 100 } } } (.ntcRead 0 0 9) ∧
    CommandReady (withBridge runBr) (.blankingEnd 0 5 32 9) ∧
    CommandReady (withBridge {}) (.desat 0 1 9) ∧
    CommandReady (withBridge runBr) (.overcurrent 3 0 4095 9) ∧
    CommandReady (withBridge { runBr with ovCnt := 1 }) (.dcLinkSample 0 524289 9) ∧
    CommandReady { withBridge { fault := true } with dk := { trip := .replicate 4 true } } (.bridgeTripReport 0) ∧
    CommandReady { withBridge { ka := true } with saf := { ka := 0xF } } (.stoeRaise 3) ∧
    CommandReady (withBridge { ka := true, stoe := true }) (.gateEnable 0 9) ∧
    CommandReady (withBridge { runBr with sw := #v[{ on := true }, {}, {}, {}, {}, {}] }) (.stoInhibitTest 0 1 false) ∧
    CommandReady (withBridge runBr) (.stoPathTest 0 1) ∧
    CommandReady State.reset (.safetyCycle {}) ∧
    CommandReady { releasing 3 0 with dk := { br := .replicate 4 { testHold := true, gapSeen := true } } } (.carrierGapReport 2) ∧
    CommandReady State.reset (.safeInputAccept 15) ∧
    CommandReady (withAxis { st := .braking } {}) (.brakeApplyElapsed 0) ∧
    CommandReady (withAxis { st := .releasing, relStep := 4 } {}) (.brakeReleaseElapsed 0) ∧
    CommandReady (atMode .operate) (.testPulseStart 3) ∧
    CommandReady { saf := { onPulse := some (.so 0) } } (.onPulseEnd true) ∧
    CommandReady (atMode .operate) .smLockstep ∧
    CommandReady (atMode .operate) (.smRamEcc true) ∧
    CommandReady (atMode .operate) (.smRamScrub 7 false) ∧
    CommandReady (atMode .operate) (.smRomCheck false 0) ∧
    CommandReady { saf := { hist := [default] } } .historyWrite ∧
    CommandReady { img := { spm := some {} } } .spmAllocation ∧
    CommandReady { spm := { crit := true } } .powerCriticalClear ∧
    CommandReady { spm := { loadRed := true, ramp := some (500, 39) } } .loadRedRelease ∧
    CommandReady { img := { spm := some {} } } .prefTrip ∧
    CommandReady (hlNode { droop := true, freshRun := 8 } {}) .droopLeave ∧
    CommandReady (hlNode {} {}) (.hlPortDown 0) ∧
    CommandReady (hlNode {} { node := 1, keeper := 0 }) .hlTokenTimeout := by
  (with_reducible repeat' apply And.intro) <;> unfold CommandReady
  all_goals (try unfold CabFree; try unfold CoreMayWrite; try unfold TagPortWrite; try unfold TagReady; try unfold FanOn; try unfold Settled; try unfold MonitorRuns; try unfold FaultEnters; try unfold MemWf; decide +kernel)

set_option maxRecDepth 100000 in
/-- Witness: and so are these, whose conditions name a slot, a configuration, a session or the like. -/
theorem witness_EveryCommandCompletes_BridgesToRingNamed :
    CommandReady { withSlot { st := .running, smp := some { next := 1 }, recs := [0] } { stages := [{}], sup := { plModel := 0xFF, feRef := 0xFF } } with le := { lanes := .replicate 4 { work := [0] } } } (.sampleComplete 0) ∧
    CommandReady (withAxis { st := .ss1, stillCyc := 2 } {}) (.sbc 0) ∧
    CommandReady { withAxis {} { bkfbIn := some 3 } with saf := { siLvl := 8, ax := .replicate 4 { cfgIdx := some 0 } } } (.brakeFeedback 0) ∧
    CommandReady { withAxis { st := .sto, latch := true, rstHighAt := some 0 } {} with now := 100000 } (.axisReset 0) ∧
    CommandReady (withAxis { st := .sto, latch := true } { swRst := true }) (.safAxcmdReset 0) ∧
    CommandReady (withAxis {} {}) (.encCrosscheck 0) ∧
    CommandReady { saf := { toPulse := some 1, siLvl := 1 }, img := { safeIo := { tpMap := .replicate 16 (some 1) } } } (.testPulseEnd 0) ∧
    CommandReady { atMode .operate with saf := { so := 8 } } (.offPulseStart (.so 3)) ∧
    CommandReady { saf := { offPulse := some (.so 0) } } (.offPulseEnd true) ∧
    CommandReady { atMode .operate with img := { safeIo := { onpEn := 1 } } } (.onPulseStart (.so 0)) ∧
    CommandReady { img := { spm := some {} } } .loadRedAssert ∧
    CommandReady { img := { spm := some {} }, spm := { ramp := some (500, 39) } } .reduceRampStep ∧
    CommandReady { img := { spm := some { source := 1 } } } .hostbudTimeout ∧
    CommandReady { img := { spm := some { source := 1 } } } (.spmHostbudWrite .S 700) ∧
    CommandReady { withSlot { st := .armed, axis := some 0 } {} with img := { templates := [{}], axes := [{}], lift := some { axis := 0, chopKw := 10 } }, trst := { adopted := true }, spm := { lift := some { slot := 0, axis := 0, height := 0, speed := 10, acc := 10, lower := true, mass := 0, p0 := 0 } } } .liftReevaluate ∧
    CommandReady { withAxis { st := .released, stillCyc := 2 } {} with spm := { liftSt := 3, lift := some { slot := 0, axis := 0, height := 1000, speed := 10, acc := 10, lower := true, mass := 0, p0 := 0 } } } .liftHoldShort ∧
    CommandReady { hlNode {} { node := 0, keeper := 0 } with img := { hl := some { node := 0, keeper := 0 }, spm := some {} } } .hlFrameOrigin ∧
    CommandReady (hlNode {} { node := 1, keeper := 0 }) (.hlFramePass 0 (hlFrame 0 false)) ∧
    CommandReady (hlNode {} { node := 0, keeper := 0 }) (.hlPassEnd 0 (hlFrame 0 true)) ∧
    CommandReady (hlNode { link := true } {}) .hlLinkLost ∧
    CommandReady (hlNode { droop := true } {}) .droopUpdate ∧
    CommandReady (hlNode {} { node := 1, keeper := 0 }) .hlBackupOrigin := by
  with_reducible repeat' apply And.intro
  · unfold CommandReady; exact ⟨0, { next := 1 }, [], by decide +kernel⟩
  · unfold CommandReady; exact ⟨{}, by decide +kernel⟩
  · unfold CommandReady FaultEnters; exact ⟨by decide +kernel, { bkfbIn := some 3 }, 3, by decide +kernel⟩
  · unfold CommandReady AxisResetOk; exact ⟨by decide +kernel, {}, 0, by decide +kernel⟩
  · unfold CommandReady AxisResetOk; exact ⟨by decide +kernel, { swRst := true }, by decide +kernel⟩
  · unfold CommandReady; exact ⟨by decide +kernel, {}, by decide +kernel⟩
  · unfold CommandReady; exact ⟨1, by decide +kernel⟩
  · unfold CommandReady; exact ⟨by decide +kernel, by decide +kernel, by decide +kernel, 3, by decide +kernel⟩
  · unfold CommandReady; exact ⟨rfl, 0, rfl⟩
  · unfold CommandReady; exact ⟨by decide +kernel, by decide +kernel, by decide +kernel, by decide +kernel, 0, by decide +kernel⟩
  · unfold CommandReady; exact ⟨rfl, rfl, noConsumers_of rfl⟩
  · unfold CommandReady; exact ⟨noConsumers_of rfl, by decide +kernel, {}, 500, 39, by decide +kernel⟩
  · unfold CommandReady; exact ⟨noConsumers_of rfl, by decide +kernel, { source := 1 }, by decide +kernel⟩
  · unfold CommandReady CoreMayWrite TagReady; exact ⟨noConsumers_of rfl, by decide +kernel, by decide +kernel, { source := 1 }, by decide +kernel⟩
  · unfold CommandReady; exact ⟨_, _, rfl, rfl, by decide +kernel⟩
  · unfold CommandReady; exact ⟨_, {}, rfl, by decide +kernel⟩
  · unfold CommandReady; exact ⟨noConsumers_of rfl, by decide +kernel, by decide +kernel, by decide +kernel, _, _, rfl, rfl, by decide +kernel⟩
  · unfold CommandReady HlPass; exact ⟨⟨_, rfl, by decide +kernel⟩, noConsumers_of rfl, by decide +kernel⟩
  · unfold CommandReady; exact ⟨rfl, rfl, rfl, _, rfl, by decide +kernel⟩
  · unfold CommandReady; exact ⟨rfl, rfl, _, rfl, by decide +kernel⟩
  · unfold CommandReady; exact ⟨rfl, _, rfl, by decide +kernel⟩
  · unfold CommandReady; exact ⟨rfl, rfl, rfl, rfl, _, rfl, by decide +kernel⟩

set_option maxRecDepth 100000 in
/-- Witness: commands of the cabinet, field, serial lines and networks are ready. -/
theorem witness_EveryCommandCompletes_CabinetToNetworks :
    CommandReady State.reset (.cabStart true true true) ∧
    CommandReady (cabRuns {}) (.cabSample ⟨.replicate 4 0, .replicate 4 0, 0, none⟩) ∧
    CommandReady (cabRuns { stable := true, raw := 120000000 }) (.zero .S 9) ∧
    CommandReady (cabRuns { stable := true, raw := 6000000000 }) (.tare .S 9) ∧
    CommandReady (cabRuns {}) (.tareClear .S 9) ∧
    CommandReady (cabRuns { stable := true }) (.record .S 9) ∧
    CommandReady (cabRuns { newest := 1, alibi := [(1, { bytes := [7] })], regArg := 1 }) (.alibiRead .S 9) ∧
    CommandReady (cabRuns {}) (.cabStatus .S 9) ∧
    CommandReady (cabRuns { cmd := some ⟨1, 1, 0⟩ }) .cabStabilityTimeout ∧
    CommandReady (cabRuns {}) (.cabPowerDown false) ∧
    CommandReady (cabRuns {}) (.calswChange true) ∧
    CommandReady (cabRuns { noDisp := true }) (.hTelegram (telegram "H" [ascii "0"])) ∧
    CommandReady (cabRuns { calsw := true }) (.sTelegram (telegram "S" [ascii "Z"])) ∧
    CommandReady (cabRuns { causes := 2 }) .wTelegram ∧
    CommandReady (cabRuns {}) .displayTimeout ∧
    CommandReady (cabRuns {}) (.notLegalClear 1) ∧
    CommandReady (cabRuns { cmd := some ⟨1, 1, 0⟩ }) .xcabLoss ∧
    CommandReady { cab := { fifo := [[]] } } (.cabwPop .S) ∧
    CommandReady State.reset (.foMeasure (.replicate 32 none)) ∧
    CommandReady { fio := { out := .replicate 32 { st := 1 } }, img := { fo := .replicate 32 { mode := 1 } } } (.foShort 31 true) ∧
    CommandReady { fio := { out := .replicate 32 { st := 3 } }, img := { fo := .replicate 32 { mode := 1 } } } (.foRetry 0) ∧
    CommandReady { fio := { out := .replicate 32 { st := 2 } }, img := { fo := .replicate 32 { mode := 1 } } } (.foRetryReset 0) ∧
    CommandReady { fio := { out := .replicate 32 { st := 4 } } } (.foClear .S 1) ∧
    CommandReady { fio := { out := .replicate 32 { st := 1, openCnt := 2 } }, img := { fo := .replicate 32 { mode := 1 } } } (.openLoadObserve 5 true) ∧
    CommandReady { fansAt .spinUp with fan := .replicate 8 { st := .kick } } (.tachPulse 0 50 none) ∧
    CommandReady (fansAt .spinUp) (.fanSpinTimeout 7) ∧
    CommandReady (fansAt .kick) (.fanKickEnd 0) ∧
    CommandReady (fansAt .running) (.fanTachTimeout 0 99) ∧
    CommandReady (fansAt .stall) (.fanRecover 0 100) ∧
    CommandReady State.reset (.aiScan (.replicate 16 0)) ∧
    CommandReady { img := { enc := .replicate 4 { inc := true } } } (.encCountEdge 3 true false false) ∧
    CommandReady { img := { enc := .replicate 4 { abs := true } } } (.absFrame 3 true 0 false true) ∧
    CommandReady State.reset (.gpioEdge 23 true) ∧
    CommandReady State.reset (.spiDataWrite .S 9) ∧
    CommandReady { ser := { spiBusy := true, spiCtl := 4 } } (.spiFrameComplete 9) ∧
    CommandReady State.reset (.uartDataWrite .S 9) ∧
    CommandReady { ser := { utx := [9] } } .uartByteSent ∧
    CommandReady State.reset (.uartByteReceived 9) ∧
    CommandReady State.reset (.i2cGo .S 9) ∧
    CommandReady { ser := { i2cBusy := true } } (.i2cComplete true 9) ∧
    CommandReady (withNet .operate []) (.ethFrameReceive 0 (List.replicate 12 0 ++ [0x86, 0xDD])) ∧
    CommandReady State.reset (.ethLinkChange 0 true true) ∧
    CommandReady { net := { eth := #v[{ dma := some { desc := 0x10000000, send := true, status := 0, bytes := 60 } }, {}] } } (.dmaDescriptorComplete 0) ∧
    CommandReady (withNet .operate [sess7 false]) (.hspSessionTimeout 7) ∧
    CommandReady (withNet .operate []) (.modbusConnect 1 0) ∧
    CommandReady mbNet (.modbusIdleTimeout 1) ∧
    CommandReady mbNet (.modbusOtherFunction 1 default 5) ∧
    CommandReady { can := { ctl := .replicate 2 { busOff := true } } } (.canBusoffRecovery 0) := by
  (with_reducible repeat' apply And.intro) <;> unfold CommandReady
  all_goals (try unfold CabFree; try unfold CoreMayWrite; try unfold TagPortWrite; try unfold TagReady; try unfold FanOn; try unfold Settled; try unfold MonitorRuns; try unfold FaultEnters; try unfold MemWf; decide +kernel)

set_option maxRecDepth 100000 in
/-- Witness: and so are these, whose conditions name a slot, a configuration, a session or the like. -/
theorem witness_EveryCommandCompletes_CabinetToNetworksNamed :
    CommandReady (cabRuns { stable := true, cmd := some ⟨1, 1, 0⟩ }) .cabCommandComplete ∧
    CommandReady (cabRuns { calsw := true, par := { audit := 65534 } }) (.cTelegram (telegram "C" [ascii "MAX_E", ascii "100"])) ∧
    CommandReady (withNet .operate []) (.hello 0 (request true 0 0 1 (List.replicate 16 3))) ∧
    CommandReady (withNet .operate [sess7 false]) (.close 0 (request false 7 5 0x02 [])) ∧
    CommandReady (withNet .operate [sess7 false]) (.status 0 (request false 7 5 0x30 [])) ∧
    CommandReady (withNet .operate [sess7 false]) (.tagread 0 (request false 7 5 0x32 [0xFF, 3, 1, 0])) ∧
    CommandReady (withNet .lockoutMaint [sess7 false]) (.secureLock 0 (request false 7 5 0x47 [])) ∧
    CommandReady (withNet .lockoutMaint [sess7 false]) (.reset 0 (request false 7 5 0x4F [])) ∧
    CommandReady (withNet .operate []) (.canHeartbeat 1) ∧
    CommandReady (withNet .operate []) (.joystickFrame 1 (.replicate 8 0)) ∧
    CommandReady (withNet .operate []) .joystickTimeout ∧
    CommandReady (withNet .operate []) (.tankFrame 1 1 (.replicate 8 0)) ∧
    CommandReady (withNet .operate []) (.tankTimeout 1) := by
  with_reducible repeat' apply And.intro
  · unfold CommandReady; exact ⟨rfl, rfl, rfl, rfl, ⟨_, rfl, rfl⟩, by decide +kernel⟩
  · unfold CommandReady; exact ⟨by decide +kernel, by decide +kernel, by decide +kernel, .maxE, 100, { audit := 65534, maxE := 100 }, by decide +kernel⟩
  · unfold CommandReady; exact ⟨by decide +kernel, by decide +kernel, (request_ok (by decide +kernel)).1, ⟨key0, by decide +kernel, (request_ok (by decide +kernel)).2⟩, by decide +kernel⟩
  · unfold CommandReady; exact ⟨sess7 false, taken (by decide +kernel), by decide +kernel⟩
  · unfold CommandReady; exact ⟨sess7 false, taken (by decide +kernel), by decide +kernel⟩
  · unfold CommandReady; exact ⟨sess7 false, taken (by decide +kernel), by decide +kernel⟩
  · unfold CommandReady MaintOpen; exact ⟨sess7 false, taken (by decide +kernel), by decide +kernel⟩
  · unfold CommandReady; exact ⟨rfl, by decide +kernel, by decide +kernel, sess7 false, taken (by decide +kernel), by decide +kernel⟩
  · unfold CommandReady; exact ⟨_, rfl, by decide +kernel⟩
  · unfold CommandReady; exact ⟨⟨_, rfl, by decide +kernel⟩, by decide +kernel⟩
  · unfold CommandReady; exact ⟨_, rfl, by decide +kernel⟩
  · unfold CommandReady; exact ⟨⟨_, rfl, by decide +kernel⟩, by decide +kernel⟩
  · unfold CommandReady; exact ⟨_, rfl, by decide +kernel⟩

set_option maxRecDepth 100000 in
/-- Witness: commands of the clocks, supplies, hold-up, watch and the late rows are ready. -/
theorem witness_EveryCommandCompletes_ClocksToLate :
    CommandReady { sys := { mode := .operate }, pmu := { released := true } } .xsysLoss ∧
    CommandReady State.reset .xaonSwitch ∧
    CommandReady { clk := { aonFb := true } } .xaonStartTimeout ∧
    CommandReady { clk := { aonFb := false } } .xaonLoss ∧
    CommandReady (atMode .lockoutMaint) (.refclkProbe true) ∧
    CommandReady { pmu := { rails := .off } } .vinQualified ∧
    CommandReady { pmu := { rails := .rising, started := 3 } } .railStart ∧
    CommandReady { pmu := { rails := .rising, started := 1 } } (.bringUpFail 0) ∧
    CommandReady { pmu := { rails := .retry } } .bringUpRetry ∧
    CommandReady State.reset .fullReset ∧
    CommandReady { pmu := { released := true } } (.railFault 3) ∧
    CommandReady { sys := { mode := .operate }, pmu := { released := true } } (.vinOv 3601) ∧
    CommandReady State.reset (.vinLow 1799) ∧
    CommandReady State.reset (.vfoLow 5) ∧
    CommandReady { sys := { mode := .operate }, pmu := { released := true }, save := { ready := true } } (.sagConfirm 0) ∧
    CommandReady { save := { step := .confirmed } } .saveCapture ∧
    CommandReady { save := { step := .captured, record := List.replicate 1792 0 } } (.saveRecordWrite true) ∧
    CommandReady { save := { step := .written } } (.saveComplete 5 6) ∧
    CommandReady { save := { coreOff := true } } (.aonLoss 5) ∧
    CommandReady (atMode .operate) .holdupLow ∧
    CommandReady { save := { coreOff := true, ready := true } } .sagResume ∧
    CommandReady { save := { resuming := true } } .resumeHoldupTimeout ∧
    CommandReady State.reset (.saveHome .S 0) ∧
    CommandReady { save := { verify := [(3, 5)] } } (.positionVerifyTimeout 3) ∧
    CommandReady { sys := { mode := .operate }, aon := { step := .closing } } .watchCommit ∧
    CommandReady { aon := { step := .tokens } } .tokenReturnTimeout ∧
    CommandReady { sys := { mode := .watch }, aon := { step := .window }, img := { watch := some {} } } .watchWindowEnd ∧
    CommandReady { sys := { mode := .watch }, aon := { step := .asleep }, img := { watch := some {} } } (.watchSample (.replicate 16 0) 0 (.replicate 6 34561)) ∧
    CommandReady { sys := { mode := .watch }, aon := { step := .asleep }, img := { watch := some { wakeCfg := .replicate 4 1 } } } (.wakePin 3 true) ∧
    CommandReady { sys := { mode := .watch }, aon := { step := .asleep, alarmEn := true } } .rtcAlarm ∧
    CommandReady { sys := { mode := .watch }, aon := { step := .restored }, img := { watch := some {} } } (.wakeReady true) ∧
    CommandReady State.reset (.rtcWrite .S 9) ∧
    CommandReady State.reset (.tagWrite 1 .NS 31) ∧
    CommandReady State.reset (.tagLock 1 .NS 3) ∧
    CommandReady State.reset .lifetimeWrite ∧
    CommandReady State.reset .hbuPause ∧
    CommandReady State.reset .maintEnLow ∧
    CommandReady State.reset (.lkrstPressBegin true) ∧
    CommandReady { spm := { prefTrip := true } } .prefTripRelease ∧
    CommandReady { fio := { vfoLow := true } } (.vfoReturn 5) ∧
    CommandReady { img := { enc := .replicate 4 { inc := true } } } (.encZEdge 3) ∧
    CommandReady { saf := { halted := true, bkH := 3, bkL := 3 } } .brakeDriverWatchdog ∧
    CommandReady { pmu := { rails := .held } } .vinBelow10v ∧
    CommandReady { boot := { halted := true } } .bootSagRestart ∧
    CommandReady mbNet (.readHoldingRegisters 1 default 6 1) ∧
    CommandReady mbNet (.readInputRegisters 1 default 0 4) ∧
    CommandReady { mbNet with sec := { bwt := 0x03BFFEF7 } } (.writeSingleRegister 1 default 64 7) := by
  (with_reducible repeat' apply And.intro) <;> unfold CommandReady
  all_goals (try unfold CabFree; try unfold CoreMayWrite; try unfold TagPortWrite; try unfold TagReady; try unfold FanOn; try unfold Settled; try unfold MonitorRuns; try unfold FaultEnters; try unfold MemWf; decide +kernel)

set_option maxRecDepth 100000 in
/-- Witness: and so are these, whose conditions name a slot, a configuration, a session or the like. -/
theorem witness_EveryCommandCompletes_ClocksToLateNamed :
    CommandReady { sys := { mode := .operate }, pmu := { released := true } } (.tempRead (.replicate 8 (some 30719))) ∧
    CommandReady { aon := { step := .waking, drawer := goodDrawer } } .wakeStart ∧
    CommandReady { chest := { port := .replicate 2 { pend := true, target := 31 } } } .tagWriteComplete ∧
    CommandReady (withNet .operate []) (.canBusError 1 true false) ∧
    CommandReady (withNet .operate [sess7 false]) (.read 0 (request false 7 5 0x10 [0x0C, 0, 0x0E, 0x40, 1, 0])) ∧
    CommandReady (withNet .operate [sess7 false]) (.write 0 (request false 7 5 0x11 [0x0C, 0, 0x0E, 0x40, 1, 0, 0, 0, 9, 0, 0, 0])) ∧
    CommandReady (withNet .operate [sess7 false]) (.chn 0 (request false 7 5 0x20 (List.replicate 32 0))) ∧
    CommandReady { withNet .operate [sess7 false] with img := { net := (withNet .operate []).img.net, mode := some { recipes := [{}] } } } (.recipe 0 (request false 7 5 0x21 [0])) ∧
    CommandReady { withNet .operate [sess7 false] with img := { net := (withNet .operate []).img.net, watch := some {} } } (.watch 0 (request false 7 5 0x22 [])) ∧
    CommandReady (withNet .lockoutFault [sess7 false]) (.maint 0 (request false 7 5 0x40 [])) ∧
    CommandReady { withNet .operate [sess7 false] with cap := .replicate 4 { st := 3, len := 16 } } (.capread 0 (request false 7 5 0x31 [3, 0, 0, 0, 1, 0])) ∧
    CommandReady (withNet .operate [sess7 false]) (.tagwrite 0 (request false 7 5 0x33 (0xE0 :: 3 :: List.replicate 34 0))) ∧
    CommandReady (withNet .lockoutMaint [sess7 false]) (.flashSel 0 (request false 7 5 0x41 [1])) ∧
    CommandReady (withNet .lockoutMaint [sess7 false]) (.flashErase 0 (request false 7 5 0x42 [0, 0, 0, 0, 1])) ∧
    CommandReady (withNet .lockoutMaint [sess7 false]) (.flashProg 0 (request false 7 5 0x43 (List.replicate 260 0))) ∧
    CommandReady (withNet .lockoutMaint [sess7 false]) (.flashRead 0 (request false 7 5 0x44 [0, 0, 0, 0, 0, 4])) ∧
    CommandReady { withNet .lockoutMaint [sess7 false] with flash := { found := true, run := some { sid := 7, op := 0x43, rtag := 1, count := 1 } } } (.flashCommandComplete true none []) ∧
    CommandReady (withNet .lockoutMaint [sess7 false]) (.keyWrite 0 (request false 7 5 0x45 (5 :: List.replicate 32 7))) ∧
    CommandReady { withNet .lockoutMaint [sess7 false] with mem := keyMem key0 } (.otpSlot 0 (request false 7 5 0x46 [0, 0])) ∧
    CommandReady (withNet .lockoutMaint [sess7 false]) (.tagUnlock 0 (request false 7 5 0x48 [7])) ∧
    CommandReady mbNet (.writeMultipleRegisters 1 default 0 2 [1, 2, 3, 4]) := by
  with_reducible repeat' apply And.intro
  · unfold CommandReady; exact ⟨rfl, rfl, by decide +kernel, fun i => ⟨30719, by simp, by decide⟩⟩
  · unfold CommandReady; exact ⟨rfl, goodDrawer_ok⟩
  · unfold CommandReady; exact ⟨0, by decide +kernel⟩
  · unfold CommandReady; exact ⟨rfl, _, rfl, by decide +kernel⟩
  · unfold CommandReady; exact ⟨sess7 false, 14, 12, taken (by decide +kernel), by decide +kernel⟩
  · unfold CommandReady; exact ⟨sess7 false, 14, 12, taken (by decide +kernel), by decide +kernel⟩
  · unfold CommandReady; exact ⟨by decide +kernel, by decide +kernel, by decide +kernel, sess7 false, taken (by decide +kernel), rfl⟩
  · unfold CommandReady; exact ⟨sess7 false, {}, taken (by decide +kernel), by decide +kernel⟩
  · unfold CommandReady; exact ⟨sess7 false, taken (by decide +kernel), by decide +kernel⟩
  · unfold CommandReady; exact ⟨sess7 false, taken (by decide +kernel), by decide +kernel⟩
  · unfold CommandReady; exact ⟨sess7 false, 3, 1, 0, taken (by decide +kernel), by decide +kernel⟩
  · unfold CommandReady; exact ⟨sess7 false, 31, taken (by decide +kernel), by decide +kernel⟩
  · unfold CommandReady MaintOpen; exact ⟨by decide +kernel, by decide +kernel, by decide +kernel, by decide +kernel, by decide +kernel, sess7 false, taken (by decide +kernel), by decide +kernel⟩
  · unfold CommandReady MaintOpen; exact ⟨by decide +kernel, by decide +kernel, by decide +kernel, by decide +kernel, by decide +kernel, sess7 false, taken (by decide +kernel), by decide +kernel⟩
  · unfold CommandReady MaintOpen; exact ⟨by decide +kernel, by decide +kernel, by decide +kernel, by decide +kernel, by decide +kernel, sess7 false, taken (by decide +kernel), by decide +kernel⟩
  · unfold CommandReady MaintOpen; exact ⟨by decide +kernel, by decide +kernel, by decide +kernel, by decide +kernel, by decide +kernel, by decide +kernel, sess7 false, taken (by decide +kernel), by decide +kernel⟩
  · unfold CommandReady; exact ⟨rfl, rfl, _, rfl, rfl⟩
  · unfold CommandReady MemWf MaintOpen; exact ⟨by decide +kernel, by decide +kernel, by decide +kernel, by decide +kernel, sess7 false, taken (by decide +kernel), by decide +kernel⟩
  · unfold CommandReady MaintOpen; exact ⟨by decide +kernel, by decide +kernel, by decide +kernel, ⟨0, by decide +kernel⟩, sess7 false, taken (by decide +kernel), by decide +kernel⟩
  · unfold CommandReady MemWf MaintOpen; exact ⟨by decide +kernel, by decide +kernel, by decide +kernel, by decide +kernel, sess7 false, taken (by decide +kernel), by decide +kernel⟩
  · unfold CommandReady; exact ⟨by decide +kernel, rfl, 0, 1, 2, 3, 4, by decide +kernel⟩

/-! ### Operands that no command carries (Instr.wf): one ill-formed term for each check -/

theorem test_wf_part_of_no_frames : (Instr.downFrame 0 0 (some ⟨0, 0, .chop false 0⟩)).wf = false := by decide
theorem test_wf_request_size : (Instr.transactionIssue { kind := .read, size := 3, init := .secureCore, addr := 0 }).wf = false := by decide
theorem test_wf_write_without_its_words : (Instr.transactionIssue { kind := .write, size := 8, data := [1], init := .secureCore, addr := 0 }).wf = false := by decide
theorem test_wf_csr_of_another_core : (Instr.registerWrite .dma .S (.csr 0x7C0) 0).wf = false := by decide
theorem test_wf_lmem_size : (Instr.lmemCoreWrite .S 0x20000000 3 0).wf = false := by decide
theorem test_wf_lmem_below : (Instr.lmemCoreWrite .S 0x1FFFFFFC 4 0).wf = false := by decide
theorem test_wf_lmem_above : (Instr.lmemCoreWrite .S 0x20040000 4 0).wf = false := by decide
theorem test_wf_ns_call_off_port_1 : (Instr.create { port := 2, ns := true }).wf = false := by decide
theorem test_wf_lift_without_profile : (Instr.liftStart {}).wf = false := by decide
theorem test_wf_capture_stop_unit : (Instr.captureStop {}).wf = false := by decide
theorem test_wf_header_length : (Instr.imageHeaderCheck []).wf = false := by decide
theorem test_wf_ring_frame_length : (Instr.hlFramePass 0 []).wf = false := by decide
theorem test_wf_pass_end_length : (Instr.hlPassEnd 0 []).wf = false := by decide
theorem test_wf_ethernet_short : (Instr.ethFrameReceive 0 []).wf = false := by decide
theorem test_wf_ethernet_long : (Instr.ethFrameReceive 0 (List.replicate 1515 0)).wf = false := by decide +kernel
theorem test_wf_datagram_short : (Instr.hello 0 (List.replicate 63 1)).wf = false := by decide
theorem test_wf_datagram_op : (Instr.hello 0 (List.replicate 64 2)).wf = false := by decide
theorem test_wf_datagram_long : (Instr.hello 0 (List.replicate 1089 1)).wf = false := by decide +kernel
theorem test_wf_flash_data : (Instr.flashCommandComplete true none (List.replicate 1025 0)).wf = false := by decide +kernel
theorem test_wf_register_data : (Instr.writeMultipleRegisters 0 ⟨0, 0⟩ 0 0 (List.replicate 247 0)).wf = false := by decide +kernel
theorem test_wf_other_function : (Instr.modbusOtherFunction 0 ⟨0, 0⟩ 3).wf = false := by decide

/-! ### Values that the spec works out -/

/-- R22: CRC-16 of the nine ASCII bytes 123456789. -/
theorem test_crc16 : crc16 (bitsMsb 0x313233343536373839 72) = 0x29B1#16 := by decide +kernel
/-- RFC 3720 test value of CRC-32C: 32 bytes of zero, sent low byte first. -/
theorem test_crc32c : crc32c (List.replicate 32 0) = 0x8A9136AA#32 := by decide +kernel
/-- R37: the block world table at reset. -/
theorem test_block_worlds : regRead State.reset 0 .S 3 0 = some 0x03803E20#32 := by decide +kernel
/-- Worked example 4.1: the page of entry 0 is read-only to NS although entry 1 contains it, and S may write it. -/
theorem test_region_page :
    let v : State := { sec := { rgn := ((Vector.replicate 32 {}).set 0 ⟨0x1007F000, 0x830C⟩).set 1 ⟨0x10040000, 0x8712⟩ } }
    (rgnRight v .NS .read 0x1007F000, rgnRight v .NS .write 0x1007F000, rgnRight v .S .write 0x1007F000, rgnRight v .NS .write 0x1007EFFC) =
      (true, false, true, true) := by decide +kernel
/-- Worked example 5.1: the response of the valve channel's CREATE, in slot 23 with GEN 4. -/
theorem test_create_response :
    let busy : Vector Slot 256 := ((List.range 23).foldl (fun v k => v.set! k { st := .running }) (Vector.replicate 256 {})).set 23 { gen := 4 }
    let v : State := { sys := { mode := .operate }, img := { templates := List.replicate 13 { anyWorld := true, tick := 6, div := 10, stages := List.replicate 3 {} } }, chn := { slots := busy } }
    let c : ChnCall := { port := 2, w := #v[0x0000FF0C, 0, 0, 0, 0, 0, 0] }
    let t := serve opCreate c v
    (t.chn.ports[2].rsp[0], t.chn.slots[23].st, stagesUsed t - stagesUsed v, loadOf (slotTemplate t t.chn.slots[23])) =
      (0x04170000#32, ChState.created, 3, 30) := by decide +kernel
/-- Worked example 6.1: the first increments of the hoist speed loop, ties to even. -/
theorem test_int_increments :
    let a (x : Int) : StageIn := { bank := [0x60000000, 0x40000000, 0, 0, 0, 0, 0, 0x36], st := [0], x0 := x, x1 := 0 }
    ((evInt (a 2048)).st, (evInt (a 6144)).st) = ([(0, 2#32)], [(0, 4#32)]) := by decide +kernel
/-- Worked example 7.1: the loads of the current sets, the store converter and the speed loop. -/
theorem test_loads :
    (3 * loadOf { tick := 0, div := 1, stages := List.replicate 8 {} }, loadOf { tick := 2, div := 1, stages := List.replicate 10 {} },
      loadOf { tick := 3, div := 1, stages := List.replicate 12 {} }) = (2400000, 200000, 120000) := by decide +kernel
/-- Worked example 12.1: 117 mm/s fits, 118 mm/s does not, and E_avail is 60 490 kJ. -/
theorem test_lift :
    let c : LiftCfg := { (default : LiftCfg) with etaUp := 880, etaSt := 950, pLoss := 25 }
    let st : StoreVal := { eNum := 6118000, eDen := 1, pSt := 600, v := 760 }
    (energyFits c st 328000 14000000000 117 100 450 9, energyFits c st 328000 14000000000 118 100 450 9, powerFits c st 328000 250 100 450,
      eAvailKj st 14000000000 117 100 450) = (true, false, true, 60490) := by decide +kernel
/-- Worked example 13.1: the targets of the seven nodes. -/
theorem test_targets :
    tokenTargets 3000 [(0, 1000, 150), (1, 1050, 150), (2, 350, 200), (3, 350, 200), (4, 350, 200), (5, 350, 200), (6, 120, 0)] =
      [(0, 804), (1, 843), (2, 316), (3, 315), (4, 315), (5, 315), (6, 92)] := by decide
/-- Worked example 15.1: the duty code of the dimmed lamp, rne(40.96). -/
theorem test_duty : dutyCode 85899346 = 41 := by decide +kernel
/-- Worked example 16.1: SYS_MODE of crane A, and the answer to the read of input registers 0 and 1. -/
theorem test_sys_mode :
    let v : State := { sys := { mode := .operate, rcpValid := true, entry := 1, bootsel := 2, dkpresent := true, testN := true }, trst := { adopted := true } }
    (sysModeWord v, mbInput v 0, mbInput v 1) = (0x01E11002#32, some 0x01E1, some 0x1002) := by decide +kernel
/-- Worked example 24.1: SYS_BOOTSTAT after the boot from QSPI_CS0_N. -/
theorem test_boot_stat :
    bootStatWord { boot := { src := 0, locked := true, cs0Err := 0, cs1Err := 0x10 }, otp := { hash := #v[1, 2, 0, 0] } } = 0x05100040#32 := by decide +kernel
/-- FIPS 180-4: SHA-256 of abc. -/
theorem test_sha256 : slice (sha256 [0x61, 0x62, 0x63]) 0 4 = [0xBA, 0x78, 0x16, 0xBF] := by decide +kernel

end Sys2Proof.Tests
end

section
/-! PROOFS. The deck's own switching (09_deck_power_stage.md, R255-R261): what an update of one bridge writes, what a leg does on a
demand, at the end of its dead time and at the end of TMIN. -/
namespace Sys2Proof.Machine
open Sys2Proof

/-! ### An update of one bridge -/

/-- An update of a bridge writes the deck only. -/
theorem State.modBr_frame (s : State) (b : Fin 4) (f : DkBridge → DkBridge) : s.modBr b f = { s with dk := (s.modBr b f).dk } := rfl

@[simp] theorem State.modBr_life (s : State) (b : Fin 4) (f : DkBridge → DkBridge) : (s.modBr b f).life = s.life := rfl

@[simp] theorem State.modBr_self (s : State) (b : Fin 4) (f : DkBridge → DkBridge) : (s.modBr b f).dk.br[b] = f s.dk.br[b] :=
  vmod_self s.dk.br b f

theorem State.modBr_other (s : State) {b c : Fin 4} (f : DkBridge → DkBridge) (h : c ≠ b) : (s.modBr b f).dk.br[c] = s.dk.br[c] :=
  vmod_other s.dk.br b c f h.symm

/-- Only what the update makes of the bridge as it stands matters. -/
theorem State.modBr_congr (s : State) (b : Fin 4) {f g : DkBridge → DkBridge} (h : f s.dk.br[b] = g s.dk.br[b]) :
    s.modBr b f = s.modBr b g := by
  simp only [State.modBr, vmod, h]

theorem State.modBr_modBr (s : State) (b : Fin 4) (f g : DkBridge → DkBridge) :
    (s.modBr b f).modBr b g = s.modBr b fun x => g (f x) := by
  simp [State.modBr, vmod]

/-- An element that a set leaves. -/
theorem getElem_vset_other {α : Type} {n : Nat} (v : Vector α n) {i j : Fin n} (x : α) (h : j ≠ i) : (v.set i x)[j] = v[j] :=
  Vector.getElem_set_ne i.isLt j.isLt fun e => h (Fin.ext e.symm)

/-! ### The switches of a leg -/

/-- The switch that goes off first when a leg changes to HI (true) or LO (false) (R259). -/
def offSw (p : Fin 3) (hi : Bool) : Fin 6 := if hi then loSw p else hiSw p

/-- The switch that turns on after tDEAD when a leg changes to HI (true) or LO (false) (R259). -/
def onSw (p : Fin 3) (hi : Bool) : Fin 6 := if hi then hiSw p else loSw p

@[simp] theorem swLeg_onSw (p : Fin 3) (hi : Bool) : swLeg (onSw p hi) = p := by
  revert p hi; decide

/-! ### A change of a leg -/

/-- A deferred change of a leg is dropped (R260). -/
def DkBridge.dropDefer (p : Fin 3) (x : DkBridge) : DkBridge := { x with defer := x.defer.set p none }

/-- The three answers of a leg to a demand: it stands there already, the change is deferred, or the change begins (R257-R260). -/
theorem DkBridge.legTo_eq (x : DkBridge) (p : Fin 3) (hi : Bool) :
    x.legTo p hi =
      if x.want[p] = hi then x.dropDefer p
      else if x.sw[offSw p hi].tmin || x.pend[p].isSome then { x with defer := x.defer.set p (some hi) }
      else
        { x with
          sw := x.sw.set (offSw p hi) { x.sw[offSw p hi] with on := false, tmin := true }
          want := x.want.set p hi, pend := x.pend.set p (some hi), deadDone := x.deadDone.set p false
          defer := x.defer.set p none } := rfl

/-- A free leg that is asked for its other state turns the conducting switch off and waits for tDEAD (R257, R259). -/
theorem DkBridge.legTo_starts (x : DkBridge) (p : Fin 3) (hi : Bool) (hw : x.want[p] = !hi) (ht : x.sw[offSw p hi].tmin = false)
    (hp : x.pend[p] = none) :
    (x.legTo p hi).sw = x.sw.set (offSw p hi) { x.sw[offSw p hi] with on := false, tmin := true } ∧
      (x.legTo p hi).pend = x.pend.set p (some hi) := by
  rw [DkBridge.legTo_eq, hw, ht, hp, if_neg (Bool.not_ne_self hi), if_neg (by decide)]
  exact ⟨rfl, rfl⟩

@[simp] theorem DkBridge.legTo_dem (x : DkBridge) (p : Fin 3) (hi : Bool) : (x.legTo p hi).dem = x.dem := by
  rw [DkBridge.legTo_eq]
  split
  · rfl
  · split <;> rfl

/-- A demand is stored whatever the legs then do. -/
theorem DkBridge.follow_dem (x : DkBridge) (p : Fin 3) (d : Demand) : (x.follow p d).dem = x.dem.set p d := by
  have hfold (y : DkBridge) (l : List (Fin 3)) : (l.foldl (fun (z : DkBridge) q => z.legTo q z.vecSel[q]) y).dem = y.dem :=
    List.foldlRecOn (motive := fun z : DkBridge => z.dem = y.dem) l _ rfl fun z hz q _ => (z.legTo_dem q _).trans hz
  unfold DkBridge.follow
  dsimp only
  split
  · simp only [apply_ite DkBridge.dem, hfold, ite_self]
  · cases d
    case none => rfl
    case rise | fall => exact DkBridge.legTo_dem _ _ _

/-- Without a demand the legs hold, in either mode (R255). -/
theorem DkBridge.follow_none (x : DkBridge) (p : Fin 3) : x.follow p .none = { x with dem := x.dem.set p .none } := by
  simp [DkBridge.follow]

/-- The demand for HI (rise) or LO (fall). -/
def demandOf (hi : Bool) : Demand := if hi then .rise else .fall

/-- In independent-phase mode a demand asks its own leg for HI or LO (R257). -/
theorem DkBridge.follow_independent (x : DkBridge) (p : Fin 3) (hi : Bool) (hv : x.vsel = false) :
    x.follow p (demandOf hi) = { x with dem := x.dem.set p (demandOf hi) }.legTo p hi := by
  cases hi <;> simp [DkBridge.follow, demandOf, hv]

/-! ### COMPARATOR_CROSSING -/

/-- A current between the edges or on one demands nothing (R255). -/
theorem DkBridge.judge_within (x : DkBridge) (p : Fin 3) (code : Int) (hl : x.lower p ≤ code) (hu : code ≤ x.upper p) :
    x.judge p code = .none :=
  (if_neg (not_lt.mpr hu)).trans (if_neg (not_lt.mpr hl))

theorem comparatorCrossing_regulating (s : State) (b : Fin 4) (p : Fin 3) (code : Int) (hclk : s.dk.clk = true)
    (hrun : s.dk.br[b].run = true) (hrel : s.dk.br[b].released = true) (hact : s.dk.br[b].active.contains p = true) :
    comparatorCrossing b p code s = s.modBr b fun x => x.follow p (x.judge p code) := by
  simp only [comparatorCrossing, hclk, hrun, hrel, hact, Bool.and_self, if_true]

/-- A crossing stores what the current demands, whether or not the bridge regulates. -/
theorem comparatorCrossing_dem (s : State) (b : Fin 4) (p : Fin 3) (code : Int) :
    (comparatorCrossing b p code s).dk.br[b].dem = s.dk.br[b].dem.set p (s.dk.br[b].judge p code) := by
  unfold comparatorCrossing
  dsimp only
  split
  · rw [State.modBr_self, DkBridge.follow_dem]
  · rw [State.modBr_self]

/-- A current within the band changes nothing but the stored demand. -/
theorem comparatorCrossing_within (s : State) (b : Fin 4) (p : Fin 3) (code : Int) (hl : s.dk.br[b].lower p ≤ code)
    (hu : code ≤ s.dk.br[b].upper p) :
    comparatorCrossing b p code s = s.modBr b fun x => { x with dem := x.dem.set p .none } := by
  have hj := s.dk.br[b].judge_within p code hl hu
  unfold comparatorCrossing
  dsimp only
  split
  · exact s.modBr_congr b (by rw [hj, DkBridge.follow_none])
  · exact s.modBr_congr b (by rw [hj])

/-- A demand for the other state of a free leg, in independent-phase mode on a regulating bridge: the conducting switch goes off and
the complementary one waits for tDEAD; no other switch and no other bridge changes (R257, R259). -/
theorem comparatorCrossing_starts_change (s : State) (b : Fin 4) (p : Fin 3) (code : Int) (hi : Bool) (hclk : s.dk.clk = true)
    (hrun : s.dk.br[b].run = true) (hrel : s.dk.br[b].released = true) (hv : s.dk.br[b].vsel = false)
    (hact : s.dk.br[b].active.contains p = true) (hj : s.dk.br[b].judge p code = demandOf hi) (hw : s.dk.br[b].want[p] = !hi)
    (ht : s.dk.br[b].sw[offSw p hi].tmin = false) (hp : s.dk.br[b].pend[p] = none) :
    ∃ t, exec (.comparatorCrossing b p code) s = .next t ∧ t = { s with dk := t.dk } ∧ t.dk.br[b].sw[offSw p hi].on = false ∧
      t.dk.br[b].pend[p] = some hi ∧ (∀ k : Fin 6, k ≠ offSw p hi → t.dk.br[b].sw[k] = s.dk.br[b].sw[k]) ∧
      ∀ c : Fin 4, c ≠ b → t.dk.br[c] = s.dk.br[c] := by
  refine ⟨s.modBr b fun x => x.follow p (x.judge p code),
    congrArg Host.Outcome.next (comparatorCrossing_regulating s b p code hclk hrun hrel hact), s.modBr_frame b _, ?_⟩
  obtain ⟨hsw, hpend⟩ := DkBridge.legTo_starts { s.dk.br[b] with dem := s.dk.br[b].dem.set p (demandOf hi) } p hi hw ht hp
  rw [State.modBr_self, hj, DkBridge.follow_independent _ _ _ hv, hsw, hpend]
  refine ⟨?_, ?_, fun k hk => ?_, fun c hc => s.modBr_other _ hc⟩
  · simp
  · simp
  · exact getElem_vset_other _ _ hk

/-! ### DEAD_TIME_ELAPSED -/

/-- The turn-on that a leg waits for, with TMIN over: the switch turns on, and an HI turn-on is counted (R259, Table 21.4). -/
theorem legTurnOn_of_pend (s : State) (b : Fin 4) (p : Fin 3) (hi : Bool) (hp : s.dk.br[b].pend[p] = some hi)
    (ht : s.dk.br[b].sw[onSw p hi].tmin = false) :
    legTurnOn b p s =
      if hi then { s.modBr b (DkBridge.turnOn (onSw p hi)) with life := { s.life with sw := vmod s.life.sw b (· + 1) } }
      else s.modBr b (DkBridge.turnOn (onSw p hi)) := by
  unfold onSw at ht ⊢
  simp only [legTurnOn, hp, ht, State.modBr_life, Bool.false_eq_true, if_false]

/-- A turn-on starts the blanking window and TMIN of its switch, ends the wait of its leg, and leaves the other switches (R260, R265). -/
theorem modBr_turnOn (s : State) (b : Fin 4) (p : Fin 3) (hi : Bool) :
    (s.modBr b (DkBridge.turnOn (onSw p hi))).dk.br[b].sw[onSw p hi] = { on := true, tmin := true, blank := true } ∧
      (s.modBr b (DkBridge.turnOn (onSw p hi))).dk.br[b].pend[p] = none ∧
      ∀ k : Fin 6, k ≠ onSw p hi → (s.modBr b (DkBridge.turnOn (onSw p hi))).dk.br[b].sw[k] = s.dk.br[b].sw[k] := by
  rw [State.modBr_self]
  refine ⟨Vector.getElem_set_self _, ?_, fun k hk => getElem_vset_other _ _ hk⟩
  simp [DkBridge.turnOn]

theorem exec_deadTimeElapsed (s : State) (b : Fin 4) (p : Fin 3) (hclk : s.dk.clk = true) :
    exec (.deadTimeElapsed b p) s = .next (legTurnOn b p s) :=
  congrArg Host.Outcome.next (if_pos hclk)

/-! ### TMIN_ELAPSED -/

/-- A switch has held its state for TMIN (R260). -/
def DkBridge.tminOver (k : Fin 6) (x : DkBridge) : DkBridge := { x with sw := x.sw.set k { x.sw[k] with tmin := false } }

@[simp] theorem DkBridge.tminOver_self (x : DkBridge) (k : Fin 6) : (x.tminOver k).sw[k] = { x.sw[k] with tmin := false } := by
  simp [DkBridge.tminOver]

theorem DkBridge.tminOver_on (x : DkBridge) (k j : Fin 6) : (x.tminOver k).sw[j].on = x.sw[j].on := by
  by_cases h : j = k
  · subst h; rw [DkBridge.tminOver_self]
  · exact congrArg GateSwitch.on (getElem_vset_other _ _ h)

/-- In independent-phase mode a deferred change is still demanded exactly if its demand stands (R257, R260). -/
theorem DkBridge.stillDemands_independent (x : DkBridge) (p : Fin 3) (hi : Bool) (hv : x.vsel = false) :
    x.stillDemands p hi = decide (x.dem[p] = demandOf hi) :=
  if_neg (by simp [hv])

/-- TMIN ends on a leg without a late turn-on, and its deferred change is no longer demanded: the change is dropped (R260). -/
theorem tminElapsed_drops (s : State) (b : Fin 4) (k : Fin 6) (hi : Bool) (hst : s.dk.cfg.b3store = false)
    (hdd : s.dk.br[b].deadDone[swLeg k] = false) (hdef : s.dk.br[b].defer[swLeg k] = some hi)
    (hno : s.dk.br[b].stillDemands (swLeg k) hi = false) :
    tminElapsed b k s = s.modBr b fun x => (x.tminOver k).dropDefer (swLeg k) := by
  have hno' : ((s.dk.br[b]).tminOver k).stillDemands (swLeg k) hi = false := hno
  unfold DkBridge.tminOver at hno'
  simp only [tminElapsed, hst, Bool.false_and, Bool.false_eq_true, if_false, State.modBr_self, hdd, hdef, hno', State.modBr_modBr]
  rfl

/-! ### The statement -/

/-- Settles O5: each clause is one lemma above on the command's effect, read at the bridge it names. -/
theorem legDecisions : Obligations.LegDecisions := by
  unfold Obligations.LegDecisions
  refine ⟨fun s b p code hclk hrun hrel hv hact hj hw ht hp => ?fall, fun s b p code hclk hrun hrel hv hact hj hw ht hp hlu => ?rise,
    fun s b p code => ?demand, fun s b p code hl hu => ?within, fun s b p hclk hp ht => ?turnOnHi, fun s b p hclk hp ht => ?turnOnLo,
    fun s b k hst hdd hv hdef hdem => ?dropped⟩
  case fall =>
    have hd : s.dk.br[b].judge p code = demandOf false := if_pos hj
    exact comparatorCrossing_starts_change s b p code false hclk hrun hrel hv hact hd hw ht hp
  case rise =>
    have hd : s.dk.br[b].judge p code = demandOf true := (if_neg (by omega)).trans (if_pos hj)
    exact comparatorCrossing_starts_change s b p code true hclk hrun hrel hv hact hd hw ht hp
  case demand =>
    refine ⟨_, rfl, ?_⟩
    rw [comparatorCrossing_dem]
    exact Vector.getElem_set_self _
  case within =>
    exact ⟨_, congrArg Host.Outcome.next (comparatorCrossing_within s b p code hl hu), s.modBr_frame b _,
      by rw [State.modBr_self], by rw [State.modBr_self], by rw [State.modBr_self], fun c hc => s.modBr_other _ hc⟩
  case turnOnHi =>
    refine ⟨_, (exec_deadTimeElapsed s b p hclk).trans (congrArg _ (legTurnOn_of_pend s b p true hp ht)), rfl, ?_⟩
    obtain ⟨hsw, hpend, hother⟩ := modBr_turnOn s b p true
    exact ⟨congrArg GateSwitch.on hsw, congrArg GateSwitch.blank hsw, hpend, vmod_self _ _ _, hother⟩
  case turnOnLo =>
    refine ⟨_, (exec_deadTimeElapsed s b p hclk).trans (congrArg _ (legTurnOn_of_pend s b p false hp ht)), rfl, ?_⟩
    obtain ⟨hsw, hpend, hother⟩ := modBr_turnOn s b p false
    exact ⟨congrArg GateSwitch.on hsw, hpend, hother⟩
  case dropped =>
    have hno : s.dk.br[b].stillDemands (swLeg k) true = false := by
      rw [DkBridge.stillDemands_independent _ _ _ hv]
      exact decide_eq_false hdem
    refine ⟨_, congrArg Host.Outcome.next (tminElapsed_drops s b k true hst hdd hdef hno), s.modBr_frame b _, ?_⟩
    rw [State.modBr_self]
    exact ⟨Vector.getElem_set_self _, congrArg GateSwitch.tmin (DkBridge.tminOver_self _ k), rfl, DkBridge.tminOver_on _ k⟩

end Sys2Proof.Machine
end

section
/-! PROOFS. A core's register write within one command (07_fabric_and_bench.md, R195-R201): what it leaves when its tag is ready. -/
namespace Sys2Proof.Machine
open Sys2Proof

/-- A new transaction that ends leaves the list of those in flight as it was. -/
theorem erase_append_new (l : List Txn) (t : Txn) (h : t ∉ l) : (l ++ [t]).erase t = l := by
  rw [List.erase_append_right _ h, List.erase_cons_head, List.append_nil]

/-- A tag taken and given back leaves the books of the pools as they were (R195, R199). -/
theorem pools_restored {n : Nat} (v : Vector Pool n) (p : Fin n) (h : 0 < v[p].free) :
    vmod (vmod v p fun q => { q with free := q.free - 1 }) p (fun q => { q with free := q.free + 1 }) = v := by
  have hp : { v[p] with free := v[p].free - 1 + 1 } = v[p] := by rw [Nat.sub_add_cancel h]
  simp only [vmod, Fin.getElem_fin, Vector.getElem_set_self, Vector.set_set]
  exact (congrArg (v.set p) hp).trans (Vector.set_getElem_self p.isLt)

/-- An access that takes its tag, is answered DONE and changes the fabric no further leaves there its response only (R195, R197, R199). -/
theorem txnDone_answered (t : Txn) (s u : State) (hfree : 0 < s.fab.pools[t.pool].free) (hnew : t ∉ s.fab.flight)
    (hu : u.fab = (txnSend t s).fab) :
    txnDone t (busAnswer t .done [] u) = { u with fab := { s.fab with resps := s.fab.resps ++ [(t.id, (.done, []))] } } := by
  simp only [txnDone, busAnswer, State.modPool, hu, txnSend, erase_append_new _ _ hnew, pools_restored _ _ hfree]
  simp

/-- The write of one register that gets its tag, in a domain that is on: the effect is performed while the tag is held. -/
theorem coreRegWrite_performed (s : State) (w : World) (a : Nat) (may : State → Bool) (v : Word) (f : State → State)
    (htag : TagReady s (idPool (coreInit w) w)) (hpd : pdFault s (coreInit w) (BitVec.ofNat 32 a).toNat = false)
    (hmay : may (tagHeld s (coreInit w) w (BitVec.ofNat 32 a) 4 v) = true) :
    coreRegWrite w a may v f s =
      txnDone (txnMake (coreInit w) w .write (BitVec.ofNat 32 a) 4 [v] s) (busAnswer (txnMake (coreInit w) w .write (BitVec.ofNat 32 a) 4 [v] s)
        .done [] (f (tagHeld s (coreInit w) w (BitVec.ofNat 32 a) 4 v))) := by
  obtain ⟨hfree, hwait, -⟩ := htag
  have hpass : txnRefused (busNumber (busFresh s)) (txnMake (coreInit w) w .write (BitVec.ofNat 32 a) 4 [v] s) = none :=
    if_neg (ne_true_of_eq_false hpd)
  have htake : tagFree (busNumber (busFresh s)) (txnMake (coreInit w) w .write (BitVec.ofNat 32 a) 4 [v] s).pool = true := by
    simp only [tagFree, Bool.and_eq_true, decide_eq_true_eq]
    exact ⟨hfree, hwait⟩
  unfold tagHeld at hmay ⊢
  simp only [coreRegWrite, busOnce, hpass, htake, hmay, if_true]
  rfl

/-- DONE raises no access-fault exception (R197). -/
theorem fabAnswered_done (s : State) (i : BitVec 4) :
    fabAnswered s i .done = { s.fab with nextId := s.fab.nextId + 1, resps := [(s.fab.nextId, (.done, []))], excs := [] } := by
  simp [fabAnswered]

/-- A write of a register by a core whose access takes its tag at once: beside the register's effect it leaves its answer only
(R195, R197). -/
theorem coreRegWrite_done (s : State) (w : World) (a : Nat) (may : State → Bool) (v : Word) (f : State → State)
    (htag : TagReady s (idPool (coreInit w) w)) (hpd : pdFault s (coreInit w) (BitVec.ofNat 32 a).toNat = false)
    (hmay : may (tagHeld s (coreInit w) w (BitVec.ofNat 32 a) 4 v) = true) (hf : ∀ x, (f x).fab = x.fab) :
    coreRegWrite w a may v f s =
      { f (tagHeld s (coreInit w) w (BitVec.ofNat 32 a) 4 v) with fab := fabAnswered s (coreInit w) .done } := by
  obtain ⟨hfree, -, hnew⟩ := id htag
  rw [coreRegWrite_performed s w a may v f htag hpd hmay]
  rw [fabAnswered_done]
  exact txnDone_answered (txnMake (coreInit w) w .write (BitVec.ofNat 32 a) 4 [v] s) (busNumber (busFresh s)) _ hfree
    (fun h => hnew _ h rfl) (hf _)

theorem initDomain_coreInit (w : World) : initDomain (coreInit w) = 1 := by
  cases w <;> rfl

/-- A core that may write a block of the core domain writes one of its registers: the register's effect and the answer, nothing else
(R36, R197). -/
theorem blockWrite_done (s : State) (w : World) (b ofs : Nat) (v a : Word) (f : State → State) (hmay : CoreMayWrite s w b)
    (ha : BitVec.ofNat 32 (0x40000000 + 0x10000 * b + ofs) = a) (hdom : targetDomain (target a.toNat) = 1) (hf : ∀ x, (f x).fab = x.fab) :
    blockWrite w b ofs v f s = { f (tagHeld s (coreInit w) w a 4 v) with fab := fabAnswered s (coreInit w) .done } := by
  subst ha
  obtain ⟨hon, hworld, htag⟩ := hmay
  have hpd : pdFault s (coreInit w) (BitVec.ofNat 32 (0x40000000 + 0x10000 * b + ofs)).toNat = false := by
    have hup : domDown s 1 = false := decide_eq_false (not_not.mpr hon)
    simp only [pdFault, hdom, initDomain_coreInit, hup, Bool.or_self]
  have hwritable : blockWritable s w b = true := by simpa [blockWritable] using hworld
  exact coreRegWrite_done s w _ _ v f htag hpd hwritable hf

end Sys2Proof.Machine
end

section
/-! PROOFS. Field outputs (15_field_io.md, R426-R430, R442-R444): what an update of one output writes, what a command and a short make of it,
and the effect of each FO command. -/
namespace Sys2Proof.Machine
open Sys2Proof

/-! ### An update of one output -/

/-- Nothing but the field outputs has changed. -/
def OutputsOnly (s t : State) : Prop := t = { s with fio := { s.fio with out := t.fio.out } }

theorem OutputsOnly.trans {s t u : State} (h : OutputsOnly s t) (k : OutputsOnly t u) : OutputsOnly s u := by
  unfold OutputsOnly at h k ⊢
  rw [k, h]

theorem OutputsOnly.foldl {α : Type} {f : State → α → State} (hf : ∀ s a, OutputsOnly s (f s a)) (l : List α) (s : State) :
    OutputsOnly s (l.foldl f s) :=
  List.foldlRecOn (motive := OutputsOnly s) l f rfl fun t h a _ => h.trans (hf t a)

/-- An update of the outputs while an access holds its tag, once the access is over. -/
theorem OutputsOnly.with_fab {s u t : State} (hu : u = { s with fab := u.fab }) (h : OutputsOnly u t) (x : Fab) :
    { t with fab := x } = { s with fio := { s.fio with out := t.fio.out }, fab := x } := by
  rw [h, hu]

theorem State.modFo_outputsOnly (s : State) (n : Fin 32) (f : FoOut → FoOut) : OutputsOnly s (s.modFo n f) := rfl

theorem State.modFo_self (s : State) (n : Fin 32) (f : FoOut → FoOut) : (s.modFo n f).fio.out[n] = f s.fio.out[n] :=
  vmod_self s.fio.out n f

theorem State.modFo_other (s : State) {n m : Fin 32} (f : FoOut → FoOut) (h : m ≠ n) : (s.modFo n f).fio.out[m] = s.fio.out[m] :=
  vmod_other s.fio.out n m f h.symm

/-! ### Commands -/

/-- Of the outputs only the value last written to an output itself bears on its command (R425). -/
theorem foCommand_modFo (s : State) (n : Fin 32) (f : FoOut → FoOut) (hy : (f s.fio.out[n]).y = s.fio.out[n].y) :
    foCommand (s.modFo n f) n = foCommand s n := by
  have hself : (s.modFo n f).fio.out[n].y = s.fio.out[n].y := (congrArg FoOut.y (s.modFo_self n f)).trans hy
  unfold foCommand
  rw [hself]
  rfl

/-- The state of an output that was off and takes its command: off, PWM or on (R426). -/
theorem FoOut.drive_st (c : FoCfg) (now duty : Nat) (o : FoOut) (h : o.st = 0) :
    (o.drive c now duty).st = if duty = 0 then 0 else if c.pwmHz ≠ 0 ∧ duty < 1024 then 2 else 1 := by
  rw [FoOut.drive, if_neg (by omega)]
  rfl

/-- An output that was off takes its command as a fresh turn-on (R426, R428). -/
theorem FoOut.drive_fresh (c : FoCfg) (now duty : Nat) (o : FoOut) (h : o.st = 0) :
    (o.drive c now duty).duty = duty ∧ (o.drive c now duty).short = o.short ∧ (duty ≠ 0 → (o.drive c now duty).onAt = now) := by
  rw [FoOut.drive, if_neg (by omega)]
  refine ⟨rfl, rfl, fun hd => if_pos (decide_eq_true ⟨h, ?_⟩)⟩
  rw [if_neg hd]
  split <;> decide

/-! ### FO_RETRY and FO_CLEAR -/

/-- An output leaves its retry wait or LATCHED without its short and takes its command afresh; that a retry too ends FO_SHORT is the
model's choice (R428, log entry 36). -/
def rearmed (s : State) (n : Fin 32) : FoOut :=
  FoOut.drive s.img.fo[n] s.now (foCommand s n) { s.fio.out[n] with st := 0, short := false }

theorem rearmed_spec (s : State) (n : Fin 32) :
    (rearmed s n).duty = foCommand s n ∧ (rearmed s n).short = false ∧ (rearmed s n).st ≠ 4 ∧
      (foCommand s n ≠ 0 → (rearmed s n).onAt = s.now ∧ ((rearmed s n).st = 1 ∨ (rearmed s n).st = 2)) := by
  obtain ⟨hduty, hshort, hon⟩ :=
    FoOut.drive_fresh s.img.fo[n] s.now (foCommand s n) { s.fio.out[n] with st := 0, short := false } rfl
  have hst := FoOut.drive_st s.img.fo[n] s.now (foCommand s n) { s.fio.out[n] with st := 0, short := false } rfl
  refine ⟨hduty, hshort, ?_, fun hd => ⟨hon hd, ?_⟩⟩
  · rw [rearmed, hst]
    split <;> [skip; split] <;> simp
  · rw [rearmed, hst, if_neg hd]
    split <;> simp

/-- A re-armed output writes itself only. -/
theorem foRefresh_rearm (s : State) (n : Fin 32) :
    foRefresh n (s.modFo n fun o => { o with st := 0, short := false }) = s.modFo n fun _ => rearmed s n := by
  have hcmd : foCommand (s.modFo n fun o => { o with st := 0, short := false }) n = foCommand s n := foCommand_modFo s n _ rfl
  unfold foRefresh
  rw [hcmd]
  simp [State.modFo, vmod, rearmed]

theorem foRetry_of_wait (s : State) (n : Fin 32) (hst : s.fio.out[n].st = 3) (hw : s.sys.mode ≠ .watch) :
    foRetry n s = s.modFo n fun _ => rearmed s n :=
  (if_pos ⟨hst, hw⟩).trans (foRefresh_rearm s n)

/-- FO_CLEAR names the output, finds it LATCHED, and the writer may clear it (R428, R429). -/
def clears (s : State) (w : World) (mask : Word) (n : Fin 32) : Prop :=
  mask.getLsbD n = true ∧ s.fio.out[n].st = 4 ∧ (w = .S ∨ foOwnedS s n = false)

theorem clears_iff (s : State) (w : World) (mask : Word) (n : Fin 32) :
    clears s w mask n ↔ (mask.getLsbD n && decide (s.fio.out[n].st = 4) && !(decide (w = .NS) && foOwnedS s n)) = true := by
  cases w <;> simp [clears, and_assoc]

theorem foClearOne_clears (s : State) (w : World) (mask : Word) (n : Fin 32) (h : clears s w mask n) :
    foClearOne w mask s n = s.modFo n fun _ => rearmed s n :=
  (if_pos ((clears_iff s w mask n).mp h)).trans (foRefresh_rearm s n)

theorem foClearOne_keeps (s : State) (w : World) (mask : Word) (n : Fin 32) (h : ¬clears s w mask n) : foClearOne w mask s n = s :=
  if_neg (mt (clears_iff s w mask n).mpr h)

theorem foClearOne_outputsOnly (s : State) (w : World) (mask : Word) (n : Fin 32) : OutputsOnly s (foClearOne w mask s n) := by
  by_cases h : clears s w mask n
  · rw [foClearOne_clears s w mask n h]
    exact s.modFo_outputsOnly n _
  · rw [foClearOne_keeps s w mask n h]
    rfl

theorem foClearOne_other (s : State) (w : World) (mask : Word) {n m : Fin 32} (hm : m ≠ n) :
    (foClearOne w mask s n).fio.out[m] = s.fio.out[m] := by
  by_cases h : clears s w mask n
  · rw [foClearOne_clears s w mask n h, s.modFo_other _ hm]
  · rw [foClearOne_keeps s w mask n h]

/-- A pass over other outputs leaves an output. -/
theorem foldl_foClearOne_other (w : World) (mask : Word) (n : Fin 32) (l : List (Fin 32)) (hn : n ∉ l) (s : State) :
    (l.foldl (foClearOne w mask) s).fio.out[n] = s.fio.out[n] :=
  List.foldlRecOn (motive := fun t : State => t.fio.out[n] = s.fio.out[n]) l _ rfl fun t ht m hm =>
    (foClearOne_other t w mask (ne_of_mem_of_not_mem hm hn).symm).trans ht

/-- In the pass over all outputs each one is dealt with once, as it stood at first. -/
theorem foClearDo_out (s : State) (w : World) (mask : Word) (n : Fin 32) :
    ∃ u, OutputsOnly s u ∧ u.fio.out[n] = s.fio.out[n] ∧ (foClearDo w mask s).fio.out[n] = (foClearOne w mask u n).fio.out[n] := by
  obtain ⟨before, after, hl⟩ := List.append_of_mem (List.mem_finRange n)
  have hnd : n ∉ before ++ after := (List.nodup_cons.mp (List.nodup_middle.mp (hl ▸ List.nodup_finRange 32))).1
  refine ⟨before.foldl (foClearOne w mask) s, OutputsOnly.foldl (fun t m => foClearOne_outputsOnly t w mask m) before s,
    foldl_foClearOne_other w mask n before (fun h => hnd (List.mem_append_left _ h)) s, ?_⟩
  rw [foClearDo, fins, hl, List.foldl_append, List.foldl_cons]
  exact foldl_foClearOne_other w mask n after (fun h => hnd (List.mem_append_right _ h)) _

theorem foClearDo_outputsOnly (s : State) (w : World) (mask : Word) : OutputsOnly s (foClearDo w mask s) :=
  OutputsOnly.foldl (fun t n => foClearOne_outputsOnly t w mask n) _ s

/-- Who owns an output, and for which world, does not depend on the outputs. -/
theorem OutputsOnly.clears_iff {s u : State} (h : OutputsOnly s u) (w : World) (mask : Word) (n : Fin 32)
    (hn : u.fio.out[n] = s.fio.out[n]) : clears u w mask n ↔ clears s w mask n := by
  have howned : foOwnedS u n = foOwnedS s n := by
    rw [h]
    rfl
  rw [clears, clears, hn, howned]

/-- FO_CLEAR ends LATCHED and FO_SHORT of the outputs it clears (R428). -/
theorem foClearDo_cleared (s : State) (w : World) (mask : Word) (n : Fin 32) (h : clears s w mask n) :
    (foClearDo w mask s).fio.out[n].st ≠ 4 ∧ (foClearDo w mask s).fio.out[n].short = false := by
  obtain ⟨u, honly, hn, hout⟩ := foClearDo_out s w mask n
  obtain ⟨-, hshort, hst, -⟩ := rearmed_spec u n
  rw [hout, foClearOne_clears u w mask n ((honly.clears_iff w mask n hn).mpr h), State.modFo_self]
  exact ⟨hst, hshort⟩

/-- FO_CLEAR leaves every other output. -/
theorem foClearDo_kept (s : State) (w : World) (mask : Word) (n : Fin 32) (h : ¬clears s w mask n) :
    (foClearDo w mask s).fio.out[n] = s.fio.out[n] := by
  obtain ⟨u, honly, hn, hout⟩ := foClearDo_out s w mask n
  rw [hout, foClearOne_keeps u w mask n (mt (honly.clears_iff w mask n hn).mp h), hn]

/-- FO_CLEAR by a core that may write it: the outputs it clears and the answer, nothing else. -/
theorem exec_foClear (s : State) (w : World) (mask : Word) (hmay : CoreMayWrite s w 10) :
    exec (.foClear w mask) s =
      .next { s with
        fio := { s.fio with out := (foClearDo w mask (tagHeld s (coreInit w) w 0x400A0200#32 4 mask)).fio.out }
        fab := fabAnswered s (coreInit w) .done } := by
  have hfab (x : State) : (foClearDo w mask x).fab = x.fab := by
    rw [foClearDo_outputsOnly x w mask]
  have hdone := blockWrite_done s w 10 0x200 mask 0x400A0200#32 (foClearDo w mask) hmay (by decide) (by decide) hfab
  have hheld : tagHeld s (coreInit w) w 0x400A0200#32 4 mask = { s with fab := (tagHeld s (coreInit w) w 0x400A0200#32 4 mask).fab } := rfl
  exact congrArg Host.Outcome.next (hdone.trans (OutputsOnly.with_fab hheld (foClearDo_outputsOnly _ w mask) _))

/-! ### FO_MEASURE -/

theorem foMeasure_out (s : State) (cur : Vector (Option (BitVec 12)) 32) (n : Fin 32) :
    (foMeasure cur s).fio.out[n] = s.fio.out[n].measure s.img.fo[n] s.now cur[n] := by
  simp [foMeasure]

/-- A measurement of an output writes its current only (R427). -/
theorem FoOut.measure_frame (c : FoCfg) (now : Nat) (i : Option (BitVec 12)) (o : FoOut) :
    o.measure c now i = { o with i := (o.measure c now i).i } := by
  cases i with
  | none => rfl
  | some x =>
    unfold FoOut.measure
    dsimp only
    split <;> rfl

/-- Without PWM a measured current is taken up to the output's ceiling, the model's choice (Table 15.2, log entry 36). -/
theorem FoOut.measure_steady (c : FoCfg) (now : Nat) (x : BitVec 12) (o : FoOut) (h : o.st ≠ 2) :
    (o.measure c now (some x)).i = min x.toNat (foCeiling c now o) := by
  simp [FoOut.measure, h]

/-! ### Field events -/

/-- A field event is recorded in FIO_EVT and in the channels concerned (R442). -/
theorem fieldEvent_frame (code : Code) (index : Nat) (p : Slot → Bool) (s : State) :
    fieldEvent code index p s =
      { s with
        fio := { s.fio with evIndex := index, evCode := code, evValid := true }
        chn := { s.chn with slots := (fieldEvent code index p s).chn.slots } } := rfl

theorem fieldEvent_fault (code : Code) (index : Nat) (p : Slot → Bool) (s : State) (i : Fin 256) (hst : s.chn.slots[i].st ≠ .free)
    (hp : p s.chn.slots[i] = true) : (fieldEvent code index p s).chn.slots[i].fault = code := by
  simp only [Fin.getElem_fin] at hst hp
  simp [fieldEvent, hst, hp]

/-! ### FO_SHORT -/

/-- A short that counts, outside WATCH: the output is shut off and the event recorded (R428, R442). -/
theorem foShort_counts (s : State) (n : Fin 32) (hot : Bool) (hon : s.fio.out[n].st = 1 ∨ s.fio.out[n].st = 2)
    (hcounts : hot = true ∨ inInrush s n = false) (hw : s.sys.mode ≠ .watch) :
    foShort n hot s = fieldEvent cFoShort n.val (fun c => c.fos.getLsbD n) (s.modFo n (FoOut.shorted s.img.fo[n] s.now)) := by
  have hcond : hot = true ∨ (!inInrush s n) = true := hcounts.imp_right fun h => by rw [h]; rfl
  exact (if_pos ⟨hon, hcond⟩).trans (if_neg hw)

/-! ### OPEN_LOAD_OBSERVE -/

/-- The third bad observation in a row, by a method that applies, raises LAMP_OPEN (R430). -/
theorem FoOut.observe_third_bad (c : FoCfg) (now m : Nat) (o : FoOut) (hm : m ≠ 0) (hcnt : o.openCnt = 2) :
    (o.observe c now m true).opened = true ∧ (o.observe c now m true).untested = false := by
  have hthird : incSat 3 (if m = 3 then o.stretch c now else o).openCnt = 3 := by
    rw [show (if m = 3 then o.stretch c now else o).openCnt = 2 by split <;> exact hcnt]
    rfl
  unfold FoOut.observe
  rw [if_neg hm]
  exact ⟨if_pos hthird, rfl⟩

/-- An observation is taken of an output in use, while VFO is good, outside WATCH and outside the period of a short; one that raises
LAMP_OPEN is recorded (R430, R442-R444). -/
theorem openLoadObserve_raises (s : State) (n : Fin 32) (bad : Bool) (hmode : s.img.fo[n].mode ≠ 0) (hv : s.fio.vfoLow = false)
    (hw : s.sys.mode ≠ .watch) (hs : s.fio.out[n].shortNow s.img.fo[n] s.now = false) (hold : s.fio.out[n].opened = false)
    (hnew : (s.fio.out[n].observe s.img.fo[n] s.now (openMethod s.img.fo[n] s.fio.out[n]) bad).opened = true) :
    openLoadObserve n bad s = fieldEvent cLampOpen n.val (fun c => c.fos.getLsbD n) (s.modFo n fun _ =>
      s.fio.out[n].observe s.img.fo[n] s.now (openMethod s.img.fo[n] s.fio.out[n]) bad) := by
  have htaken : ¬(s.img.fo[n].mode = 0 ∨ s.fio.vfoLow = true ∨ s.sys.mode = .watch ∨ s.fio.out[n].shortNow s.img.fo[n] s.now = true) := by
    simp only [hmode, hv, hw, hs, Bool.false_eq_true, or_self, not_false_eq_true]
  refine (if_neg htaken).trans (if_pos ?_)
  simp only [hnew, hold, Bool.not_false, Bool.and_self]

/-- No observation is taken while VFO is low or in the period of a short (R443, R444). -/
theorem openLoadObserve_suspended (s : State) (n : Fin 32) (bad : Bool)
    (h : s.fio.vfoLow = true ∨ s.fio.out[n].shortNow s.img.fo[n] s.now = true) : openLoadObserve n bad s = s :=
  if_pos (.inr (h.imp_right .inr))

/-! ### The statement -/

/-- Settles O40: each clause is the effect of its command, by the lemmas above, read at the output it names. -/
theorem fieldOutputs : Obligations.FieldOutputs := by
  unfold Obligations.FieldOutputs
  refine ⟨fun s cur => ?measure, fun s n hot hon hcounts hw => ?short, fun s n hot h1 h2 => ?ignored, fun s n hst hw => ?retry,
    fun s n hon => ?retryReset, fun s w mask hmay => ?clear, fun s n hmode hv hw hs hm hcnt hold => ?raise,
    fun s n bad h => ?suspended, fun s v => ⟨rfl, rfl⟩⟩
  case measure =>
    refine ⟨foMeasure cur s, rfl, rfl, fun n => ?_⟩
    rw [foMeasure_out]
    refine ⟨FoOut.measure_frame .., fun hnone => ?_, fun hst x hx => ?_⟩
    · rw [hnone]
      rfl
    · rw [hx, FoOut.measure_steady _ _ _ _ hst]
  case short =>
    refine ⟨_, congrArg Host.Outcome.next (foShort_counts s n hot hon hcounts hw), rfl, ?_⟩
    rw [fieldEvent_frame]
    dsimp only
    rw [State.modFo_self]
    exact ⟨rfl, rfl, rfl, rfl, rfl, rfl, rfl, fun m hm => s.modFo_other _ hm, fun i hst hfo => fieldEvent_fault _ _ _ (s.modFo n _) i hst hfo⟩
  case ignored =>
    exact congrArg Host.Outcome.next (if_neg fun h => h.1.elim h1 h2)
  case retry =>
    obtain ⟨hduty, hshort, -, hon⟩ := rearmed_spec s n
    refine ⟨_, congrArg Host.Outcome.next (foRetry_of_wait s n hst hw), rfl, ?_⟩
    rw [State.modFo_self]
    exact ⟨hshort, hduty, hon, fun m hm => s.modFo_other _ hm⟩
  case retryReset =>
    exact ⟨_, congrArg Host.Outcome.next (if_pos hon), rfl, s.modFo_self n _, fun m hm => s.modFo_other _ hm⟩
  case clear =>
    have hcl (n : Fin 32) : clears (tagHeld s (coreInit w) w 0x400A0200#32 4 mask) w mask n ↔ clears s w mask n := Iff.rfl
    refine ⟨_, exec_foClear s w mask hmay, rfl, fun n => ⟨fun h => ?_, fun h => ?_⟩⟩
    · exact foClearDo_cleared (tagHeld s (coreInit w) w 0x400A0200#32 4 mask) w mask n ((hcl n).mpr h)
    · refine foClearDo_kept (tagHeld s (coreInit w) w 0x400A0200#32 4 mask) w mask n (mt (hcl n).mp ?_)
      rintro ⟨hmask, hlatched, hown⟩
      rcases h with h | h | ⟨rfl, hs⟩
      · exact ne_true_of_eq_false h hmask
      · exact h hlatched
      · exact hown.elim (by decide) (ne_false_of_eq_true hs)
  case raise =>
    obtain ⟨hopened, htested⟩ := FoOut.observe_third_bad s.img.fo[n] s.now _ s.fio.out[n] hm hcnt
    refine ⟨_, congrArg Host.Outcome.next (openLoadObserve_raises s n true hmode hv hw hs hold hopened), rfl, ?_⟩
    rw [fieldEvent_frame]
    dsimp only
    rw [State.modFo_self]
    exact ⟨hopened, htested, rfl, rfl⟩
  case suspended =>
    exact congrArg Host.Outcome.next (openLoadObserve_suspended s n bad h)

end Sys2Proof.Machine
end

section
/-! PROOFS. Fan supervision (15_field_io.md, R432-R435): what the ship-power manager leaves when a fan stalls or recovers, what an update of
one fan writes, and the effect of each fan command. -/
namespace Sys2Proof.Machine
open Sys2Proof

/-! ### What the ship-power manager leaves -/

theorem SafetyOnly.trans {s t u : State} (h : SafetyOnly s t) (k : SafetyOnly t u) : SafetyOnly s u := by
  unfold SafetyOnly at h k ⊢
  rw [k, h]

theorem SafetyOnly.foldl {α : Type} {f : State → α → State} (hf : ∀ s a, SafetyOnly s (f s a)) (l : List α) (s : State) :
    SafetyOnly s (l.foldl f s) :=
  List.foldlRecOn (motive := SafetyOnly s) l f rfl fun t h a _ => h.trans (hf t a)

/-- A non-safety SS1 touches the safety monitor, the brake counters and the channels (R301). -/
theorem nonsafeSs1_safetyOnly (n : Fin 4) (s : State) : SafetyOnly s (nonsafeSs1 n s) := by
  unfold nonsafeSs1
  split <;> rfl

theorem setGrant_safetyOnly (s : State) (g : Fin 256 × Nat) : SafetyOnly s (setGrant s g) := by
  unfold setGrant
  dsimp only
  split <;> rfl

theorem critStops_safetyOnly (s : State) : SafetyOnly s (critStops s) := by
  refine SafetyOnly.foldl (fun t i => ?_) _ s
  dsimp only
  split
  · rfl
  · split
    · split
      · exact nonsafeSs1_safetyOnly _ t
      · rfl
    · split <;> rfl

theorem showStore_frame (s : State) : ∃ p, showStore s = { s with spm := p } := by
  unfold showStore
  split <;> exact ⟨_, rfl⟩

/-- The allocation touches beside its own registers what a non-safety SS1 touches (R341-R344). -/
theorem spmAlloc_safetyOnly (s : State) : ∃ p, SafetyOnly { s with spm := p } (spmAlloc s) := by
  obtain ⟨p, hp⟩ := showStore_frame s
  unfold spmAlloc
  rw [hp]
  dsimp only
  split
  · exact ⟨_, (SafetyOnly.foldl setGrant_safetyOnly _ _).trans (critStops_safetyOnly _)⟩
  · exact ⟨_, SafetyOnly.foldl setGrant_safetyOnly _ _⟩

theorem spmRefresh_safetyOnly (s : State) : ∃ p, SafetyOnly { s with spm := p } (spmRefresh s) := by
  obtain ⟨p, hp⟩ := showStore_frame s
  unfold spmRefresh
  dsimp only
  split
  · exact ⟨p, hp ▸ rfl⟩
  · obtain ⟨q, hq⟩ := spmAlloc_safetyOnly (showStore s)
    exact ⟨q, by simpa only [hp] using hq⟩

/-- Without a ship-power section the manager allocates nothing (R337). -/
theorem spmRefresh_unmanaged (s : State) (h : s.img.spm = none) : spmRefresh s = showStore s := by
  obtain ⟨p, hp⟩ := showStore_frame s
  refine if_pos ?_
  rw [hp]
  simp only [spmShown, h]

/-! ### An update of one fan -/

theorem State.modFan_self (s : State) (n : Fin 8) (f : FanUnit → FanUnit) : (s.modFan n f).fan[n] = f s.fan[n] :=
  vmod_self s.fan n f

theorem State.modFan_other (s : State) {n m : Fin 8} (f : FanUnit → FanUnit) (h : m ≠ n) : (s.modFan n f).fan[m] = s.fan[m] :=
  vmod_other s.fan n m f h.symm

theorem State.modFan_modFan (s : State) (n : Fin 8) (f g : FanUnit → FanUnit) :
    (s.modFan n f).modFan n g = s.modFan n fun x => g (f x) := by
  simp [State.modFan, vmod]

/-- Of the fans only the duty held and the value written last to a fan itself bear on its command (R425). -/
theorem fanCommand_modFan (s : State) (n : Fin 8) (f : FanUnit → FanUnit) (hcmd : (f s.fan[n]).cmd = s.fan[n].cmd)
    (hy : (f s.fan[n]).y = s.fan[n].y) : fanCommand (s.modFan n f) n = fanCommand s n := by
  unfold fanCommand
  rw [(congrArg FanUnit.y (s.modFan_self n f)).trans hy, (congrArg FanUnit.cmd (s.modFan_self n f)).trans hcmd]
  rfl

/-- The duty of a fan in a state: full in a kick and in FAN_STALL, else as commanded (R433). -/
def dutyIn (st : FanState) (cmd : Nat) : Nat := if st = .kick ∨ st = .stall then 1024 else cmd

/-- A supervised fan that takes a command stays in its state (R432, R433). -/
theorem FanUnit.take_supervised (c : FanCfg) (cmd : Nat) (f : FanUnit) (huse : c.use = true) (hcmd : c.checkDuty ≤ cmd) (hst : f.st ≠ .off) :
    f.take c cmd = { f with cmd := cmd, duty := dutyIn f.st cmd } := by
  simp only [FanUnit.take, huse, Bool.not_true, Bool.false_eq_true, if_false, if_neg (Nat.not_lt.mpr hcmd), hst, or_self, dutyIn]

/-- A fan without a supply output writes itself only when it takes its command (R431). -/
theorem fanRefresh_unsupplied (s : State) (n : Fin 8) (h : s.img.fan[n].supplyFo = none) :
    fanRefresh n s = s.modFan n (FanUnit.take s.img.fan[n] (fanCommand s n)) := by
  unfold fanRefresh
  dsimp only
  rw [h]
  rfl

/-- A supervised fan that is changed and takes its command again. -/
theorem fanRefresh_modFan (s : State) (n : Fin 8) (f : FanUnit → FanUnit) (hon : FanOn s n) (hcmd : (f s.fan[n]).cmd = s.fan[n].cmd)
    (hy : (f s.fan[n]).y = s.fan[n].y) (hst : (f s.fan[n]).st ≠ .off) :
    fanRefresh n (s.modFan n f) =
      s.modFan n fun x => { f x with cmd := fanCommand s n, duty := dutyIn (f x).st (fanCommand s n) } := by
  obtain ⟨huse, hcheck, hsupply⟩ := hon
  rw [fanRefresh_unsupplied (s.modFan n f) n hsupply, fanCommand_modFan s n f hcmd hy, State.modFan_modFan]
  have htake := FanUnit.take_supervised s.img.fan[n] (fanCommand s n) (f s.fan[n]) huse hcheck hst
  simp only [State.modFan, vmod, htake]

/-- A change that keeps its command and value leaves a fan supervised. -/
theorem FanOn.modFan {s : State} {n : Fin 8} (hon : FanOn s n) (f : FanUnit → FanUnit) (hcmd : (f s.fan[n]).cmd = s.fan[n].cmd)
    (hy : (f s.fan[n]).y = s.fan[n].y) : FanOn (s.modFan n f) n := by
  unfold FanOn at hon ⊢
  rw [fanCommand_modFan s n f hcmd hy]
  exact hon

/-! ### FAN_STALL -/

/-- A fan that stalls is held at full duty, and the event is recorded; beyond that the manager and the stop of a pair touch their own
parts only (R338, R433, R435). -/
theorem fanStall_frame (s : State) (n : Fin 8) (hon : FanOn s n) :
    ∃ p, SafetyOnly
      { fieldEvent cFanStall n.val (fun c => c.fns.getLsbD n)
          (s.modFan n fun x => { x with st := .stall, cmd := fanCommand s n, duty := 1024 }) with spm := p }
      (fanStall n s) := by
  have hheld := fanRefresh_modFan s n (fun x => { x with st := .stall }) hon rfl rfl nofun
  unfold fanStall
  rw [hheld]
  obtain ⟨p, hp⟩ := spmRefresh_safetyOnly (fieldEvent cFanStall n.val (fun c => c.fns.getLsbD n)
    (s.modFan n fun x => { x with st := .stall, cmd := fanCommand s n, duty := 1024 }))
  refine ⟨p, hp.trans (SafetyOnly.foldl (fun t a => ?_) _ _)⟩
  split
  · exact nonsafeSs1_safetyOnly a t
  · rfl

theorem fanStall_spec (s : State) (n : Fin 8) (hon : FanOn s n) :
    (fanStall n s).fan[n] = { s.fan[n] with st := .stall, cmd := fanCommand s n, duty := 1024 } ∧
      (fanStall n s).fio.evCode = 0x0703 ∧ (fanStall n s).fio.evIndex = n.val ∧ (fanStall n s).mem = s.mem ∧
      (fanStall n s).le = s.le ∧ (fanStall n s).dk = s.dk ∧ (fanStall n s).img = s.img := by
  obtain ⟨p, hp⟩ := fanStall_frame s n hon
  rw [hp]
  exact ⟨s.modFan_self n _, rfl, rfl, rfl, rfl, rfl, rfl⟩

/-! ### The fan commands -/

/-- A tach pulse that counts, of a supervised fan in spin-up or a kick: it runs as commanded (R432, R433). -/
theorem tachPulse_ends_spinUp (s : State) (n : Fin 8) (width : Nat) (p : Option Nat) (hon : FanOn s n) (hw : 50 ≤ width)
    (hst : s.fan[n].st = .spinUp ∨ s.fan[n].st = .kick) :
    ∃ f : FanUnit → FanUnit, tachPulse n width p s = s.modFan n f ∧ (f s.fan[n]).st = .running ∧
      (f s.fan[n]).duty = fanCommand s n ∧ (p = none → (f s.fan[n]).rpm = s.fan[n].rpm) := by
  have hruns : (if s.fan[n].st = .spinUp ∨ s.fan[n].st = .kick then FanState.running else s.fan[n].st) = .running := if_pos hst
  refine ⟨_, (if_neg (by omega)).trans (fanRefresh_modFan s n _ hon rfl rfl ?_), hruns, ?_, ?_⟩
  · exact ne_of_eq_of_ne hruns nofun
  · dsimp only
    rw [hruns]
    rfl
  · rintro rfl
    rfl

/-- A spin time-out with kicks left kicks the fan at full duty (R433). -/
theorem fanSpinTimeout_kicks (s : State) (n : Fin 8) (hon : FanOn s n) (hst : s.fan[n].st = .spinUp) (hk : s.fan[n].kicks < 3) :
    fanSpinTimeout n s =
      s.modFan n fun x => { x with st := .kick, kicks := x.kicks + 1, cmd := fanCommand s n, duty := 1024 } :=
  (if_neg (not_not.mpr hst)).trans ((if_pos hk).trans (fanRefresh_modFan s n _ hon rfl rfl nofun))

/-- A spin time-out after the third kick stalls the fan (R433). -/
theorem fanSpinTimeout_stalls (s : State) (n : Fin 8) (hst : s.fan[n].st = .spinUp) (hk : 3 ≤ s.fan[n].kicks) :
    fanSpinTimeout n s = fanStall n s :=
  (if_neg (not_not.mpr hst)).trans (if_neg (by omega))

/-- At the end of a kick the fan spins up as commanded (R433). -/
theorem fanKickEnd_returns (s : State) (n : Fin 8) (hon : FanOn s n) (hst : s.fan[n].st = .kick) :
    fanKickEnd n s = s.modFan n fun x => { x with st := .spinUp, cmd := fanCommand s n, duty := fanCommand s n } :=
  (if_pos hst).trans (fanRefresh_modFan s n _ hon rfl rfl nofun)

/-- A running fan too slow for 2 s, without a supply output whose current would show that it turns, stalls (R434). -/
theorem fanTachTimeout_stalls (s : State) (n : Fin 8) (rpm : BitVec 16) (hsupply : s.img.fan[n].supplyFo = none)
    (hst : s.fan[n].st = .running) (hslow : rpm.toNat < s.img.fan[n].minRpm) :
    fanTachTimeout n rpm s = fanStall n (s.modFan n fun x => { x with rpm := rpm.toNat }) := by
  have hno : supplyRuns (s.modFan n fun x => { x with rpm := rpm.toNat }) n = false := by
    simp only [supplyRuns, State.modFan_img, hsupply]
  have hrun : ¬(s.fan[n].st ≠ .running ∨ s.img.fan[n].minRpm ≤ rpm.toNat) := by
    rintro (h | h)
    · exact h hst
    · omega
  exact (if_neg hrun).trans (if_neg (ne_true_of_eq_false hno))

/-- A fan back at its speed for 5 s runs as commanded; without a ship-power section only the store registers follow (R346, R435). -/
theorem fanRecover_runs (s : State) (n : Fin 8) (rpm : BitVec 16) (hon : FanOn s n) (hspm : s.img.spm = none)
    (hst : s.fan[n].st = .stall ∨ s.fan[n].st = .tachLost) (hfast : s.img.fan[n].minRpm ≤ rpm.toNat) :
    fanRecover n rpm s =
      showStore (s.modFan n fun x => { x with rpm := rpm.toNat, st := .running, cmd := fanCommand s n, duty := fanCommand s n }) := by
  have hruns := fanRefresh_modFan s n (fun x => { x with rpm := rpm.toNat, st := .running }) hon rfl rfl nofun
  exact (if_pos ⟨hst, hfast⟩).trans ((congrArg spmRefresh hruns).trans (spmRefresh_unmanaged _ hspm))

/-! ### The statement -/

/-- Settles O41: each clause is the effect of its command, by the lemmas above, read at the fan it names. -/
theorem fanSupervision : Obligations.FanSupervision := by
  unfold Obligations.FanSupervision
  refine ⟨fun s n width p hon hw hst => ?pulse, fun s n width p hw => ?glitch, fun s n hon hst hk => ?kick, fun s n hon hst hk => ?spent,
    fun s n hon hst => ?kickEnd, fun s n rpm hon hst hslow => ?slow, fun s n rpm hon hspm hst hfast => ?recover⟩
  case pulse =>
    obtain ⟨f, hf, hrun, hduty, hrpm⟩ := tachPulse_ends_spinUp s n width p hon hw hst
    refine ⟨_, congrArg Host.Outcome.next hf, rfl, ?_⟩
    rw [State.modFan_self]
    exact ⟨hrun, hduty, hrpm, fun m hm => s.modFan_other f hm⟩
  case glitch => exact congrArg Host.Outcome.next (if_pos hw)
  case kick =>
    refine ⟨_, congrArg Host.Outcome.next (fanSpinTimeout_kicks s n hon hst hk), rfl, ?_⟩
    rw [State.modFan_self]
    exact ⟨rfl, rfl, rfl, fun m hm => s.modFan_other _ hm⟩
  case spent =>
    obtain ⟨hfan, hcode, hindex, hrest⟩ := fanStall_spec s n hon
    refine ⟨_, congrArg Host.Outcome.next (fanSpinTimeout_stalls s n hst hk), ?_⟩
    rw [hfan]
    exact ⟨rfl, rfl, hcode, hindex, hrest⟩
  case kickEnd =>
    refine ⟨_, congrArg Host.Outcome.next (fanKickEnd_returns s n hon hst), rfl, ?_⟩
    rw [State.modFan_self]
    exact ⟨rfl, rfl, rfl⟩
  case slow =>
    obtain ⟨-, -, hsupply⟩ := id hon
    obtain ⟨hfan, hcode, -, hrest⟩ := fanStall_spec _ n (hon.modFan (fun x => { x with rpm := rpm.toNat }) rfl rfl)
    refine ⟨_, congrArg Host.Outcome.next (fanTachTimeout_stalls s n rpm hsupply hst hslow), ?_⟩
    rw [hfan, State.modFan_self]
    exact ⟨rfl, rfl, rfl, hcode, hrest⟩
  case recover =>
    obtain ⟨q, hq⟩ := showStore_frame
      (s.modFan n fun x => { x with rpm := rpm.toNat, st := .running, cmd := fanCommand s n, duty := fanCommand s n })
    refine ⟨_, congrArg Host.Outcome.next (fanRecover_runs s n rpm hon hspm hst hfast), ?_⟩
    rw [hq]
    refine ⟨rfl, ?_⟩
    dsimp only
    rw [State.modFan_self]
    exact ⟨rfl, rfl, rfl⟩

end Sys2Proof.Machine
end

section
/-! PROOFS. The confirmation of a sag (19_holdup_and_save.md, R523-R528, R537, R543, R546): what a channel that goes HELD writes while the
drive outputs are off, what every confirmed sag leaves, and what the core domains leave as they go off. -/
namespace Sys2Proof.Machine
open Sys2Proof

/-! ### Channels that go HELD while the drive outputs are off -/

/-- Nothing has changed but the channels with their records and board words, the ports they write, and the ship-power manager. -/
def ChannelsOnly (s t : State) : Prop :=
  t = { s with chn := t.chn, spm := t.spm, trst := t.trst, fio := t.fio, fan := t.fan, hl := t.hl, le := t.le, mem := t.mem }

theorem ChannelsOnly.trans {s t u : State} (h : ChannelsOnly s t) (k : ChannelsOnly t u) : ChannelsOnly s u := by
  unfold ChannelsOnly at h k ⊢
  rw [k, h]

theorem ChannelsOnly.driveOff {s t : State} (h : ChannelsOnly s t) (hs : DriveOff s) : DriveOff t := by
  rw [h]
  exact hs

theorem ChannelsOnly.foldl {α : Type} {f : State → α → State} (hf : ∀ t a, DriveOff t → ChannelsOnly t (f t a)) (l : List α) {s : State}
    (hs : DriveOff s) : ChannelsOnly s (l.foldl f s) :=
  List.foldlRecOn (motive := ChannelsOnly s) l f rfl fun t h a _ => h.trans (hf t a (h.driveOff hs))

/-- With every axis in STO a non-safety SS1 has nothing to stop (R301). -/
theorem nonsafeSs1_driveOff (n : Fin 4) {s : State} (hs : DriveOff s) : nonsafeSs1 n s = s := by
  obtain ⟨-, -, hax⟩ := hs
  unfold nonsafeSs1
  rcases hax n with h | h <;> rw [h]

theorem setGrant_channelsOnly (s : State) (g : Fin 256 × Nat) : ChannelsOnly s (setGrant s g) := by
  unfold setGrant
  dsimp only
  split <;> rfl

theorem critStops_channelsOnly {s : State} (hs : DriveOff s) : ChannelsOnly s (critStops s) := by
  refine ChannelsOnly.foldl (fun t i ht => ?_) _ hs
  dsimp only
  split
  · rfl
  · split
    · split
      · rw [nonsafeSs1_driveOff _ ht]
        rfl
      · rfl
    · split <;> rfl

theorem spmAlloc_channelsOnly {s : State} (hs : DriveOff s) : ChannelsOnly s (spmAlloc s) := by
  obtain ⟨p, hp⟩ := showStore_frame s
  have granted (q : Spm) (l : List (Fin 256 × Nat)) : ChannelsOnly s (l.foldl setGrant { s with spm := q }) :=
    ChannelsOnly.trans (t := { s with spm := q }) rfl (ChannelsOnly.foldl (fun t g _ => setGrant_channelsOnly t g) l hs)
  unfold spmAlloc
  rw [hp]
  dsimp only
  split
  · exact (granted _ _).trans (critStops_channelsOnly ((granted _ _).driveOff hs))
  · exact granted _ _

theorem liftDrop_channelsOnly (i : Fin 256) (s : State) : ChannelsOnly s (liftDrop i s) := by
  unfold liftDrop
  split
  · split <;> rfl
  · rfl

theorem leftRunning_channelsOnly (i : Fin 256) {s : State} (hs : DriveOff s) : ChannelsOnly s (leftRunning i s) := by
  have hdrop := ChannelsOnly.trans (s := s) (t := s.modSlot i fun c => { c with feTimer := 0, grant := 0, pShed := false }) rfl
    (liftDrop_channelsOnly i _)
  exact hdrop.trans (spmAlloc_channelsOnly (hdrop.driveOff hs))

theorem fanRefresh_channelsOnly (n : Fin 8) (s : State) : ChannelsOnly s (fanRefresh n s) := by
  unfold fanRefresh
  dsimp only
  split
  · split <;> rfl
  · rfl

theorem foXfer_channelsOnly (n : Fin 32) (y : Int) (s : State) : ChannelsOnly s (foXfer n y s) := by
  unfold foXfer
  dsimp only
  split <;> rfl

/-- A board word that a channel writes, with the CONFLICT bits of its writers (R180). -/
theorem boardXfer_channelsOnly (i : Fin 256) (stage : Nat) (n : Fin 64) (y : Word) (s : State) : ChannelsOnly s (boardXfer i stage n y s) := by
  have marked (l : List RecOwner) (t : State) :
      ChannelsOnly t (if twoWriters l then l.foldl (fun t w => setConflict true w t) t else t) := by
    split
    · exact List.foldlRecOn (motive := ChannelsOnly t) l _ rfl fun u h w _ => h.trans rfl
    · rfl
  unfold boardXfer
  split
  · rfl
  · exact ChannelsOnly.trans (t := { s with le := _ }) rfl (marked _ _)

theorem xferTo_channelsOnly (i : Fin 256) (stage kind idx : Nat) (y : Int) (s : State) : ChannelsOnly s (xferTo i stage kind idx y s) := by
  unfold xferTo
  split
  · rfl
  · exact foXfer_channelsOnly _ y s
  · exact ChannelsOnly.trans (t := { s with fan := _ }) rfl (fanRefresh_channelsOnly _ _)
  · rfl
  · exact boardXfer_channelsOnly i stage _ _ s
  · rfl

theorem issueAll_channelsOnly (i : Fin 256) (hold run : Bool) {s : State} (hs : DriveOff s) : ChannelsOnly s (issueAll i hold run s) := by
  refine ChannelsOnly.foldl (fun t j _ => ?_) _ hs
  dsimp only
  split
  · exact xferTo_channelsOnly i j _ _ _ t
  · rfl
  · rfl

/-- A boundary of a channel, and its return to the allocation where it leaves RUNNING (R147, R148, R153). -/
theorem slotTurn_channelsOnly (i : Fin 256) {s : State} (hs : DriveOff s) : ChannelsOnly s (slotTurn i s) := by
  have leaves (left : Bool) {t : State} (h : ChannelsOnly s t) : ChannelsOnly s (if left then leftRunning i t else t) := by
    split
    · exact h.trans (leftRunning_channelsOnly i (h.driveOff hs))
    · exact h
  unfold slotTurn
  dsimp only
  split
  case isTrue => exact leaves _ rfl
  case isFalse =>
    split
    case h_1 f _ =>
      refine leaves _ (ChannelsOnly.trans (t := s.modSlot i _) rfl (issueAll_channelsOnly i true false ?_))
      exact hs
    case h_2 =>
      split
      · exact leaves _ rfl
      · split <;> rfl

theorem holdNow_channelsOnly (i : Fin 256) {s : State} (hs : DriveOff s) : ChannelsOnly s (holdNow i s) := by
  unfold holdNow
  dsimp only
  split
  · refine ChannelsOnly.trans (ChannelsOnly.trans (t := s.modSlot i _) rfl (slotTurn_channelsOnly i ?_)) rfl
    exact hs
  · rfl

theorem sagChannels_channelsOnly {s : State} (hs : DriveOff s) : ChannelsOnly s (sagChannels s) := by
  refine ChannelsOnly.foldl (fun t i ht => ?_) _ hs
  split
  · exact ChannelsOnly.trans (t := t.modSlot i _) rfl (holdNow_channelsOnly i ht)
  · rfl

/-! ### Channels at rest -/

/-- The state of every channel is as before. -/
def SlotStatesKept (s t : State) : Prop := ∀ i : Fin 256, t.chn.slots[i].st = s.chn.slots[i].st

theorem modSlot_statesKept (s : State) (i : Fin 256) (f : Slot → Slot) (hf : (f s.chn.slots[i]).st = s.chn.slots[i].st) :
    SlotStatesKept s (s.modSlot i f) := by
  intro j
  by_cases h : i = j
  · subst h
    exact (congrArg Slot.st (vmod_self s.chn.slots i f)).trans hf
  · exact congrArg Slot.st (vmod_other s.chn.slots i j f h)

/-- No channel runs: the channels only lose their pending STARTs (R54, R537). -/
theorem sagChannels_atRest (s : State) (hs : ∀ i : Fin 256, s.chn.slots[i].st ≠ .running) :
    ∃ c, sagChannels s = { s with chn := c } ∧ SlotStatesKept s (sagChannels s) := by
  refine List.foldlRecOn (motive := fun t : State => ∃ c, t = { s with chn := c } ∧ SlotStatesKept s t) _ _ ⟨_, rfl, fun _ => rfl⟩ ?_
  rintro t ⟨c, rfl, hst⟩ i -
  split
  · have hkept := modSlot_statesKept { s with chn := c } i (fun c => { c with startPend := false }) rfl
    have hnot := ne_of_eq_of_ne ((hkept i).trans (hst i)) (hs i)
    rw [holdNow, if_neg hnot]
    exact ⟨_, rfl, fun j => (hkept j).trans (hst j)⟩
  · exact ⟨_, rfl, hst⟩

/-! ### What every confirmed sag leaves -/

/-- The answers to refused requests are on the fabric only. -/
theorem answerRefused_frame (l : List Txn) (s : State) :
    ∃ r x, answerRefused l s = { s with fab := { s.fab with resps := r, excs := x } } := by
  refine List.foldlRecOn (motive := fun t : State => ∃ r x, t = { s with fab := { s.fab with resps := r, excs := x } }) _ _ ⟨_, _, rfl⟩ ?_
  rintro t ⟨r, x, rfl⟩ w -
  split <;> exact ⟨_, _, rfl⟩

/-- The power of the domains once the power-down of one has been decided: a domain that is on quiesces; the always-on domain stays on (R201). -/
def quiesced (d : Fin 4) (dom : Vector PowerState 4) : Vector PowerState 4 := if d = 0 ∨ dom[d] ≠ .on then dom else dom.set d .quiescing

theorem quiesced_other {d k : Fin 4} (h : k ≠ d) (dom : Vector PowerState 4) : (quiesced d dom)[k] = dom[k] := by
  unfold quiesced
  split
  · rfl
  · exact getElem_vset_other dom _ h

theorem quiesced_self {d : Fin 4} (hd : d ≠ 0) {dom : Vector PowerState 4} (h : dom[d] = .on) : (quiesced d dom)[d] = .quiescing := by
  unfold quiesced
  rw [if_neg (by simp [hd, h])]
  exact Vector.getElem_set_self d.isLt

/-- The decision touches the fabric, and the capture units of the Loop Engine domain (R201, R218, R240). -/
theorem domainPowerDown_frame (d : Fin 4) (s : State) :
    ∃ p r x c, domainPowerDown d s = { s with fab := { s.fab with dom := quiesced d s.fab.dom, pools := p, resps := r, excs := x }, cap := c } := by
  by_cases h : d = 0 ∨ s.fab.dom[d] ≠ .on
  · rw [domainPowerDown, if_pos h, quiesced, if_pos h]
    exact ⟨_, _, _, _, rfl⟩
  · rw [domainPowerDown, if_neg h, quiesced, if_neg h]
    dsimp only
    obtain ⟨r, x, hr⟩ := answerRefused_frame _ _
    rw [hr]
    exact ⟨_, _, _, _, rfl⟩

/-- A WATCH entry that ends unfinished leaves the mode (R460). -/
@[simp] theorem watchAbandon_mode (s : State) : (watchAbandon s).sys.mode = s.sys.mode := by
  unfold watchAbandon
  split <;> simp

/-- What a sag leaves once its outputs are gated: the queue, the mode, the image, the safety monitor and the other parts that no channel writes;
of the domains only the network one may quiesce, and no transaction ends. -/
structure CutKeeps (s t : State) : Prop where
  pending : t.pending = s.pending
  now : t.now = s.now
  img : t.img = s.img
  sys : t.sys = s.sys
  boot : t.boot = s.boot
  saf : t.saf = s.saf
  life : t.life = s.life
  save : t.save = s.save
  pmu : t.pmu = s.pmu
  net : t.net = s.net
  dom : t.fab.dom = quiesced 3 s.fab.dom
  flight : t.fab.flight = s.fab.flight

theorem ChannelsOnly.cut {s t : State} (h : ChannelsOnly s t) : CutKeeps s (domainPowerDown 3 (busFresh t)) := by
  obtain ⟨_, _, _, _, hd⟩ := domainPowerDown_frame 3 (busFresh t)
  rw [hd]
  constructor <;> (dsimp only [busFresh]; rw [h])

/-- The state as a confirmed sag has gated the outputs, given up a WATCH entry, lost the sessions and ended the tag writes that wait (R471, R528,
R582). -/
def sagGated (s : State) : State := tagSag (netLost (watchAbandon (lockoutOutputs false s)))

/-- A confirmed sag from there up to the power-down of the network domain: the lift ends and drive channels go HELD (R54, R201, R363). -/
def sagCut (s : State) : State := domainPowerDown 3 (busFresh (sagChannels (if s.spm.lift.isSome then liftEnd 0 s else s)))

/-- The lift that runs ends with a sag; its registers are the ship-power manager's (R363). -/
theorem liftEnd_frame (s : State) : ∃ p, (if s.spm.lift.isSome then liftEnd 0 s else s) = { s with spm := p } := by
  split <;> exact ⟨_, rfl⟩

theorem sagCut_keeps {s : State} (hs : DriveOff s) : CutKeeps s (sagCut s) := by
  obtain ⟨p, hp⟩ := liftEnd_frame s
  have hlift : ChannelsOnly s { s with spm := p } := rfl
  rw [sagCut, hp]
  exact (hlift.trans (sagChannels_channelsOnly (hlift.driveOff hs))).cut

theorem lockoutOutputs_homing (s : State) : (lockoutOutputs false s).saf.homing = s.saf.homing := rfl

theorem lockoutOutputs_sag (s : State) : (lockoutOutputs false s).life.sag = s.life.sag := rfl

@[simp] theorem sagGated_pending (s : State) : (sagGated s).pending = s.pending := by simp [sagGated, tagSag, netLost]
@[simp] theorem sagGated_now (s : State) : (sagGated s).now = s.now := by simp [sagGated, tagSag, netLost]
@[simp] theorem sagGated_img (s : State) : (sagGated s).img = s.img := by simp [sagGated, tagSag, netLost]
@[simp] theorem sagGated_boot (s : State) : (sagGated s).boot = s.boot := by simp [sagGated, tagSag, netLost]
@[simp] theorem sagGated_mem (s : State) : (sagGated s).mem = s.mem := by simp [sagGated, tagSag, netLost]
@[simp] theorem sagGated_chn (s : State) : (sagGated s).chn = s.chn := by simp [sagGated, tagSag, netLost]
@[simp] theorem sagGated_le (s : State) : (sagGated s).le = s.le := by simp [sagGated, tagSag, netLost]
@[simp] theorem sagGated_fab (s : State) : (sagGated s).fab = s.fab := by simp [sagGated, tagSag, netLost]
@[simp] theorem sagGated_save (s : State) : (sagGated s).save = s.save := by simp [sagGated, tagSag, netLost]
@[simp] theorem sagGated_pmu (s : State) : (sagGated s).pmu = s.pmu := by simp [sagGated, tagSag, netLost]
@[simp] theorem sagGated_mode (s : State) : (sagGated s).sys.mode = s.sys.mode := by simp [sagGated, tagSag, netLost]
@[simp] theorem sagGated_saf (s : State) : (sagGated s).saf = (lockoutOutputs false s).saf := by simp [sagGated, tagSag, netLost]
@[simp] theorem sagGated_sag (s : State) : (sagGated s).life.sag = s.life.sag := by simp [sagGated, tagSag, netLost, lockoutOutputs_sag]
@[simp] theorem sagGated_sess (s : State) : (sagGated s).net.sess = [] := by simp [sagGated, tagSag, netLost]
@[simp] theorem sagGated_mb (s : State) : (sagGated s).net.mb = [] := by simp [sagGated, tagSag, netLost]

theorem sagGated_driveOff (s : State) : DriveOff (sagGated s) := by
  have h := lockoutOutputs_off false s
  rw [DriveOff, ← sagGated_saf] at h
  exact h

/-- SAVE at the confirmation of a sag at a VSAVE: the reading and the instant; a pending homing leaves SAVE_HOMEST 0 (R528, R547). -/
def sagSave (v : Nat) (s : State) : Save :=
  { s.save with
    charge := false, fromVsave := s.save.ready || saveRuns s, vsave := v, vmin := v, vsave0 := v, at_ := s.now, active := true
    homeRes := if s.saf.homing.isSome then 0 else s.save.homeRes, homeAxis := if s.saf.homing.isSome then 0 else s.save.homeAxis
    resuming := false, noHoldup := false }

/-- What every confirmed sag leaves, whether a save follows or not (R201, R471, R528, R547). -/
structure SagStopped (v : Nat) (s t : State) : Prop where
  pending : t.pending = s.pending
  img : t.img = s.img
  mode : t.sys.mode = s.sys.mode
  boot : t.boot = s.boot
  pmu : t.pmu = s.pmu
  saf : t.saf = { (lockoutOutputs false s).saf with homing := none }
  sag : t.life.sag = s.life.sag
  save : t.save = sagSave v s
  sess : t.net.sess = []
  mb : t.net.mb = []
  dom : t.fab.dom = quiesced 3 s.fab.dom
  flight : t.fab.flight = s.fab.flight

/-- The marks of a confirmed sag: a pending homing is dropped, a flash command ends, and SAVE shows the sag (Sequence 19.1). -/
def sagMarked (v : Nat) (s : State) : State :=
  { s with saf := { s.saf with homing := none }, flash := { s.flash with run := none }, save := sagSave v s }

theorem sagStop_eq (v : Nat) (s : State) : sagStop v s = fieldsRefresh (sagMarked v (sagCut (sagGated s))) := by
  unfold sagStop sagMarked sagSave sagCut sagGated
  generalize tagSag (netLost (watchAbandon (lockoutOutputs false s))) = g
  dsimp only

theorem sagStop_stopped (v : Nat) (s : State) : SagStopped v s (sagStop v s) := by
  have k := sagCut_keeps (sagGated_driveOff s)
  rw [sagStop_eq]
  constructor <;>
    simp [sagMarked, sagSave, saveRuns, k.pending, k.now, k.img, k.sys, k.boot, k.saf, k.life, k.save, k.pmu, k.net, k.dom, k.flight,
      lockoutOutputs_homing]

/-! ### A sag with nothing under way -/

/-- With no channel running the memories, the lanes, the tag ports and the states of the channels stay as they were. -/
theorem sagCut_atRest (s : State) (hs : ∀ i : Fin 256, s.chn.slots[i].st ≠ .running) :
    (sagCut s).mem = s.mem ∧ (sagCut s).le = s.le ∧ (sagCut s).chest = s.chest ∧ SlotStatesKept s (sagCut s) := by
  obtain ⟨p, hp⟩ := liftEnd_frame s
  obtain ⟨c, hc, hst⟩ := sagChannels_atRest { s with spm := p } hs
  rw [hc] at hst
  obtain ⟨_, _, _, _, hd⟩ := domainPowerDown_frame 3 (busFresh { s with spm := p, chn := c })
  rw [sagCut, hp, hc, hd]
  exact ⟨rfl, rfl, rfl, hst⟩

theorem sag_free {served : Bool} {t : TagPort} (h : t.pend = false) : TagPort.sag served t = t := by
  simp [TagPort.sag, h]

/-- No tag write waits: none is served (R576). -/
theorem tagNext_free (s : State) (h : ∀ p : Fin 2, s.chest.port[p].pend = false) : tagNext s = none := by
  have h0 := h 0
  have h1 := h 1
  simp_all [tagNext]

theorem modTag_sag_free (s : State) (p : Fin 2) (served : Bool) (h : s.chest.port[p].pend = false) :
    (s.modTag p (TagPort.sag served)).chest = s.chest := by
  simp only [State.modTag, vmod, sag_free h]
  simp

theorem tagSag_free (s : State) (h : ∀ p : Fin 2, s.chest.port[p].pend = false) : (tagSag s).chest = s.chest := by
  have h0 := modTag_sag_free s 0 (decide (tagNext s = some 0)) (h 0)
  exact (modTag_sag_free _ 1 _ (by rw [h0]; exact h 1)).trans h0

theorem sagStop_atRest (v : Nat) (s : State) (hs : ∀ i : Fin 256, s.chn.slots[i].st ≠ .running)
    (hp : ∀ p : Fin 2, s.chest.port[p].pend = false) :
    (sagStop v s).mem = s.mem ∧ (sagStop v s).le = s.le ∧ tagNext (sagStop v s) = none ∧ SlotStatesKept s (sagStop v s) := by
  have hchest : (sagGated s).chest = s.chest := (tagSag_free _ (by simpa [netLost] using hp)).trans (by simp [netLost])
  obtain ⟨hmem, hle, hch, hst⟩ := sagCut_atRest (sagGated s) (by simpa using hs)
  rw [sagStop_eq]
  refine ⟨?_, ?_, tagNext_free _ ?_, ?_⟩
  · simp [sagMarked, hmem]
  · simp [sagMarked, hle]
  · simpa [sagMarked, hch, hchest] using hp
  · unfold SlotStatesKept at hst ⊢
    simpa [sagMarked] using hst

/-! ### The core domains go off -/

/-- With no sample in a lane nothing is left to finish (R211). -/
theorem leFinish_idle (s : State) (h : ∀ l : Fin 4, s.le.lanes[l].work = []) : leFinish s = s := by
  refine List.foldlRecOn (motive := fun t => t = s) _ _ rfl fun t ht l _ => ?_
  subst ht
  rw [h l]
  rfl

/-- Without a sample in a lane or a DRAINING channel the stop of the Loop Engine touches the channels' samples, the Loop Engine and the capture
units (R211, R240). -/
theorem leDown_idle (s : State) (hwork : ∀ l : Fin 4, s.le.lanes[l].work = []) (hst : ∀ i : Fin 256, s.chn.slots[i].st ≠ .draining) :
    ∃ c l k, leDown s = { s with chn := c, le := l, cap := k } := by
  have hfree : (fins 256).foldl (fun (s : State) (i : Fin 256) => if s.chn.slots[i].st = .draining then freeSlot i s else s) s = s := by
    refine List.foldlRecOn (motive := fun t => t = s) _ _ rfl fun t ht i _ => ?_
    subst ht
    exact if_neg (hst i)
  rw [leDown, leFinish_idle s hwork]
  dsimp only
  rw [hfree]
  exact ⟨_, _, _, rfl⟩

/-- Tags in return come back without a domain or a transaction in flight changing (R199). -/
theorem txnBacks_frame (l : List Txn) (s : State) :
    ∃ p r, l.foldl (fun s t => txnBack t s) s = { s with fab := { s.fab with pools := p, ret := r } } := by
  refine List.foldlRecOn (motive := fun t : State => ∃ p r, t = { s with fab := { s.fab with pools := p, ret := r } }) _ _ ⟨_, _, rfl⟩ ?_
  rintro t ⟨p, r, rfl⟩ w -
  exact ⟨_, _, rfl⟩

/-- With nothing in flight a domain goes off without an abort, and the other domains stay as they are (R201, R202, R217). -/
theorem domainOff_settled (d : Fin 4) (s : State) (hflight : s.fab.flight = []) :
    ∃ f c, domainOff d s = { s with fab := f, cap := c } ∧ f.flight = [] ∧ f.dom = s.fab.dom.set d .off := by
  have hset : (quiesced d s.fab.dom).set d .off = s.fab.dom.set d .off := by
    unfold quiesced
    split
    · rfl
    · exact Vector.set_set ..
  obtain ⟨_, _, _, _, hd⟩ := domainPowerDown_frame d s
  unfold domainOff
  rw [hd]
  dsimp only
  rw [hflight]
  dsimp only [List.filter_nil, List.foldl_nil]
  obtain ⟨_, _, hb⟩ := txnBacks_frame _ _
  rw [hb]
  exact ⟨_, _, rfl, rfl, hset⟩

theorem only_always_on (v : Vector PowerState 4) (h : v[0] = .on) :
    ((v.set 3 .off).set 2 .off).set 1 .off = #v[.on, .off, .off, .off] := by
  ext i hi
  interval_cases i <;> simp [h]

/-- The core, Loop Engine and network domains go off with nothing in flight; the always-on domain stays on (R201, R217). -/
theorem domainsOff_settled (s : State) (hflight : s.fab.flight = []) (hon : s.fab.dom[0] = .on) :
    ∃ f c, domainsOff s = { s with fab := f, cap := c, sys := { s.sys with appRun := false } } ∧ f.dom = #v[.on, .off, .off, .off] := by
  obtain ⟨f3, c3, h3, hf3, hd3⟩ := domainOff_settled 3 (busFresh s) hflight
  obtain ⟨f2, c2, h2, hf2, hd2⟩ := domainOff_settled 2 { busFresh s with fab := f3, cap := c3 } hf3
  obtain ⟨f1, c1, h1, -, hd1⟩ := domainOff_settled 1 { busFresh s with fab := f2, cap := c2 } hf2
  refine ⟨f1, c1, ?_, ?_⟩
  · rw [domainsOff, h3, h2, h1]
    rfl
  · rw [hd1, hd2, hd3]
    exact only_always_on s.fab.dom hon

/-- Whole words written to an ECC memory touch the memory and the marks of its errors only (R198). -/
theorem memPut_frame (a : Nat) (bs : List Byte) (s : State) :
    ∃ soft hard, memPut a bs s = { s with mem := memSetBytes s.mem a bs, fab := { s.fab with soft := soft, hard := hard } } :=
  ⟨_, _, rfl⟩

/-- The write of the counters touches their block of the Chest, the errors of its words and the pending increments (R579). -/
theorem lifeFlush_frame (s : State) : ∃ bs soft hard, lifeFlush s =
    { s with
      mem := memSetBytes s.mem (0x30000000 + 0x6000) bs, fab := { s.fab with soft := soft, hard := hard }
      life := { opUs := s.life.opUs % 60000000 } } := by
  unfold lifeFlush sealAt
  generalize lifeBytes _ _ = b
  obtain ⟨soft, hard, h⟩ := memPut_frame (0x30000000 + 0x6000) (b ++ wordBytes (crc32c b)) s
  rw [h]
  exact ⟨b ++ wordBytes (crc32c b), soft, hard, rfl⟩

@[simp] theorem lifeFlush_sys (s : State) : (lifeFlush s).sys = s.sys := by obtain ⟨_, _, _, h⟩ := lifeFlush_frame s; rw [h]
@[simp] theorem lifeFlush_saf (s : State) : (lifeFlush s).saf = s.saf := by obtain ⟨_, _, _, h⟩ := lifeFlush_frame s; rw [h]
@[simp] theorem lifeFlush_boot (s : State) : (lifeFlush s).boot = s.boot := by obtain ⟨_, _, _, h⟩ := lifeFlush_frame s; rw [h]

/-- The slots of the save record lie below the counters (R534, Table 21.4). -/
theorem lifeFlush_slots (s : State) (hwf : MemWf s) (a : Nat) (ha : a < 0x30006000) : memByte (lifeFlush s).mem a = memByte s.mem a := by
  obtain ⟨bs, _, _, h⟩ := lifeFlush_frame s
  rw [h]
  exact memByte_memSetBytes_out bs s.mem _ a hwf (.inl (by omega))

/-- The Drawer lies in the always-on domain (Table 20.4). -/
theorem drawerFill_frame (s : State) : ∃ d, drawerFill s = { s with aon := d } := ⟨_, rfl⟩

/-- With the Loop Engine idle, nothing in flight and no rail fault waiting, the core domains go off with the memories and the safety monitor
as they were (R202, R516, R528). -/
structure CoreGone (s t : State) : Prop where
  mode : t.sys.mode = s.sys.mode
  saf : t.saf = s.saf
  mem : t.mem = s.mem
  boot : t.boot = s.boot
  active : t.save.active = false
  coreOff : t.save.coreOff = true
  act : t.save.act = false
  pg : t.pmu.pg = 0
  dom : t.fab.dom = #v[.on, .off, .off, .off]

theorem coreDown_gone (s : State) (hset : Settled s) (hst : ∀ i : Fin 256, s.chn.slots[i].st ≠ .draining) (hrail : s.pmu.railPend = none) :
    CoreGone s (coreDown s) := by
  obtain ⟨hwork, hflight, hon⟩ := hset
  obtain ⟨c, l, k, hle⟩ := leDown_idle s hwork hst
  obtain ⟨d, hdrawer⟩ := drawerFill_frame { s with chn := c, le := l, cap := k }
  obtain ⟨f, u, hoff, hdom⟩ := domainsOff_settled { s with chn := c, le := l, cap := k, aon := d } hflight hon
  unfold coreDown
  rw [hle, hdrawer, hoff]
  simp only [fieldsRefresh_pmu, hrail]
  constructor <;> simp [hdom]

/-- A sag that no save follows, with no tag write under way: the counters are written and the core domains go off (R528, R543). -/
theorem sagUnsaved_gone (s : State) (hset : Settled s) (hst : ∀ i : Fin 256, s.chn.slots[i].st ≠ .draining) (hrail : s.pmu.railPend = none)
    (hnext : tagNext s = none) : CoreGone (lifeFlush s) (sagUnsaved s) := by
  obtain ⟨_, _, _, h⟩ := lifeFlush_frame s
  rw [sagUnsaved, hnext]
  exact coreDown_gone (lifeFlush s) (by rw [h]; exact hset) (by rw [h]; exact hst) (by rw [h]; exact hrail)

/-! ### The confirmation -/

theorem lockoutOutputs_brakes (s : State) : (lockoutOutputs false s).saf.bkH = 0 ∧ (lockoutOutputs false s).saf.bkL = 0 := by
  have hclear (x : BitVec 4) : clear4 x 0xF = 0 := by simp [clear4]
  exact ⟨hclear s.saf.bkH, hclear s.saf.bkL⟩

theorem lockoutOutputs_latch (s : State) (n : Fin 4) : (lockoutOutputs false s).saf.ax[n].latch = s.saf.ax[n].latch := by
  simp [lockoutOutputs, applyBrakes, pulsesDrop]

/-- The sag counted, as a confirmation begins. -/
def sagCounted (s : State) : State := { s with life := { s.life with sag := s.life.sag + 1 } }

/-- A sag outside another and with the core domains on is confirmed (R527). -/
theorem sagConfirm_starts (v : BitVec 16) (s : State) (hrel : s.pmu.released = true) (hup : s.pmu.rails = .up)
    (hact : s.save.active = false) (hcore : s.save.coreOff = false) :
    sagConfirm v s =
      if saveRuns s then
        { bootHalt (sagStop v.toNat (sagCounted s)) with
          save := { (bootHalt (sagStop v.toNat (sagCounted s))).save with saving := true, act := true, step := .confirmed } }
      else sagUnsaved (bootHalt (sagStop v.toNat (sagCounted s))) := by
  have hwatch : ¬(!s.pmu.released ∨ s.pmu.rails ≠ .up ∨ sagIdle s) := by simp [hrel, hup, sagIdle, hact, hcore]
  have hfirst : ¬(s.save.coreOff ∧ s.save.resuming) := by simp [hcore]
  rw [sagConfirm, if_neg hwatch, if_neg hfirst]
  unfold sagCounted
  generalize bootHalt _ = u
  dsimp only

/-- With the power not up, or in a sag, nothing is confirmed. -/
theorem sagConfirm_ignored (v : BitVec 16) (s : State) (h : s.pmu.released = false ∨ s.pmu.rails ≠ .up ∨ s.save.active = true) :
    sagConfirm v s = s := by
  refine if_pos ?_
  rcases h with h | h | h <;> simp [h, sagIdle]

/-- BOOT alone is halted; beyond that nothing changes (R545). -/
theorem bootHalt_frame (s : State) :
    ∃ b, bootHalt s = { s with boot := b } ∧ b.halted = (s.sys.mode.isBoot || s.boot.halted) := by
  unfold bootHalt
  by_cases h : s.sys.mode.isBoot = true
  · rw [if_pos h, h]
    exact ⟨_, rfl, rfl⟩
  · rw [if_neg h, eq_false_of_ne_true h]
    exact ⟨_, rfl, rfl⟩

/-- What the gated outputs of a sag are: all off, the latches and the causes kept (R537, R547). -/
theorem SagStopped.outputs {v : Nat} {s t : State} (h : SagStopped v s t) :
    DriveOff t ∧ t.saf.bkH = 0 ∧ t.saf.bkL = 0 ∧ t.saf.causes = s.saf.causes ∧ (∀ n : Fin 4, t.saf.ax[n].latch = s.saf.ax[n].latch) ∧
      t.saf.homing = none := by
  obtain ⟨hbkH, hbkL⟩ := lockoutOutputs_brakes s
  have hoff := lockoutOutputs_off false s
  unfold DriveOff at hoff ⊢
  rw [h.saf]
  exact ⟨hoff, hbkH, hbkL, lockoutOutputs_causes false s, lockoutOutputs_latch s, rfl⟩

/-- In OPERATE and LOCKOUT a save needs SAVE_READY; in BOOT none runs (R528). -/
theorem saveRuns_ready (s : State) (hmode : s.sys.mode = .operate ∨ s.sys.mode.isLockout = true) : saveRuns s = s.save.ready := by
  rcases hmode with h | h <;> cases hm : s.sys.mode <;> simp_all [saveRuns, Mode.isLockout, Mode.code]

theorem saveRuns_boot (s : State) (h : s.sys.mode.isBoot = true) : saveRuns s = false := by
  cases hm : s.sys.mode <;> simp_all [saveRuns, Mode.isBoot, Mode.isLockout, Mode.code]

/-- With SAVE_READY in OPERATE or LOCKOUT a save starts where the sag has stopped the device (R528). -/
theorem sagConfirm_saves (v : BitVec 16) (s : State) (hrel : s.pmu.released = true) (hup : s.pmu.rails = .up) (hact : s.save.active = false)
    (hcore : s.save.coreOff = false) (hmode : s.sys.mode = .operate ∨ s.sys.mode.isLockout = true) (hready : s.save.ready = true) :
    ∃ u b, SagStopped v.toNat (sagCounted s) u ∧
      sagConfirm v s = { u with boot := b, save := { u.save with saving := true, act := true, step := .confirmed } } := by
  have hruns : saveRuns s = true := (saveRuns_ready s hmode).trans hready
  obtain ⟨b, hb, -⟩ := bootHalt_frame (sagStop v.toNat (sagCounted s))
  refine ⟨sagStop v.toNat (sagCounted s), b, sagStop_stopped _ _, ?_⟩
  rw [sagConfirm_starts v s hrel hup hact hcore, if_pos hruns, hb]

/-- Without a save, and with nothing under way, the core domains go off at once; the memories are as the sag found them (R528, R543, R546). -/
theorem sagConfirm_unsaved (v : BitVec 16) (s : State) (hrel : s.pmu.released = true) (hup : s.pmu.rails = .up) (hact : s.save.active = false)
    (hcore : s.save.coreOff = false) (hruns : saveRuns s = false) (hrail : s.pmu.railPend = none)
    (hport : ∀ p : Fin 2, s.chest.port[p].pend = false) (hset : Settled s)
    (hst : ∀ i : Fin 256, s.chn.slots[i].st ≠ .running ∧ s.chn.slots[i].st ≠ .draining) :
    ∃ u b, SagStopped v.toNat (sagCounted s) u ∧ u.mem = s.mem ∧ b.halted = (s.sys.mode.isBoot || s.boot.halted) ∧
      CoreGone (lifeFlush { u with boot := b }) (sagConfirm v s) := by
  have k := sagStop_stopped v.toNat (sagCounted s)
  obtain ⟨hmem, hle, hnext, hkept⟩ := sagStop_atRest v.toNat (sagCounted s) (fun i => (hst i).1) hport
  have hconf := sagConfirm_starts v s hrel hup hact hcore
  rw [if_neg (ne_true_of_eq_false hruns)] at hconf
  generalize sagStop v.toNat (sagCounted s) = u at k hmem hle hnext hkept hconf
  obtain ⟨b, hb, hhalt⟩ := bootHalt_frame u
  obtain ⟨hwork, hflight, hon⟩ := hset
  have hidle : ∀ l : Fin 4, u.le.lanes[l].work = [] := by
    rw [hle]
    exact hwork
  have honly : u.fab.dom[(0 : Fin 4)] = .on := by
    rw [k.dom]
    exact (quiesced_other (d := 3) (k := 0) (by decide) s.fab.dom).trans hon
  have hpend : u.pmu.railPend = none := (congrArg Pmu.railPend k.pmu).trans hrail
  have hnone (i : Fin 256) : u.chn.slots[i].st ≠ .draining := ne_of_eq_of_ne (hkept i) (hst i).2
  refine ⟨u, b, k, hmem, ?_, ?_⟩
  · rw [hhalt, k.mode, k.boot]
    rfl
  · rw [hconf, hb]
    exact sagUnsaved_gone { u with boot := b } ⟨hidle, k.flight.trans hflight, honly⟩ hnone hpend hnext

/-- Settles O50: the SAVE_READY commands and HOLDUP_LOW by their own conditions; a confirmed sag by what it leaves whether a save follows or
not, and without a save by what the core domains leave as they go off. -/
theorem sagConfirmed : Obligations.SagConfirmed := by
  unfold Obligations.SagConfirmed
  refine ⟨fun s v hres => ⟨fun hlow => ?below, fun hhigh => ?reached⟩, fun s v => ⟨fun hlow => ?fallen, fun hhigh => ?held⟩,
    fun s hmode hready hact hcore => ?low, fun s hlock hready hact hcore => ?lowAgain, fun s h => ?ready,
    fun s v hrel hup hact hcore hmode hready => ?saves, fun s v hrel hup hact hcore hwf hrail hport hset hst hmode => ?unsaved,
    fun s v h => congrArg Host.Outcome.next (sagConfirm_ignored v s h)⟩
  case below => exact congrArg Host.Outcome.next (if_pos hlow)
  case reached =>
    exact congrArg Host.Outcome.next ((if_neg (Nat.not_lt.mpr hhigh)).trans (if_neg (ne_true_of_eq_false hres)))
  case fallen => exact congrArg (fun r => Host.Outcome.next { s with save := { s.save with vsave := v.toNat, ready := r } }) (if_pos hlow)
  case held =>
    exact congrArg (fun r => Host.Outcome.next { s with save := { s.save with vsave := v.toNat, ready := r } }) (if_neg (Nat.not_lt.mpr hhigh))
  case low =>
    have hraise : holdupLow s = raise cHoldupLow 0xFF 0 s := if_pos (by simp [hmode, hready, hact, hcore])
    exact ⟨_, congrArg Host.Outcome.next hraise, raise_enters _ _ _ s (by decide) (.inr hmode), raise_frame ..⟩
  case lowAgain =>
    have hraise : holdupLow s = raise cHoldupLow 0xFF 0 s := if_pos (by simp [hlock, hready, hact, hcore])
    have hrecord : raise cHoldupLow 0xFF 0 s = recordCause cHoldupLow 0xFF 0 s := raise_inLockout _ _ _ s (by decide) (by decide) hlock
    refine ⟨_, congrArg Host.Outcome.next hraise, ?_, ?_, raise_frame ..⟩
    · rw [hrecord, recordCause_sys]
    · rw [hrecord]
      exact recordCause_causes ..
  case ready =>
    refine congrArg Host.Outcome.next (if_neg ?_)
    rcases h with h | h | h <;> simp [h]
  case saves =>
    obtain ⟨u, b, k, hconf⟩ := sagConfirm_saves v s hrel hup hact hcore hmode hready
    obtain ⟨hoff, hbkH, hbkL, hcauses, hlatch, hhoming⟩ := k.outputs
    refine ⟨_, congrArg Host.Outcome.next hconf, k.pending, k.img, k.mode, hcauses, hoff, hbkH, hbkL, hlatch, k.sess, k.mb, ?_⟩
    dsimp only
    rw [k.save, k.dom, k.sag, sagSave]
    refine ⟨rfl, rfl, rfl, rfl, rfl, ?_, rfl, rfl, hhoming, fun hhomes => if_pos hhomes, ?_, fun hon => ?_, rfl⟩
    · exact congrArg (· || saveRuns (sagCounted s)) hready
    · exact quiesced_other (d := 3) (k := 2) (by decide) s.fab.dom
    · exact quiesced_self (d := 3) (by decide) hon
  case unsaved =>
    have hruns : saveRuns s = false := by
      rcases hmode with ⟨hmode, hready⟩ | hboot
      · exact (saveRuns_ready s hmode).trans hready
      · exact saveRuns_boot s hboot
    obtain ⟨u, b, k, hmem, hhalt, gone⟩ := sagConfirm_unsaved v s hrel hup hact hcore hruns hrail hport hset hst
    obtain ⟨hoff, hbkH, -, hcauses, -, -⟩ := k.outputs
    have hwfu : MemWf { u with boot := b } := by rwa [MemWf, hmem]
    have hsaf : (sagConfirm v s).saf = u.saf := gone.saf.trans (lifeFlush_saf _)
    refine ⟨_, rfl, ?_, ?_, ?_, ?_, gone.active, gone.coreOff, gone.act, gone.pg, gone.dom, ?_, fun a _ ha => ?_⟩
    · exact gone.mode.trans ((congrArg Sys.mode (lifeFlush_sys _)).trans k.mode)
    · exact (congrArg Saf.causes hsaf).trans hcauses
    · rwa [DriveOff, hsaf]
    · exact (congrArg Saf.bkH hsaf).trans hbkH
    · exact (congrArg Boot.halted (gone.boot.trans (lifeFlush_boot _))).trans hhalt
    · rw [gone.mem, lifeFlush_slots _ hwfu a ha, hmem]

end Sys2Proof.Machine
end
